-- ==== Sys2Proof/Config.lean ====
section
/-! DEFINITION. The capacities and limits the manual fixes (Introduction, "Capacities").  The manual leaves no value of a result
open, so this file declares no free value. -/

namespace Sys2Proof.Config

/-- R1: the Stock Table holds at most 512 records. -/
abbrev maxSlabs : Nat := 512
/-- R5: a rack list holds at most 16 records. -/
abbrev rackSize : Nat := 16
/-- R7: the first serial the part issues. -/
abbrev firstRemnantSerial : Nat := 0xF00000
/-- R7: the last serial the part issues. -/
abbrev lastRemnantSerial : Nat := 0xFFFFFF
/-- R12: a stock search returns at most 12 serials. -/
abbrev listStockMax : Nat := 12
/-- R23: the piece table holds at most 1,024 pieces. -/
abbrev maxPieces : Nat := 1024
/-- R23: a job has at most 48 pieces. -/
abbrev jobPieces : Nat := 48
/-- R34: READ_JOB returns at most six piece records. -/
abbrev readJobMax : Nat := 6
/-- R44: a layout has at most 8 strips. -/
abbrev maxStrips : Nat := 8
/-- R57: a plan's piece set holds at most 32 pieces. -/
abbrev planPieces : Nat := 32
/-- R75: READ_PLAN returns at most 16 pieces or unfit entries. -/
abbrev readPlanMax : Nat := 16
/-- R75: READ_PLAN returns at most 4 placements. -/
abbrev readPlacementsMax : Nat := 4
/-- R77: a 32-bit meter saturates here. -/
abbrev meterMax : Nat := 4294967295
/-- R96: the dry timer's end, in deciseconds. -/
abbrev dryLimit : Nat := 30
/-- R100: the last stamp. -/
abbrev stampMax : Nat := 4294967295
/-- R135, R140: the largest rate and the largest quantity of a charge. -/
abbrev rateMax : Nat := 16777215
/-- R139: an accumulator's largest value, 2^48 - 1. -/
abbrev accMax : Nat := 281474976710655
/-- R146, R147: the largest figure in cents. -/
abbrev centsMax : Nat := 4294967295
/-- R182: the notice set holds at most 32 entries. -/
abbrev maxNotices : Nat := 32
/-- R184: READ_NOTICES returns at most 12 entries. -/
abbrev readNoticesMax : Nat := 12
/-- R120, R116: the cycle counter and the batch count stop here. -/
abbrev plantMax : Nat := 65535

end Sys2Proof.Config
end

