-- ==== Sys2Proof/Word.lean ====
section
/-! DEFINITION. The byte of the shop link (R177).  Every quantity of the part is an unsigned integer (Introduction, "Units and
number conventions") and is a `Nat`; bytes are bit vectors because the link shifts them and the tag check works on their bits. -/

namespace Sys2Proof

/-- One byte of a frame or of the tag check (R3, R177). -/
abbrev Byte := BitVec 8

end Sys2Proof
end

