-- ==== Sys2Proof/Syntax.lean ====
section
/-! DEFINITION. The commands of the part: one constructor for each row of spec/opcode_table.json, in the table's order.

A REQUEST carries the fields its rule names, as the raw unsigned values of the link (R189): a named value travels as its ordinal, a
tag as its serial and its check.  A value outside what a rule allows is therefore a term like any other, and the meaning refuses it
with the status the rule gives.  An EVENT of the part's lines and timers carries what the event itself brings: the levels on the
sampled input lines, the station whose timer ran out, the bytes or the number of bytes of a transaction. -/

namespace Sys2Proof

/-- The commands (spec/opcode_table.json). -/
inductive Instr where
  /-- ADMIT_SLAB, R9. -/
  | admitSlab (serial check kind material thickness nomLen nomWid head tail near far rack : Nat)
  /-- FIND_SLAB, R10. -/
  | findSlab (serial check : Nat)
  /-- LIST_STOCK, R11: `selector` is 0 ANY, 1 SLAB, 2 REMNANT. -/
  | listStock (material minLen minWid selector : Nat)
  /-- MOVE_SLAB, R13. -/
  | moveSlab (serial check rack : Nat)
  /-- HOLD_SLAB, R14. -/
  | holdSlab (serial check : Nat)
  /-- RELEASE_SLAB, R14. -/
  | releaseSlab (serial check : Nat)
  /-- TRIM_SLAB, R15. -/
  | trimSlab (serial check head tail near far : Nat)
  /-- RETIRE_SLAB, R16. -/
  | retireSlab (serial check : Nat)
  /-- SET_RACK_CLASS, R6. -/
  | setRackClass (rack cls : Nat)
  /-- OPEN_JOB, R29. -/
  | openJob (job level budget hold : Nat)
  /-- ADD_PIECE, R30. -/
  | addPiece (job len wid grain : Nat)
  /-- DELETE_PIECE, R31. -/
  | deletePiece (job idx : Nat)
  /-- RELEASE_PIECE, R32. -/
  | releasePiece (job idx : Nat)
  /-- SET_JOB, R33. -/
  | setJob (job level budget hold : Nat)
  /-- READ_JOB, R34. -/
  | readJob (job first : Nat)
  /-- CLOSE_JOB, R35. -/
  | closeJob (job : Nat)
  /-- OPEN_PLAN, R61. -/
  | openPlan (serial check station : Nat)
  /-- PLAN_ADD, R62. -/
  | planAdd (plan job idx : Nat)
  /-- PLAN_REMOVE, R63. -/
  | planRemove (plan job idx : Nat)
  /-- LAYOUT, R64. -/
  | layout (plan : Nat)
  /-- COMMIT, R69 and R70. -/
  | commit (plan : Nat)
  /-- ABANDON, R72 to R74. -/
  | abandon (plan : Nat)
  /-- READ_PLAN with the part SUMMARY, R75. -/
  | readPlanSummary (plan first : Nat)
  /-- READ_PLAN with the part PIECES, R75. -/
  | readPlanPieces (plan first : Nat)
  /-- READ_PLAN with the part STRIPS, R75. -/
  | readPlanStrips (plan first : Nat)
  /-- READ_PLAN with the part PLACEMENTS, R75. -/
  | readPlanPlacements (plan first : Nat)
  /-- READ_PLAN with the part UNFIT, R75. -/
  | readPlanUnfit (plan first : Nat)
  /-- STATION_ONLINE, R80. -/
  | stationOnline (station maxThick : Nat)
  /-- STATION_OFFLINE, R81. -/
  | stationOffline (station : Nat)
  /-- SET_BLADE, R83. -/
  | setBlade (station kerf life : Nat)
  /-- LOAD_SLAB, R86 and R87. -/
  | loadSlab (station serial check : Nat)
  /-- NEXT_CUT, R88 to R90. -/
  | nextCut (station : Nat)
  /-- CUT_DONE, R92 and R93. -/
  | cutDone (station plan index : Nat)
  /-- SET_WATER in the STATION form, R112. -/
  | setWaterStation (station flow hold : Nat)
  /-- SET_WATER in the ARBITER form, R113: the floors are for the clean bands 0 to 7. -/
  | setWaterArbiter (capacity f0 f1 f2 f3 f4 f5 f6 f7 : Nat)
  /-- READ_WATER in the STATION form, R114. -/
  | readWaterStation (station : Nat)
  /-- READ_WATER in the ARBITER form, R114. -/
  | readWaterArbiter
  /-- PLANT_START, R129. -/
  | plantStart (mode reset : Nat)
  /-- PLANT_STOP, R130. -/
  | plantStop
  /-- PLANT_RESET_CYCLE, R132. -/
  | plantResetCycle
  /-- PLANT_SET naming BUFFER_MODE, R128. -/
  | plantSetBufferMode (value : Nat)
  /-- PLANT_SET naming a setting, R128. -/
  | plantSet (name value : Nat)
  /-- READ_PLANT, R133. -/
  | readPlant
  /-- SET_MATERIAL_RATE, R137. -/
  | setMaterialRate (code rate : Nat)
  /-- SET_WATER_RATE, R138. -/
  | setWaterRate (rate : Nat)
  /-- SET_MACHINE_RATE, R138. -/
  | setMachineRate (station rate : Nat)
  /-- READ_COST, R148. -/
  | readCost (job : Nat)
  /-- CLEAR_OVERHEAD, R149. -/
  | clearOverhead
  /-- CUT_SPOILED, R166 and R167. -/
  | cutSpoiled (station plan index : Nat)
  /-- BREAK_SLAB, R169 and R170. -/
  | breakSlab (station : Nat)
  /-- CANCEL_JOB, R171 to R175. -/
  | cancelJob (job : Nat)
  /-- READ_NOTICES, R184. -/
  | readNotices
  /-- OPEN_SHOP, R186. -/
  | openShop (shortMin longMin : Nat)
  /-- CLOSE_SHOP, R187. -/
  | closeShop
  /-- A received frame that spells no request of the table, R180: its bytes as received. -/
  | badFrame (bytes : List Byte)
  /-- A null frame, R178 and R179: the number of bytes the transaction clocks out. -/
  | responseRead (clocked : Nat)
  /-- A further request frame while one is held, R181: the number of bytes of its transaction. -/
  | requestDiscarded (clocked : Nat)
  /-- The RESET input, R188. -/
  | reset
  /-- Power reaching its working level, R188. -/
  | powerOn
  /-- The 10 ms tick, R94: the levels on SPIN0 to SPIN5. -/
  | sampleTick (spin : BitVec 6)
  /-- The 100 ms tick, R95: the levels on the three band inputs and on TURB (`true` is CLOUDY). -/
  | decisecondTick (sump settling clean : Fin 8) (cloudy : Bool)
  /-- The dry timer of a station has reached 30, R96. -/
  | dryRun (station : Fin 6)
  /-- The blade run meter of a station has reached the blade life, R84. -/
  | bladeLife (station : Fin 6)
  /-- The hold timer of a station has reached 0, R109. -/
  | holdTimerExpiry (station : Fin 6)
  /-- The 1 s tick, R120. -/
  | plantTick
  /-- The counter has reached fill_timeout, R123. -/
  | fillTimeout
  /-- The counter has reached dose_end, R124. -/
  | doseEnd
  /-- The counter has reached settle_end, R124. -/
  | settleEnd
  /-- The sludge countdown has reached 0, R126. -/
  | sludgeEnd
  /-- The idle Layout Engine takes the head of the layout queue, R65. -/
  | engineTake
  /-- The computation in progress completes, R40 and R67. -/
  | layoutComplete
  deriving DecidableEq, Repr

end Sys2Proof
end

