-- ==== Sys2Proof/Machine/State.lean ====
section
/-! DEFINITION. The records of the part, block by block (Introduction, "Block overview"), the reasons a step may stop, and the
state after reset (R188 and the rules it names).

A view that the manual gives beside a record and that the record determines is not stored twice: a slab's check, usable geometry
and position, a plan's station role, a job's piece list, the output lines and RDY are computed (Machine/Operands.lean,
Machine/Flags.lean, Machine/Ops.lean). -/

namespace Sys2Proof.Machine

/-! ## Stock Table (chapter 1) -/

/-- R1, R6: the kind of a slab record, and the class of a rack. -/
inductive SlabKind | slab | remnant
  deriving DecidableEq, Repr

/-- R1, R4: the state of a slab record. -/
inductive SlabState | available | reserved | onSaw | held
  deriving DecidableEq, Repr

/-- R5: where a slab record is.  Its position in a rack is its place in that rack's list. -/
inductive Place
  | rack (r : Fin 32)
  | bed (st : Fin 6)
  | unracked
  deriving DecidableEq, Repr

/-- R1: a slab record. -/
structure Slab where
  serial : Nat
  kind : SlabKind
  material : Fin 32
  thickness : Nat
  nomLen : Nat
  nomWid : Nat
  head : Nat
  tail : Nat
  near : Nat
  far : Nat
  state : SlabState
  place : Place
  plan : Option (Fin 16)
  parent : Option Nat
  gen : Nat
  deriving DecidableEq, Repr

/-- R1, R5, R6, R7: the records in ascending serial, the rack lists of serials front first, the rack classes, the remnant serial
counter. -/
structure Stock where
  slabs : List Slab
  racks : Vector (List Nat) 32
  classes : Vector SlabKind 32
  nextSerial : Nat
  deriving DecidableEq, Repr

/-! ## Job Table and cost records (chapters 2 and 8) -/

/-- R20, R22: the state of a job. -/
inductive JobState | opened | cancelling
  deriving DecidableEq, Repr

/-- R139: the five categories. -/
inductive Category | material | saw | water | spoil | waste
  deriving DecidableEq, Repr

/-- R139: an accumulator in Q16 cents and its clipped flag. -/
structure Acc where
  value : Nat
  clipped : Bool
  deriving DecidableEq, Repr

/-- R139: the five accumulators of a job. -/
structure CostRecord where
  material : Acc
  saw : Acc
  water : Acc
  spoil : Acc
  waste : Acc
  deriving DecidableEq, Repr

/-- R20: a job record; its number is its slot. -/
structure Job where
  state : JobState
  level : Nat
  budget : Nat
  hold : Bool
  overBudget : Bool
  openCount : Nat
  cost : CostRecord
  deriving DecidableEq, Repr

/-- R23: the grain of a piece. -/
inductive Grain | fixed | free
  deriving DecidableEq, Repr

/-- R23, R24: the state of a piece. -/
inductive PieceState | unplanned | drafted | queued | issued | cut | held
  deriving DecidableEq, Repr

/-- R23: a piece is named by its job and its index. -/
structure PieceId where
  job : Fin 64
  idx : Nat
  deriving DecidableEq, Repr

/-- R23: a piece record. -/
structure Piece where
  id : PieceId
  len : Nat
  wid : Nat
  grain : Grain
  state : PieceState
  plan : Option (Fin 16)
  spoil : Nat
  deriving DecidableEq, Repr

/-- R20, R23: the 64 job slots and the piece table, in ascending job and index. -/
structure JobTable where
  slots : Vector (Option Job) 64
  pieces : List Piece
  deriving DecidableEq, Repr

/-! ## Layouts and the Layout Engine (chapter 3) -/

/-- R44: a strip; its number is its place in the list, from 1. -/
structure Strip where
  y : Nat
  height : Nat
  cursor : Nat
  deriving DecidableEq, Repr

/-- R59: the state of a placement. -/
inductive PlaceState | queued | issued | cut | spoiled | void | returned
  deriving DecidableEq, Repr

/-- R48: a placement; its index is its place in the list, from 0.  The state is absent until the plan is committed. -/
structure Placement where
  piece : PieceId
  strip : Nat
  x : Nat
  y : Nat
  xe : Nat
  ye : Nat
  rotated : Bool
  state : Option PlaceState
  deriving DecidableEq, Repr

/-- R47: why a piece is unfit. -/
inductive UnfitReason | tooLarge | noRoom
  deriving DecidableEq, Repr

/-- R47: an unfit entry. -/
structure Unfit where
  piece : PieceId
  reason : UnfitReason
  deriving DecidableEq, Repr

/-- R50, R51: the kind of a remnant candidate. -/
inductive CandKind | top | tail | none
  deriving DecidableEq, Repr

/-- R51: the layout's candidate. -/
structure Candidate where
  kind : CandKind
  len : Nat
  wid : Nat
  deriving DecidableEq, Repr

/-- R54: the layout record. -/
structure Layout where
  strips : List Strip
  placements : List Placement
  unfit : List Unfit
  candidate : Candidate
  placed : Nat
  yieldQ15 : Nat
  deriving DecidableEq, Repr

/-- R38: a captured piece. -/
structure CapPiece where
  id : PieceId
  len : Nat
  wid : Nat
  grain : Grain
  deriving DecidableEq, Repr

/-- R38: the captured inputs of a computation. -/
structure Captures where
  ul : Nat
  uw : Nat
  kerf : Nat
  pieces : List CapPiece
  shortMin : Nat
  longMin : Nat
  deriving DecidableEq, Repr

/-- R37, R44: the working state of a computation. -/
structure Work where
  strips : List Strip
  placements : List Placement
  unfit : List Unfit
  nextY : Nat
  deriving DecidableEq, Repr

/-- R37: the computation in progress. -/
structure Computation where
  plan : Fin 16
  number : Nat
  cap : Captures
  work : Work
  deriving DecidableEq, Repr

/-- R37, R39: the engine, the number the next computation takes, and the remnant minimums. -/
structure Engine where
  current : Option Computation
  nextNumber : Nat
  shortMin : Nat
  longMin : Nat
  deriving DecidableEq, Repr

/-! ## Plan Table (chapter 4) -/

/-- R57, R58: the state of a plan that is not FREE, with the fields present in that state only: the computation number in LAYING;
the kerf and the layout from LAID on; the material rate from COMMITTED on. -/
inductive Phase
  | draft
  | laying (number : Option Nat)
  | laid (kerf : Nat) (layout : Layout)
  | committed (kerf : Nat) (layout : Layout) (rate : Nat)
  | cutting (kerf : Nat) (layout : Layout) (rate : Nat)
  deriving DecidableEq, Repr

/-- R57: a plan record; its number is its slot. -/
structure Plan where
  serial : Nat
  station : Fin 6
  pieces : List PieceId
  stale : Bool
  phase : Phase
  deriving DecidableEq, Repr

/-- R57, R65: the plan slots (`none` is FREE) and the layout queue, head first. -/
structure PlanTable where
  slots : Vector (Option Plan) 16
  queue : List (Fin 16)
  deriving DecidableEq, Repr

/-! ## Station Units (chapter 5) and the stations' water state (chapter 6) -/

/-- R78: the state of a station. -/
inductive StationMode | offline | ready | loaded
  deriving DecidableEq, Repr

/-- R77: a cut entry; its job is the job of its piece. -/
structure CutEntry where
  plan : Fin 16
  index : Nat
  piece : PieceId
  deriving DecidableEq, Repr

/-- R77, R109: a station record with its water state.  `hold` is the hold timer: absent when idle, else the remaining time, 0 when
the time has run out and the expiry is due.  `dryDue` and `bladeDue` are the MODEL's own: the tick has brought the timer or the
meter to its end, and the event that the table makes a step of its own (DRY_RUN, BLADE_LIFE) has not been taken yet. -/
structure Station where
  mode : StationMode
  kerf : Nat
  life : Nat
  bladeMeter : Nat
  maxThick : Nat
  flow : Nat
  holdSetting : Nat
  machineRate : Nat
  queue : List CutEntry
  current : Option (Fin 16)
  next : Option (Fin 16)
  issued : Option CutEntry
  spindle : Bool
  spindleRun : Nat
  runMeter : Nat
  waterMeter : Nat
  remainder : Nat
  runSnap : Nat
  waterSnap : Nat
  dryTimer : Nat
  dryCount : Nat
  hold : Option Nat
  dryDue : Bool
  bladeDue : Bool
  deriving DecidableEq, Repr

/-! ## Grant Arbiter (chapter 6) -/

/-- R99: a pending request. -/
structure Request where
  station : Fin 6
  level : Nat
  stamp : Nat
  deriving DecidableEq, Repr

/-- R99: a held grant with its under-floor mark. -/
structure Grant where
  station : Fin 6
  level : Nat
  stamp : Nat
  mark : Bool
  deriving DecidableEq, Repr

/-- R99, R101: the arbiter.  `grants` is in ascending station; `floor` is the effective floor as last formed. -/
structure Arbiter where
  pending : List Request
  grants : List Grant
  capacity : Nat
  table : Vector Nat 8
  floor : Nat
  stamp : Nat
  deriving DecidableEq, Repr

/-! ## Plant Controller (chapter 7) -/

/-- R117: an input filter over the values of its input. -/
structure InputFilter (α : Type) where
  accepted : α
  candidate : α
  run : Nat
  deriving DecidableEq, Repr

/-- R116: the cycle state. -/
inductive CycleState | idle | fill | dose | settle | decant | decantWait | sludge | stopped
  deriving DecidableEq, Repr

/-- R116: the plant's mode. -/
inductive PlantMode | repeating | oneShot
  deriving DecidableEq, Repr

/-- R127: the eight settings. -/
structure Settings where
  doseEnd : Nat
  settleEnd : Nat
  sludgeTime : Nat
  fillTimeout : Nat
  fillTarget : Nat
  fillMin : Nat
  fillStart : Nat
  decantFloor : Nat
  deriving DecidableEq, Repr

/-- R116, R130: the phase and the counter remembered in STOPPED. -/
structure Remembered where
  phase : CycleState
  counter : Nat
  deriving DecidableEq, Repr

/-- R116: the Plant Controller.  The turbidity value `true` is CLOUDY. -/
structure Plant where
  sump : InputFilter (Fin 8)
  settling : InputFilter (Fin 8)
  clean : InputFilter (Fin 8)
  turbidity : InputFilter Bool
  cycle : CycleState
  started : Bool
  remembered : Option Remembered
  mode : PlantMode
  counter : Nat
  batches : Nat
  active : Settings
  buffered : Settings
  bufferMode : Bool
  deriving DecidableEq, Repr

/-! ## Cost Unit's rate set (chapter 8) -/

/-- R135: the material rates and the water rate; the machine rates are fields of the station records (R77). -/
structure Rates where
  material : Vector Nat 32
  water : Nat
  deriving DecidableEq, Repr

/-! ## Link Interface (chapter 11) -/

/-- R181: the status outcomes. -/
inductive Status
  | ok | accepted | notFound | duplicate | badField | badTag | badState | full | busy | blocked | wrongSlab | tooThick
  | kerfConflict | waitWater | heldOnly | bladeWorn | notRunning | badKind | badLength
  deriving DecidableEq, Repr

/-- R177: a response: its status and the bytes of its body. -/
structure Response where
  status : Status
  body : List Byte
  deriving DecidableEq, Repr

/-- R189: the notice kinds. -/
inductive NoticeKind
  | laid | granted | revoked | dryRun | bladeLife | slabClosed | remnantLost | remnantUnracked | recut | pieceHeld | budget
  | clipped | plantPhase | plantFault | sumpHigh | band
  deriving DecidableEq, Repr

/-- R182: an entry of the notice set. -/
structure Notice where
  kind : NoticeKind
  object : Nat
  count : Nat
  deriving DecidableEq, Repr

/-- R185: the shop mode. -/
inductive ShopMode | loading | running
  deriving DecidableEq, Repr

/-- R178 to R185: the response buffer, whether the part holds one received request behind the response just completed (R181), the
notice set oldest first, the overflow flag, the shop mode, and the bytes the part presented on its data line in the last
transaction. -/
structure Link where
  response : Option Response
  held : Bool
  notices : List Notice
  overflow : Bool
  mode : ShopMode
  miso : List Byte
  deriving DecidableEq, Repr

/-- Introduction, "The outside of the part": the level on the RESET input (`true` is active), and the levels on the sampled input
lines, as the last tick that samples them found them. -/
structure Pins where
  reset : Bool
  spin : BitVec 6
  sump : Fin 8
  settling : Fin 8
  clean : Fin 8
  cloudy : Bool
  deriving DecidableEq, Repr

/-! ## The state -/

/-- The whole part, and the commands that wait for it, first in, first out. -/
structure State where
  stock : Stock
  jobs : JobTable
  engine : Engine
  plans : PlanTable
  stations : Vector Station 6
  arbiter : Arbiter
  plant : Plant
  rates : Rates
  link : Link
  pins : Pins
  pending : List Instr
  deriving DecidableEq, Repr

/-- Why a step may stop with a fault.  No command of this part does: the manual gives every command an effect or a failing status
in every state. -/
inductive Fault
  /-- Raised by no command.  Safe: the host's interface wants a type of reasons, and this is its only value. -/
  | none
  deriving DecidableEq, Repr

/-- Why a step may be refused. -/
inductive Refusal
  /-- Raised by `exec` for a command that has no meaning yet (there is none left).  Safe: the model then claims nothing. -/
  | notModelled (mnemonic : String)
  deriving DecidableEq, Repr

/-! ## Reset (R188) -/

/-- R8. -/
def Stock.reset : Stock where
  slabs := []
  racks := Vector.replicate 32 []
  classes := Vector.replicate 28 SlabKind.slab ++ Vector.replicate 4 SlabKind.remnant
  nextSerial := Config.firstRemnantSerial

/-- R139: an empty accumulator. -/
def Acc.zero : Acc where
  value := 0
  clipped := false

/-- R139: the cost record of a job just opened. -/
def CostRecord.zero : CostRecord where
  material := Acc.zero
  saw := Acc.zero
  water := Acc.zero
  spoil := Acc.zero
  waste := Acc.zero

/-- R21, R36: job 0 after reset. -/
def Job.overhead : Job where
  state := .opened
  level := 0
  budget := 0
  hold := false
  overBudget := false
  openCount := 0
  cost := CostRecord.zero

/-- R36. -/
def JobTable.reset : JobTable where
  slots := (Vector.replicate 64 none).set 0 (some Job.overhead)
  pieces := []

/-- R37, R39. -/
def Engine.reset : Engine where
  current := none
  nextNumber := 0
  shortMin := 300
  longMin := 600

/-- R76. -/
def PlanTable.reset : PlanTable where
  slots := Vector.replicate 16 none
  queue := []

/-- R98; R112 for the flow and the hold setting; R153 for the machine rate; R115 for the hold timer. -/
def Station.reset : Station where
  mode := .offline
  kerf := 4
  life := 0
  bladeMeter := 0
  maxThick := 60
  flow := 120
  holdSetting := 60
  machineRate := 0
  queue := []
  current := none
  next := none
  issued := none
  spindle := false
  spindleRun := 0
  runMeter := 0
  waterMeter := 0
  remainder := 0
  runSnap := 0
  waterSnap := 0
  dryTimer := 0
  dryCount := 0
  hold := none
  dryDue := false
  bladeDue := false

/-- R115: the effective floor reads 7. -/
def Arbiter.reset : Arbiter where
  pending := []
  grants := []
  capacity := 4
  table := #v[7, 5, 3, 1, 0, 0, 0, 0]
  floor := 7
  stamp := 1

/-- R127: the settings after reset. -/
def Settings.reset : Settings where
  doseEnd := 120
  settleEnd := 1800
  sludgeTime := 60
  fillTimeout := 900
  fillTarget := 6
  fillMin := 4
  fillStart := 5
  decantFloor := 2

/-- R117: a filter whose candidate equals its accepted value. -/
def InputFilter.resting {α : Type} (a : α) : InputFilter α where
  accepted := a
  candidate := a
  run := 0

/-- R117, R134. -/
def Plant.reset : Plant where
  sump := InputFilter.resting 0
  settling := InputFilter.resting 0
  clean := InputFilter.resting 0
  turbidity := InputFilter.resting false
  cycle := .idle
  started := false
  remembered := none
  mode := .repeating
  counter := 0
  batches := 0
  active := Settings.reset
  buffered := Settings.reset
  bufferMode := false

/-- R153. -/
def Rates.reset : Rates where
  material := Vector.replicate 32 0
  water := 0

/-- R188: the Link Interface's own state. -/
def Link.reset : Link where
  response := none
  held := false
  notices := []
  overflow := false
  mode := .loading
  miso := []

/-- RESET released, and the input lines before any tick has sampled them (DESIGN CHOICE, assumption 4: they are not records of the
part). -/
def Pins.idle : Pins where
  reset := false
  spin := 0
  sump := 0
  settling := 0
  clean := 0
  cloudy := false

/-- R188: the part right after reset. -/
def State.reset : State where
  stock := Stock.reset
  jobs := JobTable.reset
  engine := Engine.reset
  plans := PlanTable.reset
  stations := Vector.replicate 6 Station.reset
  arbiter := Arbiter.reset
  plant := Plant.reset
  rates := Rates.reset
  link := Link.reset
  pins := Pins.idle
  pending := []

end Sys2Proof.Machine
end

