-- ==== Sys2Proof/Machine/Operands.lean ====
section
/-! DEFINITION. The forms of the values a command carries and a response sends: big-endian fields and absent fields (R177, R189),
the ordinals and codes of named values (R189, R181), clamping (Introduction, "Naming conventions"), and the tag check (R3). -/

namespace Sys2Proof.Machine

/-! ## Fields on the link (R177, R189) -/

/-- A field of `w` bytes, most significant byte first (R177). -/
def be : Nat → Nat → List Byte
  | 0, _ => []
  | w + 1, n => be w (n / 256) ++ [BitVec.ofNat 8 n]

/-- The number a big-endian field spells (R177). -/
def ofBe (bs : List Byte) : Nat :=
  bs.foldl (fun n b => 256 * n + b.toNat) 0

/-- A flag: 0 for clear and 1 for set (R189). -/
def flagByte (b : Bool) : List Byte :=
  be 1 (if b then 1 else 0)

/-- A one-byte number that may be absent: 0xFF when it is (R189). -/
def optByte : Option Nat → List Byte
  | some n => be 1 n
  | none => be 1 0xFF

/-- A field of more than one byte that may be absent: a presence byte, then the field or zeros (R189). -/
def optField (w : Nat) : Option Nat → List Byte
  | some n => be 1 1 ++ be w n
  | none => be 1 0 ++ be w 0

/-- A list of varying length: a one-byte count of the entries sent, then the entries (R189). -/
def countedList {α : Type} (enc : α → List Byte) (l : List α) : List Byte :=
  be 1 l.length ++ l.flatMap enc

/-! ## Clamping -/

/-- The nearest value inside `lo`–`hi`. -/
def clamp (lo hi n : Nat) : Nat :=
  max lo (min n hi)

/-- A level above 7 is clamped to 7 (R20). -/
def clampLevel (n : Nat) : Nat :=
  min n 7

/-- A rate above 16,777,215 is clamped to it (R137, R138). -/
def clampRate (n : Nat) : Nat :=
  min n Config.rateMax

/-- R39: the remnant short minimum's range. -/
def clampShort (n : Nat) : Nat :=
  clamp 150 1000 n

/-- R39: the remnant long minimum's range. -/
def clampLong (n : Nat) : Nat :=
  clamp 300 3600 n

/-- R112: the flow's range, dl per minute. -/
def clampFlow (n : Nat) : Nat :=
  clamp 10 600 n

/-- R113: the grant capacity's range. -/
def clampCapacity (n : Nat) : Nat :=
  clamp 1 6 n

/-! ## The tag check (R3) -/

/-- One place of the CRC-8: shift left within eight bits, and exclusive-or 0x1D if the bit shifted out was 1. -/
def crcBit (c : BitVec 8) : BitVec 8 :=
  if c.msb then (c <<< 1) ^^^ 0x1D#8 else c <<< 1

/-- One byte of the CRC-8: exclusive-or the byte, then eight places. -/
def crcByte (c b : BitVec 8) : BitVec 8 :=
  crcBit (crcBit (crcBit (crcBit (crcBit (crcBit (crcBit (crcBit (c ^^^ b))))))))

/-- The check of a serial: the CRC-8 over its three bytes, high byte first, from 0xFF. -/
def tagCheck (serial : Nat) : Nat :=
  ((be 3 serial).foldl crcByte 0xFF#8).toNat

/-- R3: a tag is valid when the check computed from its serial equals its check. -/
def tagValid (serial check : Nat) : Bool :=
  tagCheck serial == check

/-- A tag as four bytes: the serial, then its check (R177). -/
def tagBytes (serial : Nat) : List Byte :=
  be 3 serial ++ be 1 (tagCheck serial)

/-! ## Ordinals of named values (R189: the first value named in its rule is 0) -/

/-- R1, R6. -/
def kindOf : Nat → Option SlabKind
  | 0 => some .slab
  | 1 => some .remnant
  | _ => none

/-- R23. -/
def grainOf : Nat → Option Grain
  | 0 => some .fixed
  | 1 => some .free
  | _ => none

/-- R189: a flag's values. -/
def flagOf : Nat → Option Bool
  | 0 => some false
  | 1 => some true
  | _ => none

/-- R11: the kind selector ANY, SLAB or REMNANT; ANY selects no kind. -/
def selectorOf : Nat → Option (Option SlabKind)
  | 0 => some none
  | 1 => some (some .slab)
  | 2 => some (some .remnant)
  | _ => none

/-- R116, R129. -/
def plantModeOf : Nat → Option PlantMode
  | 0 => some .repeating
  | 1 => some .oneShot
  | _ => none

/-- R1. -/
def kindCode : SlabKind → Nat
  | .slab => 0
  | .remnant => 1

/-- R189, the slab record's table. -/
def slabStateCode : SlabState → Nat
  | .available => 0
  | .reserved => 1
  | .onSaw => 2
  | .held => 3

/-- R20. -/
def jobStateCode : JobState → Nat
  | .opened => 0
  | .cancelling => 1

/-- R23. -/
def grainCode : Grain → Nat
  | .fixed => 0
  | .free => 1

/-- R23. -/
def pieceStateCode : PieceState → Nat
  | .unplanned => 0
  | .drafted => 1
  | .queued => 2
  | .issued => 3
  | .cut => 4
  | .held => 5

/-- R48. -/
def placeStateCode : PlaceState → Nat
  | .queued => 0
  | .issued => 1
  | .cut => 2
  | .spoiled => 3
  | .void => 4
  | .returned => 5

/-- R47. -/
def reasonCode : UnfitReason → Nat
  | .tooLarge => 0
  | .noRoom => 1

/-- R54. -/
def candKindCode : CandKind → Nat
  | .top => 0
  | .tail => 1
  | .none => 2

/-- R57: FREE is 0. -/
def phaseCode : Phase → Nat
  | .draft => 1
  | .laying _ => 2
  | .laid _ _ => 3
  | .committed _ _ _ => 4
  | .cutting _ _ _ => 5

/-- R77. -/
def stationModeCode : StationMode → Nat
  | .offline => 0
  | .ready => 1
  | .loaded => 2

/-- R116. -/
def cycleCode : CycleState → Nat
  | .idle => 0
  | .fill => 1
  | .dose => 2
  | .settle => 3
  | .decant => 4
  | .decantWait => 5
  | .sludge => 6
  | .stopped => 7

/-- R116. -/
def plantModeCode : PlantMode → Nat
  | .repeating => 0
  | .oneShot => 1

/-- R181: the code of a status outcome. -/
def statusCode : Status → Nat
  | .ok => 0x00
  | .accepted => 0x01
  | .notFound => 0x10
  | .duplicate => 0x11
  | .badField => 0x12
  | .badTag => 0x13
  | .badState => 0x14
  | .full => 0x15
  | .busy => 0x16
  | .blocked => 0x17
  | .wrongSlab => 0x18
  | .tooThick => 0x19
  | .kerfConflict => 0x1A
  | .waitWater => 0x20
  | .heldOnly => 0x21
  | .bladeWorn => 0x22
  | .notRunning => 0x23
  | .badKind => 0x30
  | .badLength => 0x31

/-- R189: the code of a notice kind. -/
def noticeCode : NoticeKind → Nat
  | .laid => 0x01
  | .granted => 0x02
  | .revoked => 0x03
  | .dryRun => 0x04
  | .bladeLife => 0x05
  | .slabClosed => 0x06
  | .remnantLost => 0x07
  | .remnantUnracked => 0x08
  | .recut => 0x09
  | .pieceHeld => 0x0A
  | .budget => 0x0B
  | .clipped => 0x0C
  | .plantPhase => 0x0D
  | .plantFault => 0x0E
  | .sumpHigh => 0x0F
  | .band => 0x10

/-! ## The plant's settings by name (R127, R128) -/

/-- R127: the settings, in the order of the table. -/
inductive SettingName
  | doseEnd | settleEnd | sludgeTime | fillTimeout | fillTarget | fillMin | fillStart | decantFloor
  deriving DecidableEq, Repr

/-- R128, R189: the setting an ordinal names; 8 is BUFFER_MODE, which is no setting. -/
def settingOf : Nat → Option SettingName
  | 0 => some .doseEnd
  | 1 => some .settleEnd
  | 2 => some .sludgeTime
  | 3 => some .fillTimeout
  | 4 => some .fillTarget
  | 5 => some .fillMin
  | 6 => some .fillStart
  | 7 => some .decantFloor
  | _ => none

/-- R127: a value clamped into its setting's range. -/
def clampSetting : SettingName → Nat → Nat
  | .doseEnd, v => clamp 0 3600 v
  | .settleEnd, v => clamp 60 14400 v
  | .sludgeTime, v => clamp 5 600 v
  | .fillTimeout, v => clamp 60 3600 v
  | .fillTarget, v => clamp 0 7 v
  | .fillMin, v => clamp 0 7 v
  | .fillStart, v => clamp 0 7 v
  | .decantFloor, v => clamp 0 7 v

/-- The value of a setting. -/
def getSetting (g : Settings) : SettingName → Nat
  | .doseEnd => g.doseEnd
  | .settleEnd => g.settleEnd
  | .sludgeTime => g.sludgeTime
  | .fillTimeout => g.fillTimeout
  | .fillTarget => g.fillTarget
  | .fillMin => g.fillMin
  | .fillStart => g.fillStart
  | .decantFloor => g.decantFloor

/-- The settings with one of them written. -/
def putSetting (g : Settings) : SettingName → Nat → Settings
  | .doseEnd, v => { g with doseEnd := v }
  | .settleEnd, v => { g with settleEnd := v }
  | .sludgeTime, v => { g with sludgeTime := v }
  | .fillTimeout, v => { g with fillTimeout := v }
  | .fillTarget, v => { g with fillTarget := v }
  | .fillMin, v => { g with fillMin := v }
  | .fillStart, v => { g with fillStart := v }
  | .decantFloor, v => { g with decantFloor := v }

/-! ## Ranges of R2 and R9 -/

/-- `lo ≤ n ≤ hi`. -/
def inRange (lo hi n : Nat) : Bool :=
  decide (lo ≤ n) && decide (n ≤ hi)

/-- R2: usable length or width: the nominal side less the two trims at its ends. -/
def usable (nominal a b : Nat) : Nat :=
  nominal - a - b

/-- R2: the range of every trim, and of the usable geometry they leave. -/
def geometryOk (nomLen nomWid head tail near far : Nat) : Bool :=
  decide (head ≤ 200) && decide (tail ≤ 200) && decide (near ≤ 200) && decide (far ≤ 200) &&
    inRange 300 3600 (usable nomLen head tail) && inRange 200 2100 (usable nomWid near far)

/-- R2: the usable length of a record. -/
def Slab.usableLen (x : Slab) : Nat :=
  usable x.nomLen x.head x.tail

/-- R2: the usable width of a record. -/
def Slab.usableWid (x : Slab) : Nat :=
  usable x.nomWid x.near x.far

/-- R2: the usable area of a record. -/
def Slab.usableArea (x : Slab) : Nat :=
  x.usableLen * x.usableWid

end Sys2Proof.Machine
end

