-- ==== Sys2Proof/Decode.lean ====
section
/-! DEFINITION. The decoder.  The table's rows carry no bits, so no word spells a command (`decodeTableWord`).  The link does spell
commands, as request frames (R177, R180, R189): `readFrame` reads the bytes of one transaction, `decodeTransaction` names the command
they are, and `encodeRequest` writes the frame of a request. -/

namespace Sys2Proof

open Sys2Proof.Machine

/-- The command that a word spells by the table's bits: the table gives none of its rows any (assumption 15). -/
def decodeTableWord (_nbits _w : Nat) : Option Instr :=
  none

/-! ## The body of each kind (R177, R189) -/

/-- The widths of the body's fields, by kind; the two kinds of several forms are read by `formWidths`. -/
def kindWidths : Nat → List Nat
  | 0x01 => [3, 1, 1, 1, 1, 2, 2, 1, 1, 1, 1, 1]
  | 0x02 => [3, 1]
  | 0x03 => [1, 2, 2, 1]
  | 0x04 => [3, 1, 1]
  | 0x05 => [3, 1]
  | 0x06 => [3, 1]
  | 0x07 => [3, 1, 1, 1, 1, 1]
  | 0x08 => [3, 1]
  | 0x09 => [1, 1]
  | 0x0A => [1, 1, 4, 1]
  | 0x0B => [1, 2, 2, 1]
  | 0x0C => [1, 1]
  | 0x0D => [1, 1]
  | 0x0E => [1, 1, 4, 1]
  | 0x0F => [1, 1]
  | 0x10 => [1]
  | 0x11 => [3, 1, 1]
  | 0x12 => [1, 1, 1]
  | 0x13 => [1, 1, 1]
  | 0x14 => [1]
  | 0x15 => [1]
  | 0x16 => [1]
  | 0x17 => [1, 1, 1]
  | 0x18 => [1, 1]
  | 0x19 => [1]
  | 0x1A => [1, 1, 3]
  | 0x1B => [1, 3, 1]
  | 0x1C => [1]
  | 0x1D => [1, 1, 1]
  | 0x20 => [1, 1]
  | 0x23 => [1, 2]
  | 0x25 => [1, 4]
  | 0x26 => [4]
  | 0x27 => [1, 4]
  | 0x28 => [1]
  | 0x2A => [1, 1, 1]
  | 0x2B => [1]
  | 0x2C => [1]
  | 0x2E => [2, 2]
  | _ => []

/-- R180: the widths of the body of SET_WATER and READ_WATER in a form, STATION (0) or ARBITER (1). -/
def formWidths : Nat → Nat → Option (List Nat)
  | 0x1E, 0 => some [1, 1, 2, 1]
  | 0x1E, 1 => some [1, 1, 1, 1, 1, 1, 1, 1, 1, 1]
  | 0x1F, 0 => some [1, 1]
  | 0x1F, 1 => some [1]
  | _, _ => none

/-- The kinds whose body size the first body byte decides (R180). -/
def hasForms (kind : Nat) : Bool :=
  kind == 0x1E || kind == 0x1F

/-- The fields of a body, most significant byte first (R177). -/
def splitFields : List Nat → List Byte → List Nat
  | [], _ => []
  | w :: ws, bs => ofBe (bs.take w) :: splitFields ws (bs.drop w)

/-- The part READ_PLAN names by its ordinal (R75). -/
def planPart (plan part first : Nat) : Option Instr :=
  match part with
  | 0 => some (.readPlanSummary plan first)
  | 1 => some (.readPlanPieces plan first)
  | 2 => some (.readPlanStrips plan first)
  | 3 => some (.readPlanPlacements plan first)
  | 4 => some (.readPlanUnfit plan first)
  | _ => none

/-- PLANT_SET by its name: the ordinal 8 is BUFFER_MODE (R128). -/
def plantSetting (name value : Nat) : Instr :=
  if name = 8 then .plantSetBufferMode value else .plantSet name value

/-- The request of a kind with the fields of its body (Introduction, "Request kinds by chapter", and the rule of each kind). -/
def requestOf : Nat → List Nat → Option Instr
  | 0x01, [a, b, c, d, e, f, g, h, i, j, k, l] => some (.admitSlab a b c d e f g h i j k l)
  | 0x02, [a, b] => some (.findSlab a b)
  | 0x03, [a, b, c, d] => some (.listStock a b c d)
  | 0x04, [a, b, c] => some (.moveSlab a b c)
  | 0x05, [a, b] => some (.holdSlab a b)
  | 0x06, [a, b] => some (.releaseSlab a b)
  | 0x07, [a, b, c, d, e, f] => some (.trimSlab a b c d e f)
  | 0x08, [a, b] => some (.retireSlab a b)
  | 0x09, [a, b] => some (.setRackClass a b)
  | 0x0A, [a, b, c, d] => some (.openJob a b c d)
  | 0x0B, [a, b, c, d] => some (.addPiece a b c d)
  | 0x0C, [a, b] => some (.deletePiece a b)
  | 0x0D, [a, b] => some (.releasePiece a b)
  | 0x0E, [a, b, c, d] => some (.setJob a b c d)
  | 0x0F, [a, b] => some (.readJob a b)
  | 0x10, [a] => some (.closeJob a)
  | 0x11, [a, b, c] => some (.openPlan a b c)
  | 0x12, [a, b, c] => some (.planAdd a b c)
  | 0x13, [a, b, c] => some (.planRemove a b c)
  | 0x14, [a] => some (.layout a)
  | 0x15, [a] => some (.commit a)
  | 0x16, [a] => some (.abandon a)
  | 0x17, [a, b, c] => planPart a b c
  | 0x18, [a, b] => some (.stationOnline a b)
  | 0x19, [a] => some (.stationOffline a)
  | 0x1A, [a, b, c] => some (.setBlade a b c)
  | 0x1B, [a, b, c] => some (.loadSlab a b c)
  | 0x1C, [a] => some (.nextCut a)
  | 0x1D, [a, b, c] => some (.cutDone a b c)
  | 0x1E, [_, a, b, c] => some (.setWaterStation a b c)
  | 0x1E, [_, a, b, c, d, e, f, g, h, i] => some (.setWaterArbiter a b c d e f g h i)
  | 0x1F, [_, a] => some (.readWaterStation a)
  | 0x1F, [_] => some .readWaterArbiter
  | 0x20, [a, b] => some (.plantStart a b)
  | 0x21, [] => some .plantStop
  | 0x22, [] => some .plantResetCycle
  | 0x23, [a, b] => some (plantSetting a b)
  | 0x24, [] => some .readPlant
  | 0x25, [a, b] => some (.setMaterialRate a b)
  | 0x26, [a] => some (.setWaterRate a)
  | 0x27, [a, b] => some (.setMachineRate a b)
  | 0x28, [a] => some (.readCost a)
  | 0x29, [] => some .clearOverhead
  | 0x2A, [a, b, c] => some (.cutSpoiled a b c)
  | 0x2B, [a] => some (.breakSlab a)
  | 0x2C, [a] => some (.cancelJob a)
  | 0x2D, [] => some .readNotices
  | 0x2E, [a, b] => some (.openShop a b)
  | 0x2F, [] => some .closeShop
  | _, _ => none

/-! ## Reading a transaction (R178, R180) -/

/-- What the bytes of a transaction are: a null frame; a frame the frame checks refuse; a SET_WATER or READ_WATER of neither form; a
READ_PLAN of no part; or a request of the table. -/
inductive FrameReading
  | null
  | badLength
  | badKind
  | unknownForm
  | unknownPart (plan : Nat)
  | request (i : Instr)
  deriving DecidableEq, Repr

/-- A body whose size has passed the frame checks. -/
def readBody (kind : Nat) (fields : List Nat) : FrameReading :=
  match requestOf kind fields with
  | some i => .request i
  | none => .unknownPart (fields.headD 0)

/-- R180, step 3, and the fields behind it. -/
def readSized (kind : Nat) (body : List Byte) : FrameReading :=
  if hasForms kind then
    match body with
    | [] => .badLength
    | b :: _ =>
      match formWidths kind b.toNat with
      | none => .unknownForm
      | some ws => if body.length = ws.sum then readBody kind (splitFields ws body) else .badLength
  else if body.length = (kindWidths kind).sum then readBody kind (splitFields (kindWidths kind) body)
  else .badLength

/-- R178, R180: the frame checks, in their order.  A transaction of no byte sends no first byte 0x00, so it is a frame of fewer than
two bytes (DEDUCED, assumption 12). -/
def readFrame (bytes : List Byte) : FrameReading :=
  match bytes with
  | [] => .badLength
  | n :: rest =>
    if n = 0 then .null
    else
      match rest with
      | [] => .badLength
      | kind :: body =>
        if 63 < n.toNat ∨ bytes.length ≠ n.toNat + 1 then .badLength
        else if kind = 0 ∨ 0x2F < kind.toNat then .badKind
        else readSized kind.toNat body

/-- The command that the bytes of a transaction are. -/
def decodeTransaction (bytes : List Byte) : Instr :=
  match readFrame bytes with
  | .null => .responseRead bytes.length
  | .request i => i
  | _ => .badFrame bytes

/-! ## Writing a request (R177, R189) -/

/-- A request's kind and the fields of its body with their widths; an event is no request. -/
def requestFields : Instr → Option (Nat × List (Nat × Nat))
  | .admitSlab a b c d e f g h i j k l =>
    some (0x01, [(3, a), (1, b), (1, c), (1, d), (1, e), (2, f), (2, g), (1, h), (1, i), (1, j), (1, k), (1, l)])
  | .findSlab a b => some (0x02, [(3, a), (1, b)])
  | .listStock a b c d => some (0x03, [(1, a), (2, b), (2, c), (1, d)])
  | .moveSlab a b c => some (0x04, [(3, a), (1, b), (1, c)])
  | .holdSlab a b => some (0x05, [(3, a), (1, b)])
  | .releaseSlab a b => some (0x06, [(3, a), (1, b)])
  | .trimSlab a b c d e f => some (0x07, [(3, a), (1, b), (1, c), (1, d), (1, e), (1, f)])
  | .retireSlab a b => some (0x08, [(3, a), (1, b)])
  | .setRackClass a b => some (0x09, [(1, a), (1, b)])
  | .openJob a b c d => some (0x0A, [(1, a), (1, b), (4, c), (1, d)])
  | .addPiece a b c d => some (0x0B, [(1, a), (2, b), (2, c), (1, d)])
  | .deletePiece a b => some (0x0C, [(1, a), (1, b)])
  | .releasePiece a b => some (0x0D, [(1, a), (1, b)])
  | .setJob a b c d => some (0x0E, [(1, a), (1, b), (4, c), (1, d)])
  | .readJob a b => some (0x0F, [(1, a), (1, b)])
  | .closeJob a => some (0x10, [(1, a)])
  | .openPlan a b c => some (0x11, [(3, a), (1, b), (1, c)])
  | .planAdd a b c => some (0x12, [(1, a), (1, b), (1, c)])
  | .planRemove a b c => some (0x13, [(1, a), (1, b), (1, c)])
  | .layout a => some (0x14, [(1, a)])
  | .commit a => some (0x15, [(1, a)])
  | .abandon a => some (0x16, [(1, a)])
  | .readPlanSummary a b => some (0x17, [(1, a), (1, 0), (1, b)])
  | .readPlanPieces a b => some (0x17, [(1, a), (1, 1), (1, b)])
  | .readPlanStrips a b => some (0x17, [(1, a), (1, 2), (1, b)])
  | .readPlanPlacements a b => some (0x17, [(1, a), (1, 3), (1, b)])
  | .readPlanUnfit a b => some (0x17, [(1, a), (1, 4), (1, b)])
  | .stationOnline a b => some (0x18, [(1, a), (1, b)])
  | .stationOffline a => some (0x19, [(1, a)])
  | .setBlade a b c => some (0x1A, [(1, a), (1, b), (3, c)])
  | .loadSlab a b c => some (0x1B, [(1, a), (3, b), (1, c)])
  | .nextCut a => some (0x1C, [(1, a)])
  | .cutDone a b c => some (0x1D, [(1, a), (1, b), (1, c)])
  | .setWaterStation a b c => some (0x1E, [(1, 0), (1, a), (2, b), (1, c)])
  | .setWaterArbiter a b c d e f g h i =>
    some (0x1E, [(1, 1), (1, a), (1, b), (1, c), (1, d), (1, e), (1, f), (1, g), (1, h), (1, i)])
  | .readWaterStation a => some (0x1F, [(1, 0), (1, a)])
  | .readWaterArbiter => some (0x1F, [(1, 1)])
  | .plantStart a b => some (0x20, [(1, a), (1, b)])
  | .plantStop => some (0x21, [])
  | .plantResetCycle => some (0x22, [])
  | .plantSetBufferMode a => some (0x23, [(1, 8), (2, a)])
  | .plantSet a b => some (0x23, [(1, a), (2, b)])
  | .readPlant => some (0x24, [])
  | .setMaterialRate a b => some (0x25, [(1, a), (4, b)])
  | .setWaterRate a => some (0x26, [(4, a)])
  | .setMachineRate a b => some (0x27, [(1, a), (4, b)])
  | .readCost a => some (0x28, [(1, a)])
  | .clearOverhead => some (0x29, [])
  | .cutSpoiled a b c => some (0x2A, [(1, a), (1, b), (1, c)])
  | .breakSlab a => some (0x2B, [(1, a)])
  | .cancelJob a => some (0x2C, [(1, a)])
  | .readNotices => some (0x2D, [])
  | .openShop a b => some (0x2E, [(2, a), (2, b)])
  | .closeShop => some (0x2F, [])
  | .badFrame _ => none
  | .responseRead _ => none
  | .requestDiscarded _ => none
  | .reset => none
  | .powerOn => none
  | .sampleTick _ => none
  | .decisecondTick _ _ _ _ => none
  | .dryRun _ => none
  | .bladeLife _ => none
  | .holdTimerExpiry _ => none
  | .plantTick => none
  | .fillTimeout => none
  | .doseEnd => none
  | .settleEnd => none
  | .sludgeEnd => none
  | .engineTake => none
  | .layoutComplete => none

/-- The command is a transaction that carries a request frame: a request of the table, or a frame that the checks refuse (R178,
R180). -/
def isFrame : Instr → Bool
  | .badFrame _ => true
  | i => (requestFields i).isSome

/-- R181: among the waiting commands a request frame stands next, but for frames discarded. -/
def waitingFrame : List Instr → Bool
  | .requestDiscarded _ :: rest => waitingFrame rest
  | i :: _ => isFrame i
  | [] => false

/-- The body of a list of fields. -/
def encodeFields (l : List (Nat × Nat)) : List Byte :=
  l.flatMap fun x => be x.1 x.2

/-- R177: the request frame of a request: length, kind, body. -/
def encodeRequest (i : Instr) : Option (List Byte) :=
  (requestFields i).map fun r => be 1 ((encodeFields r.2).length + 1) ++ be 1 r.1 ++ encodeFields r.2

end Sys2Proof
end

