-- ==== Sys2Proof/Machine/Flags.lean ====
section
/-! DEFINITION. How a record is read, and every view that the records determine: positions, cents, the held-for-dispatch test, blade
wear, the effective floor, the output lines (R5, R27, R84, R101, R108, R119, R146, R147, R181, R183). -/

namespace Sys2Proof.Machine

/-- The six stations in ascending order. -/
def allStations : List (Fin 6) :=
  [0, 1, 2, 3, 4, 5]

/-! ## Reading records -/

/-- A station's record. -/
def State.station (s : State) (st : Fin 6) : Station :=
  s.stations.get st

/-- The job record in a slot, absent when the slot is free (R20). -/
def State.job (s : State) (j : Fin 64) : Option Job :=
  s.jobs.slots.get j

/-- The plan record in a slot, absent when the slot is FREE (R57). -/
def State.plan (s : State) (p : Fin 16) : Option Plan :=
  s.plans.slots.get p

/-- R1: the slab record that carries a serial. -/
def findSlab (n : Nat) (k : Stock) : Option Slab :=
  k.slabs.find? (fun x => x.serial == n)

/-- The list of a rack, front first (R5). -/
def rackList (r : Fin 32) (k : Stock) : List Nat :=
  k.racks.get r

/-- R5: the number of records standing in front of a record; 0 outside a rack. -/
def position (x : Slab) (k : Stock) : Nat :=
  match x.place with
  | .rack r => (rackList r k).idxOf x.serial
  | _ => 0

/-- R23: the piece at an index of a job. -/
def findPiece (id : PieceId) (t : JobTable) : Option Piece :=
  t.pieces.find? (fun x => x.id == id)

/-- R20: a job's piece list, in ascending index. -/
def jobPieces (j : Fin 64) (t : JobTable) : List Piece :=
  t.pieces.filter (fun x => x.id.job == j)

/-- R57: the layout a plan holds, from LAID on. -/
def layoutOf (p : Plan) : Option Layout :=
  match p.phase with
  | .laid _ l => some l
  | .committed _ l _ => some l
  | .cutting _ l _ => some l
  | _ => none

/-- R57: the kerf a plan is held to, from LAID on. -/
def kerfOf (p : Plan) : Option Nat :=
  match p.phase with
  | .laid k _ => some k
  | .committed k _ _ => some k
  | .cutting k _ _ => some k
  | _ => none

/-- R57: the material rate a plan captured, from COMMITTED on. -/
def rateOf (p : Plan) : Option Nat :=
  match p.phase with
  | .committed _ _ r => some r
  | .cutting _ _ r => some r
  | _ => none

/-- R57: the number of the computation started on the plan, in LAYING. -/
def numberOf (p : Plan) : Option Nat :=
  match p.phase with
  | .laying n => n
  | _ => none

/-- The plan is LAYING. -/
def isLaying (p : Plan) : Bool :=
  match p.phase with
  | .laying _ => true
  | _ => false

/-- The plan is COMMITTED. -/
def isCommitted (p : Plan) : Bool :=
  match p.phase with
  | .committed _ _ _ => true
  | _ => false

/-- The plan is CUTTING. -/
def isCutting (p : Plan) : Bool :=
  match p.phase with
  | .cutting _ _ _ => true
  | _ => false

/-- The placements of a plan's layout; none before LAID. -/
def placementsOf (p : Plan) : List Placement :=
  match layoutOf p with
  | some l => l.placements
  | none => []

/-- The placements of the plan in a slot. -/
def State.placements (s : State) (p : Fin 16) : List Placement :=
  match s.plan p with
  | some x => placementsOf x
  | none => []

/-- R55: a placement's area, its x-extent times its y-extent. -/
def Placement.area (x : Placement) : Nat :=
  x.xe * x.ye

/-- R57: the station role of a plan: 0 CURRENT, 1 NEXT; absent when its station holds it as neither. -/
def roleOf (s : State) (p : Fin 16) (x : Plan) : Option Nat :=
  if (s.station x.station).current = some p then some 0
  else if (s.station x.station).next = some p then some 1
  else none

/-! ## Cents (R146, R147) -/

/-- The accumulator of a category. -/
def getAcc (c : CostRecord) : Category → Acc
  | .material => c.material
  | .saw => c.saw
  | .water => c.water
  | .spoil => c.spoil
  | .waste => c.waste

/-- The record with one accumulator written. -/
def putAcc (c : CostRecord) : Category → Acc → CostRecord
  | .material, a => { c with material := a }
  | .saw, a => { c with saw := a }
  | .water, a => { c with water := a }
  | .spoil, a => { c with spoil := a }
  | .waste, a => { c with waste := a }

/-- The categories in order (R139). -/
def allCategories : List Category :=
  [.material, .saw, .water, .spoil, .waste]

/-- R146: the cents of one accumulator, rounded with a half cent up and clamped to 32 bits. -/
def centsOf (value : Nat) : Nat :=
  min ((value + 32768) / 65536) Config.centsMax

/-- R147: the sum of the five category cents. -/
def centsSum (c : CostRecord) : Nat :=
  centsOf c.material.value + centsOf c.saw.value + centsOf c.water.value + centsOf c.spoil.value + centsOf c.waste.value

/-- R147: the total cents, saturated. -/
def totalCents (c : CostRecord) : Nat :=
  min (centsSum c) Config.centsMax

/-- R147: the total-clipped indication. -/
def totalClipped (c : CostRecord) : Bool :=
  decide (Config.centsMax < centsSum c)

/-! ## Tests on jobs and stations -/

/-- R27: a job is held for dispatch at level 0, or with its hold and over-budget flags both set. -/
def heldForDispatch (b : Job) : Bool :=
  b.level == 0 || (b.hold && b.overBudget)

/-- R27, for the job in a slot.  A free slot holds nothing back; no entry names one (R145). -/
def State.heldJob (s : State) (j : Fin 64) : Bool :=
  match s.job j with
  | some b => heldForDispatch b
  | none => false

/-- R84: the blade is worn at 125 % of its life, tested as the meter times 4 at or above the life times 5. -/
def worn (x : Station) : Bool :=
  decide (x.life * 5 ≤ x.bladeMeter * 4)

/-! ## The arbiter's views -/

/-- The grant a station holds (R99). -/
def State.grant (s : State) (st : Fin 6) : Option Grant :=
  s.arbiter.grants.find? (fun g => g.station == st)

/-- The pending request of a station (R99). -/
def State.request (s : State) (st : Fin 6) : Option Request :=
  s.arbiter.pending.find? (fun r => r.station == st)

/-- R101: the sump's term of the effective floor. -/
def sumpTerm (s : State) : Nat :=
  if s.plant.sump.accepted = 7 then 7 else 0

/-- R101: the shop mode's term of the effective floor. -/
def loadingTerm (s : State) : Nat :=
  if s.link.mode = .loading then 7 else 0

/-- R101: the floor table's entry for the present clean band. -/
def tableTerm (s : State) : Nat :=
  s.arbiter.table.get s.plant.clean.accepted

/-- R101: the effective floor as its sources stand. -/
def floorNow (s : State) : Nat :=
  max (tableTerm s) (max (sumpTerm s) (loadingTerm s))

/-! ## Output lines -/

/-- R108: PERMIT is active exactly while the station holds a grant. -/
def State.permit (s : State) (st : Fin 6) : Bool :=
  (s.grant st).isSome

/-- R108: VALVE is open while the station holds a grant and has a cut issued or its spindle accepted ACTIVE. -/
def State.valve (s : State) (st : Fin 6) : Bool :=
  s.permit st && ((s.station st).issued.isSome || (s.station st).spindle)

/-- R109: the hold condition: a grant, no cut issued, the spindle accepted INACTIVE. -/
def State.holdCondition (s : State) (st : Fin 6) : Bool :=
  s.permit st && !(s.station st).issued.isSome && !(s.station st).spindle

/-- R119: the TRANSFER line. -/
def transferLine (c : CycleState) : Bool :=
  c == .fill

/-- R119: the DOSE line. -/
def doseLine (c : CycleState) : Bool :=
  c == .dose

/-- R119: the DECANT line. -/
def decantLine (c : CycleState) : Bool :=
  c == .decant

/-- R119: the SLUDGE line. -/
def sludgeLine (c : CycleState) : Bool :=
  c == .sludge

/-- R183: ATTN is active while the notice set holds an entry. -/
def State.attn (s : State) : Bool :=
  !s.link.notices.isEmpty

/-- R181: RDY is active while a response is in the buffer, but for one behind which the part holds a received request: that response
is replaced unread, and RDY stays inactive. -/
def State.rdy (s : State) : Bool :=
  s.link.response.isSome && !s.link.held

/-- R177: the bytes of a response frame: length, status, body. -/
def Response.frame (r : Response) : List Byte :=
  be 1 (1 + r.body.length) ++ be 1 (statusCode r.status) ++ r.body

/-- R178: what the part presents on its data line in a transaction of `n` bytes: the unread response with RDY active, 0x00 beyond it
and with RDY inactive. -/
def presented (s : State) (n : Nat) : List Byte :=
  match s.link.response with
  | some r => if s.link.held then List.replicate n 0 else (r.frame ++ List.replicate n 0).take n
  | none => List.replicate n 0

/-- Introduction, "The outside of the part": the levels on the output lines, `true` for active or open. -/
structure Outputs where
  valve : Vector Bool 6
  permit : Vector Bool 6
  transfer : Bool
  dose : Bool
  decant : Bool
  sludge : Bool
  attn : Bool
  rdy : Bool
  deriving DecidableEq, Repr

/-- R188: every output line inactive. -/
def Outputs.inactive : Outputs where
  valve := Vector.replicate 6 false
  permit := Vector.replicate 6 false
  transfer := false
  dose := false
  decant := false
  sludge := false
  attn := false
  rdy := false

/-- The levels on the output lines (R108, R119, R181, R183); all inactive while RESET is held active (R188). -/
def State.outputs (s : State) : Outputs :=
  if s.pins.reset then Outputs.inactive
  else
    { valve := Vector.ofFn s.valve
      permit := Vector.ofFn s.permit
      transfer := transferLine s.plant.cycle
      dose := doseLine s.plant.cycle
      decant := decantLine s.plant.cycle
      sludge := sludgeLine s.plant.cycle
      attn := s.attn
      rdy := s.rdy }

end Sys2Proof.Machine
end

