-- ==== Sys2Proof/Machine/Ops.lean ====
section
/-! DEFINITION. The operations that several commands share: updates of one block's record, posting a notice (R182), charging
(R140 to R142, R97), the racks (R5, R17, R18), pieces and placements, the Grant Arbiter's moves (R100 to R109), and a station losing
a committed plan (R82, R74). -/

namespace Sys2Proof.Machine

/-! ## Updates of one block -/

/-- Change the Stock Table. -/
def State.onStock (f : Stock → Stock) (s : State) : State :=
  { s with stock := f s.stock }

/-- Change the Job Table. -/
def State.onJobs (f : JobTable → JobTable) (s : State) : State :=
  { s with jobs := f s.jobs }

/-- Change the Layout Engine. -/
def State.onEngine (f : Engine → Engine) (s : State) : State :=
  { s with engine := f s.engine }

/-- Change the Plan Table. -/
def State.onPlans (f : PlanTable → PlanTable) (s : State) : State :=
  { s with plans := f s.plans }

/-- Change one station's record. -/
def State.onStation (st : Fin 6) (f : Station → Station) (s : State) : State :=
  { s with stations := s.stations.set st (f (s.stations.get st)) }

/-- Change the Grant Arbiter. -/
def State.onArbiter (f : Arbiter → Arbiter) (s : State) : State :=
  { s with arbiter := f s.arbiter }

/-- Change the Plant Controller. -/
def State.onPlant (f : Plant → Plant) (s : State) : State :=
  { s with plant := f s.plant }

/-- Change the rate set. -/
def State.onRates (f : Rates → Rates) (s : State) : State :=
  { s with rates := f s.rates }

/-- Change the Link Interface. -/
def State.onLink (f : Link → Link) (s : State) : State :=
  { s with link := f s.link }

/-- Change the sampled input levels. -/
def State.onPins (f : Pins → Pins) (s : State) : State :=
  { s with pins := f s.pins }

/-- Write a job slot. -/
def State.putJob (j : Fin 64) (b : Option Job) (s : State) : State :=
  s.onJobs fun t => { t with slots := t.slots.set j b }

/-- Change the job in a slot, if it is in use. -/
def State.modJob (j : Fin 64) (f : Job → Job) (s : State) : State :=
  match s.job j with
  | some b => s.putJob j (some (f b))
  | none => s

/-- Write a plan slot. -/
def State.putPlan (p : Fin 16) (x : Option Plan) (s : State) : State :=
  s.onPlans fun t => { t with slots := t.slots.set p x }

/-- Change the plan in a slot, if it is not FREE. -/
def State.modPlan (p : Fin 16) (f : Plan → Plan) (s : State) : State :=
  match s.plan p with
  | some x => s.putPlan p (some (f x))
  | none => s

/-! ## Ordered lists -/

/-- Insert before the first entry that does not precede the new one. -/
def insertBy {α : Type} (before : α → α → Bool) (x : α) : List α → List α
  | [] => [x]
  | y :: l => if before y x then y :: insertBy before x l else x :: y :: l

/-- Sort by repeated insertion; entries that neither precedes keep their order. -/
def sortBy {α : Type} (before : α → α → Bool) : List α → List α
  | [] => []
  | x :: l => insertBy before x (sortBy before l)

/-! ## Notices (R182) -/

/-- R182: raise the count of the entry with the key, or join the set, or lose the notice and set the overflow flag. -/
def postNotice (k : NoticeKind) (object : Nat) (l : Link) : Link :=
  if l.notices.any (fun n => n.kind == k && n.object == object) then
    { l with notices := l.notices.map fun n =>
        if n.kind == k && n.object == object then { n with count := min 255 (n.count + 1) } else n }
  else if l.notices.length < Config.maxNotices then
    { l with notices := l.notices ++ [⟨k, object, 1⟩] }
  else
    { l with overflow := true }

/-- Raise a notice. -/
def raiseNotice (k : NoticeKind) (object : Nat) (s : State) : State :=
  s.onLink (postNotice k object)

/-! ## Charges (R140 to R142) -/

/-- R142: after a charge, a watched job whose total has reached its budget gets its over-budget flag, and BUDGET is raised. -/
def budgetWatch (j : Fin 64) (s : State) : State :=
  match s.job j with
  | some b =>
    if 0 < b.budget ∧ b.budget ≤ totalCents b.cost ∧ b.overBudget = false then
      raiseNotice .budget j (s.putJob j (some { b with overBudget := true }))
    else s
  | none => s

/-- R140: the product of a charge: the quantity clamped, times the rate. -/
def chargeProduct (quantity rate : Nat) : Nat :=
  min quantity Config.rateMax * rate

/-- R141: add a product to an accumulator, saturating with its clipped flag. -/
def addProduct (a : Acc) (product : Nat) : Acc :=
  if a.value + product ≤ Config.accMax then { a with value := a.value + product }
  else { value := Config.accMax, clipped := true }

/-- R140 to R142: a charge of `quantity` at `rate` to a category of a job, with its CLIPPED notice and its budget watch. -/
def charge (j : Fin 64) (c : Category) (quantity rate : Nat) (s : State) : State :=
  match s.job j with
  | some b =>
    let a := getAcc b.cost c
    let t := s.putJob j (some { b with cost := putAcc b.cost c (addProduct a (chargeProduct quantity rate)) })
    budgetWatch j (if a.value + chargeProduct quantity rate ≤ Config.accMax then t else raiseNotice .clipped j t)
  | none => s

/-- R97, step 4: the snapshots take the meters' present values. -/
def snapMeters (x : Station) : Station :=
  { x with runSnap := x.runMeter, waterSnap := x.waterMeter }

/-- R97: charge a station's meters to a job, SAW before WATER; a delta of 0 makes no charge. -/
def chargeMeters (st : Fin 6) (j : Fin 64) (s : State) : State :=
  let x := s.station st
  let run := x.runMeter - x.runSnap
  let water := x.waterMeter - x.waterSnap
  let s1 := if 0 < run then charge j .saw run x.machineRate s else s
  let s2 := if 0 < water then charge j .water water s.rates.water s1 else s1
  s2.onStation st snapMeters

/-! ## Slab records and racks (R5, R17, R18) -/

/-- Replace the record that carries the same serial. -/
def putSlab (x : Slab) (k : Stock) : Stock :=
  { k with slabs := k.slabs.map fun y => if y.serial == x.serial then x else y }

/-- Enter a record, in ascending serial. -/
def addSlab (x : Slab) (k : Stock) : Stock :=
  { k with slabs := insertBy (fun a b => decide (a.serial < b.serial)) x k.slabs }

/-- Remove the record that carries a serial. -/
def dropSlab (n : Nat) (k : Stock) : Stock :=
  { k with slabs := k.slabs.filter fun y => y.serial != n }

/-- R5: join a rack at position 0. -/
def joinRack (n : Nat) (r : Fin 32) (k : Stock) : Stock :=
  { k with racks := k.racks.set r (n :: k.racks.get r) }

/-- R5: leave the rack list a record stands in, if any. -/
def leaveRack (x : Slab) (k : Stock) : Stock :=
  match x.place with
  | .rack r => { k with racks := k.racks.set r ((k.racks.get r).erase x.serial) }
  | _ => k

/-- R17: release a RESERVED record where it stands. -/
def releaseRecord (n : Nat) (k : Stock) : Stock :=
  match findSlab n k with
  | some x => putSlab { x with state := .available, plan := none } k
  | none => k

/-! ## Pieces and placements -/

/-- Change the pieces of a set of names. -/
def modPieces (ids : List PieceId) (f : Piece → Piece) (t : JobTable) : JobTable :=
  { t with pieces := t.pieces.map fun x => if ids.contains x.id then f x else x }

/-- R24: a piece returned to planning: UNPLANNED, its plan number absent. -/
def unplan (x : Piece) : Piece :=
  { x with state := .unplanned, plan := none }

/-- The pieces of a set of names return to planning. -/
def unplanPieces (ids : List PieceId) (s : State) : State :=
  s.onJobs (modPieces ids unplan)

/-- Change the layout a plan holds. -/
def onLayout (f : Layout → Layout) (p : Plan) : Plan :=
  match p.phase with
  | .laid k l => { p with phase := .laid k (f l) }
  | .committed k l r => { p with phase := .committed k (f l) r }
  | .cutting k l r => { p with phase := .cutting k (f l) r }
  | _ => p

/-- Change the placements a plan holds. -/
def onPlacements (f : List Placement → List Placement) (p : Plan) : Plan :=
  onLayout (fun l => { l with placements := f l.placements }) p

/-- A placement with a new state. -/
def withState (q : PlaceState) (x : Placement) : Placement :=
  { x with state := some q }

/-- Give one placement of a plan a state (R59). -/
def setPlacement (p : Fin 16) (i : Nat) (q : PlaceState) (s : State) : State :=
  s.modPlan p (onPlacements fun l => l.modify i (withState q))

/-- R26: add 1 to the open-placement count of each placement's job. -/
def countPlacements (l : List Placement) (s : State) : State :=
  l.foldl (fun t x => t.modJob x.piece.job fun b => { b with openCount := b.openCount + 1 }) s

/-- R26: subtract 1 from the open-placement count of each placement's job. -/
def uncountPlacements (l : List Placement) (s : State) : State :=
  l.foldl (fun t x => t.modJob x.piece.job fun b => { b with openCount := b.openCount - 1 }) s

/-! ## The hold timer (R109) -/

/-- R109: load the hold timer with the hold setting times 5 ds; a setting of 0 leaves it idle. -/
def startHold (x : Station) : Station :=
  { x with hold := if x.holdSetting = 0 then none else some (x.holdSetting * 5) }

/-- R109: the hold timer becomes idle. -/
def stopHold (x : Station) : Station :=
  { x with hold := none }

/-- R109: start the hold timer if the hold condition now holds. -/
def startHoldIf (st : Fin 6) (s : State) : State :=
  if s.holdCondition st then s.onStation st startHold else s

/-! ## Grants and requests (R99 to R107) -/

/-- R104: a request the arbiter may grant: its level is above the effective floor. -/
def grantable (a : Arbiter) (r : Request) : Bool :=
  decide (a.floor < r.level)

/-- R104: the first request goes before the second: a higher level, or the same level and an earlier stamp. -/
def winsOver (r q : Request) : Bool :=
  decide (q.level < r.level) || (decide (r.level = q.level) && decide (r.stamp < q.stamp))

/-- R104: the request that wins among a list. -/
def bestRequest : List Request → Option Request
  | [] => none
  | r :: l =>
    match bestRequest l with
    | some q => if winsOver q r then some q else some r
    | none => some r

/-- Drop a station's pending request from the list. -/
def dropRequest (st : Fin 6) (a : Arbiter) : Arbiter :=
  { a with pending := a.pending.filter fun r => r.station != st }

/-- Drop a station's grant. -/
def dropGrant (st : Fin 6) (a : Arbiter) : Arbiter :=
  { a with grants := a.grants.filter fun g => g.station != st }

/-- Enter a grant, in ascending station. -/
def enterGrant (g : Grant) (a : Arbiter) : Arbiter :=
  { a with grants := insertBy (fun x y => decide (x.station < y.station)) g a.grants }

/-- Enter a request at the place its stamp gives it. -/
def enterRequest (r : Request) (a : Arbiter) : Arbiter :=
  { a with pending := insertBy (fun x y => decide (x.stamp < y.stamp)) r a.pending }

/-- R104, R107: the winning request becomes a grant, with its effects on its station. -/
def makeGrant (r : Request) (s : State) : State :=
  raiseNotice .granted r.station
    (startHoldIf r.station
      ((s.onArbiter fun a => enterGrant ⟨r.station, r.level, r.stamp, false⟩ (dropRequest r.station a)).onStation r.station
        fun x => { x with dryTimer := 0 }))

/-- R104: the request the arbiter grants next, if its three conditions hold. -/
def nextGrant (s : State) : Option Request :=
  if s.arbiter.grants.length < s.arbiter.capacity ∧ s.plant.clean.accepted ≠ 0 then
    bestRequest (s.arbiter.pending.filter (grantable s.arbiter))
  else none

/-- R104: make grants, at most `fuel` of them, while the conditions hold. -/
def arbitrateUpTo : Nat → State → State
  | 0, s => s
  | fuel + 1, s =>
    match nextGrant s with
    | some r => arbitrateUpTo fuel (makeGrant r s)
    | none => s

/-- R104: arbitration.  Each grant takes a request out of the list, so the list's length bounds the grants. -/
def arbitrate (s : State) : State :=
  arbitrateUpTo s.arbiter.pending.length s

/-- R105, step 2; R106, step 2: the grant leaves and the hold timer becomes idle. -/
def removeGrant (st : Fin 6) (s : State) : State :=
  (s.onArbiter (dropGrant st)).onStation st stopHold

/-- R105: release a station's grant: charge the meters to job 0, remove the grant, arbitrate. -/
def releaseGrant (st : Fin 6) (s : State) : State :=
  arbitrate (removeGrant st (chargeMeters st 0 s))

/-- R105, where the station may hold no grant. -/
def releaseIfHeld (st : Fin 6) (s : State) : State :=
  if s.permit st then releaseGrant st s else s

/-- R111: withdraw a station's pending request, if it has one, and arbitrate. -/
def withdrawRequest (st : Fin 6) (s : State) : State :=
  if (s.request st).isSome then arbitrate (s.onArbiter (dropRequest st)) else s

/-- R81, R82: the station's grant is released and its pending request withdrawn. -/
def dropWater (st : Fin 6) (s : State) : State :=
  withdrawRequest st (releaseIfHeld st s)

/-- R102, R167 step 6, R93 step 5: a grant still marked under the floor is released at the cut's end. -/
def releaseIfMarked (st : Fin 6) (s : State) : State :=
  match s.grant st with
  | some g => if g.mark then releaseGrant st s else s
  | none => s

/-- R102: a marked grant whose station has no cut issued is released; with a cut issued it is kept. -/
def releaseMarkedIdle (s : State) (st : Fin 6) : State :=
  if (s.station st).issued.isSome then s else releaseIfMarked st s

/-- R102: the marks against the floor. -/
def markGrants (a : Arbiter) : Arbiter :=
  { a with grants := a.grants.map fun g => { g with mark := decide (g.level ≤ a.floor) } }

/-- R101: store the effective floor as its sources stand. -/
def storeFloor (s : State) : State :=
  s.onArbiter fun a => { a with floor := floorNow s }

/-- R101, R102: form the effective floor afresh; on a change set the marks, release the marked grants with no cut issued in
ascending station order, and arbitrate. -/
def reformFloor (s : State) : State :=
  if floorNow s = s.arbiter.floor then s
  else arbitrate (allStations.foldl releaseMarkedIdle ((storeFloor s).onArbiter markGrants))

/-- R106: revoke a station's grant. -/
def revokeGrant (s : State) (st : Fin 6) : State :=
  match s.grant st with
  | some g =>
    let s1 := if (s.station st).issued.isSome then s else chargeMeters st 0 s
    raiseNotice .revoked st ((removeGrant st s1).onArbiter (enterRequest ⟨st, g.level, g.stamp⟩))
  | none => s

/-- R106: the clean tank has run dry: every grant is revoked, in ascending station order, and arbitration runs. -/
def revokeAll (s : State) : State :=
  arbitrate (allStations.foldl revokeGrant (storeFloor s))

/-- R100: the stamps in use below a stamp, counted. -/
def stampRank (a : Arbiter) (n : Nat) : Nat :=
  (a.pending.countP fun r => decide (r.stamp < n)) + (a.grants.countP fun g => decide (g.stamp < n)) + 1

/-- R100: renumber the stamps in use as 1, 2, 3 and so on in their order; the counter then reads one more than their number. -/
def renumberStamps (a : Arbiter) : Arbiter :=
  { a with
    pending := a.pending.map fun r => { r with stamp := stampRank a r.stamp }
    grants := a.grants.map fun g => { g with stamp := stampRank a g.stamp }
    stamp := a.pending.length + a.grants.length + 1 }

/-- R100, R103: a new request at the tail with the next stamp. -/
def newRequest (st : Fin 6) (level : Nat) (a : Arbiter) : Arbiter :=
  if a.stamp < Config.stampMax then
    { a with pending := a.pending ++ [⟨st, level, a.stamp⟩], stamp := a.stamp + 1 }
  else
    renumberStamps { a with pending := a.pending ++ [⟨st, level, a.stamp⟩] }

/-- R103: a held grant's level becomes `level`; its stamp is kept and its mark is clear. -/
def relevelGrant (st : Fin 6) (level : Nat) (a : Arbiter) : Arbiter :=
  { a with grants := a.grants.map fun g => if g.station == st then { g with level := level, mark := false } else g }

/-- R103: a pending request's level becomes `level`; its stamp and place are kept. -/
def relevelRequest (st : Fin 6) (level : Nat) (a : Arbiter) : Arbiter :=
  { a with pending := a.pending.map fun r => if r.station == st then { r with level := level } else r }

/-- R103: the water step of a station at a level. -/
def waterStep (st : Fin 6) (level : Nat) (s : State) : State :=
  if s.permit st then
    if s.arbiter.floor < level then arbitrate (s.onArbiter (relevelGrant st level))
    else arbitrate ((releaseGrant st s).onArbiter (newRequest st level))
  else if (s.request st).isSome then arbitrate (s.onArbiter (relevelRequest st level))
  else arbitrate (s.onArbiter (newRequest st level))

/-! ## A station losing a committed plan (R82) -/

/-- R82, step 1: the entries of a plan leave the queue. -/
def dropEntries (p : Fin 16) (x : Station) : Station :=
  { x with queue := x.queue.filter fun e => e.plan != p }

/-- R82, steps 2 and 3: a LOADED station becomes READY, and the next plan becomes the current plan. -/
def advanceStation (x : Station) : Station :=
  { x with
    mode := if x.mode = .loaded then .ready else x.mode
    current := x.next
    next := none }

/-- R82: a committed plan of the station becomes FREE. -/
def planLeavesStation (st : Fin 6) (p : Fin 16) (s : State) : State :=
  if (s.station st).current = some p then
    dropWater st (s.onStation st fun x => advanceStation (dropEntries p x))
  else
    s.onStation st fun x => { dropEntries p x with next := if x.next = some p then none else x.next }

/-- The pieces of the QUEUED placements of a list. -/
def queuedPieces (l : List Placement) : List PieceId :=
  (l.filter fun x => x.state == some .queued).map fun x => x.piece

/-- R74: unwind a COMMITTED plan: its entries, pieces, counts and slab, its station, and its slot. -/
def unwindCommitted (p : Fin 16) (s : State) : State :=
  match s.plan p with
  | some x =>
    let s1 := unplanPieces (queuedPieces (placementsOf x)) s
    let s2 := uncountPlacements (placementsOf x) s1
    let s3 := s2.onStock (releaseRecord x.serial)
    (planLeavesStation x.station p s3).putPlan p none
  | none => s

/-! ## Answering a request (R178 to R181) -/

/-- What a request's block answers: the part after its effects, the status, the body. -/
structure Reply where
  state : State
  status : Status
  body : List Byte

/-- A refusal with no body: no record changes. -/
def refuse (s : State) (status : Status) : Reply :=
  ⟨s, status, []⟩

/-- The part has taken a request frame whose transaction had `n` bytes: what was on the data line is known, any response was read
or is lost, no request is held any more, RDY is inactive (R178, R179, R181). -/
def takeFrame (n : Nat) (s : State) : State :=
  s.onLink fun l => { l with miso := presented s n, response := none, held := false }

/-- The response is in the buffer (R180, R181).  A request frame that already waits next was received while this response was being
prepared: the part holds it, and RDY stays inactive (DESIGN CHOICE, assumption 3). -/
def putResponse (status : Status) (body : List Byte) (s : State) : State :=
  s.onLink fun l => { l with response := some ⟨status, body⟩, held := waitingFrame s.pending }

/-- Serve a request whose body has `size` bytes: take its frame, make its block's checks and effects, place the response. -/
def serve (size : Nat) (work : State → Reply) (s : State) : Host.Outcome State Fault Refusal :=
  let r := work (takeFrame (size + 2) s)
  .next (putResponse r.status r.body r.state)

end Sys2Proof.Machine
end

