-- ==== Sys2Proof/Machine/Bodies.lean ====
section
/-! DEFINITION. The bodies of the responses, byte by byte (R189 and the rule of each report).  Where section 11.5 gives no table, the
items stand in the order in which their rule names them. -/

namespace Sys2Proof.Machine

/-! ## Slab records (R189, 33 bytes) -/

/-- A location as three bytes: its kind, the rack or the station, the position (R189, bytes 24 to 26 of the slab record). -/
def placeBytes (pl : Place) (pos : Nat) : List Byte :=
  match pl with
  | .rack r => be 1 0 ++ be 1 r ++ be 1 pos
  | .bed st => be 1 1 ++ be 1 st ++ be 1 0xFF
  | .unracked => be 1 2 ++ be 1 0xFF ++ be 1 0xFF

/-- An optional plan number (R189). -/
def planByte (p : Option (Fin 16)) : List Byte :=
  optByte (p.map fun q => q.val)

/-- The slab record body (R189). -/
def slabBody (k : Stock) (x : Slab) : List Byte :=
  tagBytes x.serial ++ be 1 (kindCode x.kind) ++ be 1 x.material ++ be 1 x.thickness ++
    be 2 x.nomLen ++ be 2 x.nomWid ++ be 1 x.head ++ be 1 x.tail ++ be 1 x.near ++ be 1 x.far ++
    be 2 x.usableLen ++ be 2 x.usableWid ++ be 4 x.usableArea ++ be 1 (slabStateCode x.state) ++
    placeBytes x.place (position x k) ++ planByte x.plan ++ be 1 x.gen ++ optField 3 x.parent

/-- R12: the number of matching records and the first 12 serials. -/
def stockListBody (l : List Slab) : List Byte :=
  be 2 l.length ++ countedList (fun x => be 3 x.serial) (l.take Config.listStockMax)

/-- R6: a rack's number, class and count. -/
def rackBody (r : Fin 32) (k : Stock) : List Byte :=
  be 1 r ++ be 1 (kindCode (k.classes.get r)) ++ be 1 (rackList r k).length

/-! ## Jobs, pieces and costs -/

/-- R23: a piece record. -/
def pieceBody (x : Piece) : List Byte :=
  be 1 x.id.job ++ be 1 x.id.idx ++ be 2 x.len ++ be 2 x.wid ++ be 1 (grainCode x.grain) ++
    be 1 (pieceStateCode x.state) ++ planByte x.plan ++ be 1 x.spoil

/-- R34: the job summary. -/
def jobSummary (j : Fin 64) (b : Job) (t : JobTable) : List Byte :=
  be 1 j ++ be 1 (jobStateCode b.state) ++ be 1 b.level ++ be 4 b.budget ++ flagByte b.hold ++ flagByte b.overBudget ++
    flagByte (heldForDispatch b) ++ be 2 b.openCount ++ be 1 (jobPieces j t).length

/-- R34: the job's pieces at or above a first index. -/
def piecesFrom (j : Fin 64) (first : Nat) (t : JobTable) : List Piece :=
  (jobPieces j t).filter fun x => decide (first ≤ x.id.idx)

/-- R34: the READ_JOB body: the summary, up to six piece records, the index to read on. -/
def readJobBody (j : Fin 64) (first : Nat) (b : Job) (t : JobTable) : List Byte :=
  jobSummary j b t ++ countedList pieceBody ((piecesFrom j first t).take Config.readJobMax) ++
    optByte (((piecesFrom j first t)[Config.readJobMax]?).map fun x => x.id.idx)

/-- R35, R150: the CLOSE_JOB summary: five category cents, the total, the five clipped flags, the total-clipped indication. -/
def costSummary (c : CostRecord) : List Byte :=
  allCategories.flatMap (fun q => be 4 (centsOf (getAcc c q).value)) ++ be 4 (totalCents c) ++
    allCategories.flatMap (fun q => flagByte (getAcc c q).clipped) ++ flagByte (totalClipped c)

/-- R148: the READ_COST report. -/
def costReport (j : Fin 64) (b : Job) : List Byte :=
  be 1 j ++ be 1 (jobStateCode b.state) ++ be 4 b.budget ++ flagByte b.hold ++ flagByte b.overBudget ++
    allCategories.flatMap (fun q =>
      be 6 (getAcc b.cost q).value ++ be 4 (centsOf (getAcc b.cost q).value) ++ flagByte (getAcc b.cost q).clipped) ++
    be 4 (totalCents b.cost) ++ flagByte (totalClipped b.cost)

/-! ## Plans (R75) -/

/-- R75, R189: the queue position or IN_PROGRESS of a LAYING plan; an absent queue position otherwise. -/
def layingBytes (p : Fin 16) (x : Plan) (t : PlanTable) : List Byte :=
  if isLaying x then
    if t.queue.contains p then be 1 0 ++ be 1 (t.queue.idxOf p) else be 1 1 ++ be 1 0
  else be 1 0 ++ be 1 0xFF

/-- The number of placements in a state. -/
def countState (q : PlaceState) (l : List Placement) : Nat :=
  l.countP fun x => x.state == some q

/-- The placement states in order (R48). -/
def allPlaceStates : List PlaceState :=
  [.queued, .issued, .cut, .spoiled, .void, .returned]

/-- R75: the plan summary. -/
def planSummary (p : Fin 16) (x : Plan) (s : State) : List Byte :=
  let l := layoutOf x
  let committed := (rateOf x).isSome
  be 1 p ++ be 1 (phaseCode x.phase) ++ be 3 x.serial ++ be 1 x.station ++ flagByte x.stale ++ be 1 x.pieces.length ++
    layingBytes p x s.plans ++ optByte (kerfOf x) ++ optByte (l.map fun y => y.strips.length) ++
    optByte (l.map fun y => y.placements.length) ++ optByte (l.map fun y => y.unfit.length) ++
    optByte (l.map fun y => candKindCode y.candidate.kind) ++ optField 2 (l.map fun y => y.candidate.len) ++
    optField 2 (l.map fun y => y.candidate.wid) ++ optField 4 (l.map fun y => y.placed) ++
    optField 2 (l.map fun y => y.yieldQ15) ++ optField 4 (rateOf x) ++
    optByte (if committed then roleOf s p x else none) ++
    allPlaceStates.flatMap fun q => optByte (if committed then some (countState q (placementsOf x)) else none)

/-- The index to read on after a part of a list, absent when none follow (R75). -/
def readOn {α : Type} (first size : Nat) (l : List α) : Option Nat :=
  if first + size < l.length then some (first + size) else none

/-- A part of a list from a first index, and the index to read on (R75). -/
def partBody {α : Type} (enc : α → List Byte) (first size : Nat) (l : List α) : List Byte :=
  countedList enc ((l.drop first).take size) ++ optByte (readOn first size l)

/-- A piece's name. -/
def pieceIdBytes (i : PieceId) : List Byte :=
  be 1 i.job ++ be 1 i.idx

/-- R44: a strip. -/
def stripBytes (x : Strip) : List Byte :=
  be 2 x.y ++ be 2 x.height ++ be 2 x.cursor

/-- R75: a placement. -/
def placementBytes (x : Placement) : List Byte :=
  pieceIdBytes x.piece ++ be 1 x.strip ++ be 2 x.x ++ be 2 x.y ++ be 2 x.xe ++ be 2 x.ye ++ flagByte x.rotated ++
    optByte (x.state.map placeStateCode)

/-- R75: an unfit entry. -/
def unfitBytes (x : Unfit) : List Byte :=
  pieceIdBytes x.piece ++ be 1 (reasonCode x.reason)

/-! ## Stations -/

/-- R79: the station summary. -/
def stationSummary (st : Fin 6) (x : Station) : List Byte :=
  be 1 st ++ be 1 (stationModeCode x.mode) ++ be 1 x.kerf ++ be 3 x.life ++ be 4 x.bladeMeter ++ flagByte (worn x) ++
    be 1 x.maxThick ++ flagByte x.spindle ++ be 4 x.runMeter ++ be 1 x.dryCount ++ planByte x.current ++ planByte x.next ++
    be 1 x.queue.length ++ planByte (x.issued.map fun e => e.plan) ++ optByte (x.issued.map fun e => e.index)

/-- The strip a placement lies in (R48: strips are numbered from 1). -/
def stripOf (l : Layout) (x : Placement) : Strip :=
  (l.strips[x.strip - 1]?).getD ⟨0, 0, 0⟩

/-- R91, R189: the cut descriptor, 19 bytes. -/
def descriptor (st : Fin 6) (e : CutEntry) (s : State) : List Byte :=
  match s.plan e.plan with
  | some p =>
    match layoutOf p with
    | some l =>
      match l.placements[e.index]? with
      | some x =>
        be 1 st ++ be 1 e.plan ++ be 1 e.index ++ pieceIdBytes x.piece ++ be 2 (stripOf l x).y ++ be 2 (stripOf l x).height ++
          be 2 x.x ++ be 2 x.y ++ be 2 x.xe ++ be 2 x.ye ++ flagByte x.rotated ++ be 1 ((kerfOf p).getD 0)
      | none => []
    | none => []
  | none => []

/-! ## Water (R114) -/

/-- The position of a station's request in the pending list. -/
def requestPosition (st : Fin 6) (a : Arbiter) : Nat :=
  a.pending.findIdx fun r => r.station == st

/-- R114, R189: the water standing: GRANT, PENDING or NONE, with room for the fields of the largest. -/
def standingBytes (st : Fin 6) (s : State) : List Byte :=
  match s.grant st with
  | some g => be 1 0 ++ be 1 g.level ++ be 4 g.stamp ++ flagByte g.mark
  | none =>
    match s.request st with
    | some r => be 1 1 ++ be 1 r.level ++ be 4 r.stamp ++ be 1 (requestPosition st s.arbiter)
    | none => be 1 2 ++ be 6 0

/-- R114, R189: the hold timer: IDLE, or the remaining time. -/
def holdBytes (h : Option Nat) : List Byte :=
  match h with
  | none => be 1 0 ++ be 2 0
  | some n => be 1 1 ++ be 2 n

/-- R114: the STATION report.  A line is sent as a flag, 1 for active or open (DESIGN CHOICE, assumption 18). -/
def waterStationBody (st : Fin 6) (s : State) : List Byte :=
  let x := s.station st
  be 1 st ++ flagByte x.issued.isSome ++ flagByte x.spindle ++ standingBytes st s ++ flagByte (s.permit st) ++
    flagByte (s.valve st) ++ holdBytes x.hold ++ be 2 x.flow ++ be 1 x.holdSetting ++ be 4 x.waterMeter ++ be 2 x.remainder ++
    be 4 x.waterSnap

/-- R114: the ARBITER report. -/
def waterArbiterBody (s : State) : List Byte :=
  let a := s.arbiter
  be 1 a.capacity ++ be 1 a.grants.length ++ be 1 a.floor ++ be 1 (tableTerm s) ++ flagByte (sumpTerm s == 7) ++
    flagByte (loadingTerm s == 7) ++ be 1 s.plant.clean.accepted ++ be 1 s.plant.sump.accepted ++
    a.table.toList.flatMap (be 1) ++
    countedList (fun r => be 1 r.station ++ be 1 r.level ++ be 4 r.stamp) a.pending ++
    countedList (fun g => be 1 g.station ++ be 1 g.level ++ be 4 g.stamp ++ flagByte g.mark) a.grants

/-! ## Plant (R133) -/

/-- The settings in order (R127). -/
def allSettings : List SettingName :=
  [.doseEnd, .settleEnd, .sludgeTime, .fillTimeout, .fillTarget, .fillMin, .fillStart, .decantFloor]

/-- R133: the plant report.  A line is sent as a flag, 1 for active (DESIGN CHOICE, assumption 18). -/
def plantReport (p : Plant) : List Byte :=
  be 1 (cycleCode p.cycle) ++ flagByte p.started ++ be 1 (plantModeCode p.mode) ++ be 2 p.counter ++
    optByte (p.remembered.map fun r => cycleCode r.phase) ++ optField 2 (p.remembered.map fun r => r.counter) ++
    be 2 p.batches ++ flagByte (transferLine p.cycle) ++ flagByte (doseLine p.cycle) ++ flagByte (decantLine p.cycle) ++
    flagByte (sludgeLine p.cycle) ++ be 1 p.sump.accepted ++ be 1 p.settling.accepted ++ be 1 p.clean.accepted ++
    flagByte p.turbidity.accepted ++
    allSettings.flatMap (fun n => be 2 (getSetting p.active n) ++ be 2 (getSetting p.buffered n)) ++ flagByte p.bufferMode

/-! ## Closes (R165) -/

/-- R165: the remnant outcome. -/
inductive RemnantOutcome | kept | lost | none
  deriving DecidableEq, Repr

/-- R165: a close report. -/
structure CloseReport where
  plan : Fin 16
  station : Fin 6
  parent : Nat
  broke : Bool
  outcome : RemnantOutcome
  remnant : Option Slab
  area : Nat
  pool : Nat
  sharing : Nat
  deriving DecidableEq, Repr

/-- The ordinal of a remnant outcome. -/
def outcomeCode : RemnantOutcome → Nat
  | .kept => 0
  | .lost => 1
  | .none => 2

/-- A field of several bytes that may be absent, given by its bytes. -/
def optBytes (w : Nat) (o : Option (List Byte)) : List Byte :=
  match o with
  | some bs => be 1 1 ++ bs
  | none => be 1 0 ++ be w 0

/-- R165: the close report's body, 31 bytes. -/
def reportBytes (r : CloseReport) : List Byte :=
  be 1 r.plan ++ be 1 r.station ++ be 3 r.parent ++ flagByte r.broke ++ be 1 (outcomeCode r.outcome) ++
    optBytes 4 (r.remnant.map fun x => tagBytes x.serial) ++ optField 2 (r.remnant.map fun x => x.nomLen) ++
    optField 2 (r.remnant.map fun x => x.nomWid) ++ optBytes 3 (r.remnant.map fun x => placeBytes x.place 0) ++
    be 4 r.area ++ be 4 r.pool ++ be 1 r.sharing

/-- R93, R165, R175: the slab-closed indication: a presence byte, then the report or zeros. -/
def indication (r : Option CloseReport) : List Byte :=
  optBytes 31 (r.map reportBytes)

/-! ## Notices (R184, R189) -/

/-- A notice entry, 4 bytes. -/
def noticeBytes (n : Notice) : List Byte :=
  be 1 (noticeCode n.kind) ++ be 2 n.object ++ be 1 n.count

/-- R184: the READ_NOTICES body: the number returned, the overflow flag, the number left, the entries. -/
def noticesBody (l : Link) : List Byte :=
  let out := l.notices.take Config.readNoticesMax
  be 1 out.length ++ flagByte l.overflow ++ be 1 (l.notices.length - out.length) ++ out.flatMap noticeBytes

end Sys2Proof.Machine
end

