-- ==== Sys2Proof/Machine/LayoutEngine.lean ====
section
/-! DEFINITION. The layout computation (chapter 3): orientation, order, strips, unfit pieces, the remnant candidate, the layout
record, and the engine's captures. -/

namespace Sys2Proof.Machine

/-! ## Orientation and order (R42, R43) -/

/-- R42: a captured piece with its extents along x and y. -/
structure Oriented where
  id : PieceId
  xe : Nat
  ye : Nat
  rotated : Bool
  deriving DecidableEq, Repr

/-- R42: the x-extent of a piece on a usable length. -/
def xExtent (ul : Nat) (p : CapPiece) : Nat :=
  match p.grain with
  | .fixed => p.len
  | .free => if max p.len p.wid ≤ ul then max p.len p.wid else min p.len p.wid

/-- R42: the y-extent of a piece on a usable length. -/
def yExtent (ul : Nat) (p : CapPiece) : Nat :=
  match p.grain with
  | .fixed => p.wid
  | .free => if max p.len p.wid ≤ ul then min p.len p.wid else max p.len p.wid

/-- R42: a piece oriented; rotated when its x-extent differs from its length as added. -/
def orient (ul : Nat) (p : CapPiece) : Oriented where
  id := p.id
  xe := xExtent ul p
  ye := yExtent ul p
  rotated := xExtent ul p != p.len

/-- R43: the first piece is placed before the second: y-extent descending, x-extent descending, job ascending, index ascending. -/
def placedBefore (a b : Oriented) : Bool :=
  decide (b.ye < a.ye) ||
    (a.ye == b.ye && (decide (b.xe < a.xe) ||
      (a.xe == b.xe && (decide (a.id.job < b.id.job) ||
        (a.id.job == b.id.job && decide (a.id.idx < b.id.idx))))))

/-- R43: the captured pieces, oriented, in the order of placement. -/
def placingOrder (c : Captures) : List Oriented :=
  sortBy placedBefore (c.pieces.map (orient c.ul))

/-! ## Strips and placement (R44 to R48) -/

/-- R44: the working state at the start of a computation. -/
def Work.empty : Work where
  strips := []
  placements := []
  unfit := []
  nextY := 0

/-- R45: a piece fits a strip. -/
def fitsStrip (ul : Nat) (o : Oriented) (x : Strip) : Bool :=
  decide (o.ye ≤ x.height) && decide (x.cursor + o.xe ≤ ul)

/-- R47: the entry of an unfit piece. -/
def markUnfit (o : Oriented) (r : UnfitReason) (w : Work) : Work :=
  { w with unfit := w.unfit ++ [⟨o.id, r⟩] }

/-- R45: set a piece into the strip at place `i` of the strip list. -/
def setIntoStrip (kerf : Nat) (o : Oriented) (i : Nat) (x : Strip) (w : Work) : Work :=
  { w with
    strips := w.strips.set i { x with cursor := x.cursor + o.xe + kerf }
    placements := w.placements ++ [⟨o.id, i + 1, x.cursor, x.y, o.xe, o.ye, o.rotated, none⟩] }

/-- R46: open a new strip with a piece. -/
def openStrip (kerf : Nat) (o : Oriented) (w : Work) : Work :=
  { w with
    strips := w.strips ++ [⟨w.nextY, o.ye, o.xe + kerf⟩]
    placements := w.placements ++ [⟨o.id, w.strips.length + 1, 0, w.nextY, o.xe, o.ye, o.rotated, none⟩]
    nextY := w.nextY + o.ye + kerf }

/-- R45 to R47: the turn of one piece. -/
def placePiece (c : Captures) (w : Work) (o : Oriented) : Work :=
  if c.ul < o.xe ∨ c.uw < o.ye then markUnfit o .tooLarge w
  else
    match w.strips.findIdx? (fitsStrip c.ul o) with
    | some i => setIntoStrip c.kerf o i ((w.strips[i]?).getD ⟨0, 0, 0⟩) w
    | none =>
      if w.strips.length < Config.maxStrips ∧ w.nextY + o.ye ≤ c.uw then openStrip c.kerf o w
      else markUnfit o .noRoom w

/-- R45 to R47: the turns of all captured pieces, from a working state. -/
def placeAll (c : Captures) (w : Work) : Work :=
  (placingOrder c).foldl (placePiece c) w

/-- R48: the placements in layout order: by strip, and within a strip in the order they were set. -/
def layoutOrder (l : List Placement) : List Placement :=
  (List.range Config.maxStrips).flatMap fun k => l.filter fun x => x.strip == k + 1

/-! ## The remnant candidate (R50, R51) -/

/-- R50: the largest cursor among the open strips. -/
def maxCursor (l : List Strip) : Nat :=
  l.foldl (fun m x => max m x.cursor) 0

/-- R50: the TOP rectangle. -/
def topCandidate (c : Captures) (w : Work) : Candidate :=
  ⟨.top, c.ul, c.uw - w.nextY⟩

/-- R50: the TAIL rectangle. -/
def tailCandidate (c : Captures) (w : Work) : Candidate :=
  ⟨.tail, c.ul - maxCursor w.strips, c.uw⟩

/-- R51: no candidate. -/
def noCandidate : Candidate :=
  ⟨.none, 0, 0⟩

/-- R51: the area of a candidate. -/
def Candidate.area (x : Candidate) : Nat :=
  x.len * x.wid

/-- R51: a candidate qualifies. -/
def qualifies (c : Captures) (x : Candidate) : Bool :=
  decide (0 < x.len) && decide (0 < x.wid) && decide (c.shortMin ≤ min x.len x.wid) && decide (c.longMin ≤ max x.len x.wid)

/-- R51: the layout's candidate. -/
def chooseCandidate (c : Captures) (w : Work) : Candidate :=
  if w.placements.isEmpty then noCandidate
  else if qualifies c (topCandidate c w) && qualifies c (tailCandidate c w) then
    if (topCandidate c w).area < (tailCandidate c w).area then tailCandidate c w else topCandidate c w
  else if qualifies c (topCandidate c w) then topCandidate c w
  else if qualifies c (tailCandidate c w) then tailCandidate c w
  else noCandidate

/-! ## The layout record (R52 to R54) -/

/-- The sum of the areas of a list of placements. -/
def sumArea (l : List Placement) : Nat :=
  (l.map Placement.area).sum

/-- R53: the yield. -/
def yieldOf (placed usableArea : Nat) : Nat :=
  placed * 32768 / usableArea

/-- R54: the layout record of a finished working state. -/
def layoutRecord (c : Captures) (w : Work) : Layout where
  strips := w.strips
  placements := layoutOrder w.placements
  unfit := w.unfit
  candidate := chooseCandidate c w
  placed := sumArea w.placements
  yieldQ15 := yieldOf (sumArea w.placements) (c.ul * c.uw)

/-- The layout of a computation run to its end. -/
def computeLayout (x : Computation) : Layout :=
  layoutRecord x.cap (placeAll x.cap x.work)

/-! ## Captures (R38) -/

/-- R38: the captured pieces of a piece set. -/
def capturePieces (ids : List PieceId) (t : JobTable) : List CapPiece :=
  ids.filterMap fun i => (findPiece i t).map fun x => ⟨x.id, x.len, x.wid, x.grain⟩

/-- R38: the inputs captured for a plan, when its slab is in the table. -/
def capture (x : Plan) (s : State) : Option Captures :=
  (findSlab x.serial s.stock).map fun b =>
    { ul := b.usableLen
      uw := b.usableWid
      kerf := (s.station x.station).kerf
      pieces := capturePieces x.pieces s.jobs
      shortMin := s.engine.shortMin
      longMin := s.engine.longMin }

/-! ## The engine's two events -/

/-- R37, R65: start a computation on a plan: the captures, an empty working state, the next computation number. -/
def startComputation (p : Fin 16) (x : Plan) (c : Captures) (s : State) : State :=
  ((s.onPlans fun t => { t with queue := t.queue.tail }).putPlan p
    (some { x with phase := .laying (some s.engine.nextNumber) })).onEngine fun e =>
      { e with current := some ⟨p, e.nextNumber, c, Work.empty⟩, nextNumber := (e.nextNumber + 1) % 65536 }

/-- ENGINE_TAKE, R65 and R37: an idle engine takes the plan at the head of the layout queue.  With the engine at work or the queue
empty the event does not come about, and nothing changes; nor is a computation started on a plan whose records cannot be read. -/
def takeHead (s : State) : State :=
  match s.engine.current, s.plans.queue with
  | none, p :: _ =>
    match s.plan p with
    | some x =>
      if isLaying x then
        match capture x s with
        | some c => startComputation p x c s
        | none => s
      else s
    | none => s
  | _, _ => s

/-- ENGINE_TAKE. -/
def execEngineTake (s : State) : Host.Outcome State Fault Refusal :=
  .next (takeHead s)

/-- R67: the pieces a layout accounts for. -/
def accountedPieces (l : Layout) : List PieceId :=
  l.placements.map (fun x => x.piece) ++ l.unfit.map (fun x => x.piece)

/-- R67: a piece set holds exactly the pieces a layout accounts for. -/
def sameSet (a b : List PieceId) : Bool :=
  a.length == b.length && a.all b.contains && b.all a.contains

/-- R67: the Plan Table handles the completion of computation `number` on plan `p`. -/
def handOver (p : Fin 16) (number kerf : Nat) (l : Layout) (s : State) : State :=
  match s.plan p with
  | none => s
  | some x =>
    if numberOf x ≠ some number then s
    else if isLaying x && !s.plans.queue.contains p then
      if sameSet x.pieces (accountedPieces l) then
        raiseNotice .laid p (s.putPlan p (some { x with stale := false, phase := .laid kerf l }))
      else
        (s.putPlan p (some { x with stale := true, phase := .laying none })).onPlans fun t => { t with queue := t.queue ++ [p] }
    else s

/-- LAYOUT_COMPLETE, R40: the computation in progress runs to its end, the engine becomes idle, and the Plan Table handles the
layout.  With the engine idle there is no computation to complete, and nothing changes. -/
def completeComputation (s : State) : State :=
  match s.engine.current with
  | some x => handOver x.plan x.number x.cap.kerf (computeLayout x) (s.onEngine fun e => { e with current := none })
  | none => s

/-- LAYOUT_COMPLETE. -/
def execLayoutComplete (s : State) : Host.Outcome State Fault Refusal :=
  .next (completeComputation s)

/-- R40: a stop naming a computation number ends that computation unfinished, and changes nothing for another number. -/
def stopComputation (number : Nat) (e : Engine) : Engine :=
  match e.current with
  | some x => if x.number = number then { e with current := none } else e
  | none => e

end Sys2Proof.Machine
end

