-- ==== Sys2Proof/Machine/Stock.lean ====
section
/-! DEFINITION. The requests of the Stock Table (chapter 1), and the two changes it makes for other blocks: bed placement (R18) and
remnant creation (R7, R19). -/

namespace Sys2Proof.Machine

/-- R3: the checks of a request that names an existing record by its tag. -/
def withRecord (serial check : Nat) (k : Slab → Reply) (s : State) : Reply :=
  if !tagValid serial check then refuse s .badTag
  else
    match findSlab serial s.stock with
    | some x => k x
    | none => refuse s .notFound

/-- An OK answer whose body is a record of the table. -/
def okRecord (x : Slab) (s : State) : Reply :=
  ⟨s, .ok, slabBody s.stock x⟩

/-- R9, step 4: the fields of an admission are in their ranges. -/
def admitFieldsOk (kind material thickness nomLen nomWid head tail near far rack : Nat) : Bool :=
  (kindOf kind).isSome && decide (material ≤ 31) && inRange 10 60 thickness && inRange 300 3800 nomLen &&
    inRange 200 2300 nomWid && geometryOk nomLen nomWid head tail near far && decide (rack ≤ 31)

/-- R9: the record an admission creates. -/
def newRecord (serial : Nat) (kind : SlabKind) (material : Fin 32) (thickness nomLen nomWid head tail near far : Nat)
    (rack : Fin 32) : Slab where
  serial := serial
  kind := kind
  material := material
  thickness := thickness
  nomLen := nomLen
  nomWid := nomWid
  head := head
  tail := tail
  near := near
  far := far
  state := .available
  place := .rack rack
  plan := none
  parent := none
  gen := 0

/-- Enter a record into the table and at the front of a rack. -/
def enterRecord (x : Slab) (r : Fin 32) (k : Stock) : Stock :=
  joinRack x.serial r (addSlab x k)

/-- R9: the checks and the effect of ADMIT_SLAB. -/
def admitReply (serial check kind material thickness nomLen nomWid head tail near far rack : Nat) (s : State) : Reply :=
  if !tagValid serial check then refuse s .badTag
  else if inRange Config.firstRemnantSerial Config.lastRemnantSerial serial then refuse s .badField
  else if (findSlab serial s.stock).isSome then refuse s .duplicate
  else if !admitFieldsOk kind material thickness nomLen nomWid head tail near far rack then refuse s .badField
  else if Config.maxSlabs ≤ s.stock.slabs.length then refuse s .full
  else if Config.rackSize ≤ (rackList (Fin.ofNat 32 rack) s.stock).length then refuse s .full
  else
    let x := newRecord serial ((kindOf kind).getD .slab) (Fin.ofNat 32 material) thickness nomLen nomWid head tail near far
      (Fin.ofNat 32 rack)
    okRecord x (s.onStock (enterRecord x (Fin.ofNat 32 rack)))

/-- ADMIT_SLAB. -/
def execAdmitSlab (serial check kind material thickness nomLen nomWid head tail near far rack : Nat) (s : State) :
    Host.Outcome State Fault Refusal :=
  serve 16 (admitReply serial check kind material thickness nomLen nomWid head tail near far rack) s

/-- FIND_SLAB, R10. -/
def execFindSlab (serial check : Nat) (s : State) : Host.Outcome State Fault Refusal :=
  serve 4 (fun t => withRecord serial check (fun x => okRecord x t) t) s

/-- R11: the filter's dimensions are covered one way round. -/
def covers (len wid minLen minWid : Nat) : Bool :=
  decide (minLen ≤ len) && decide (minWid ≤ wid)

/-- R11: a record matches a filter; the selector `none` is ANY. -/
def stockMatch (material minLen minWid : Nat) (kind : Option SlabKind) (x : Slab) : Bool :=
  x.state == .available && x.material.val == material && (kind.isNone || kind == some x.kind) &&
    (covers x.usableLen x.usableWid minLen minWid || covers x.usableLen x.usableWid minWid minLen)

/-- R12: ascending usable area, then ascending serial. -/
def smallerFirst (x y : Slab) : Bool :=
  decide (x.usableArea < y.usableArea) || (x.usableArea == y.usableArea && decide (x.serial < y.serial))

/-- R11, R12: the matching records in the order of the answer. -/
def stockSearch (material minLen minWid : Nat) (kind : Option SlabKind) (k : Stock) : List Slab :=
  sortBy smallerFirst (k.slabs.filter (stockMatch material minLen minWid kind))

/-- R11: the checks and the answer of LIST_STOCK. -/
def listStockReply (material minLen minWid selector : Nat) (s : State) : Reply :=
  if 31 < material ∨ 3600 < minLen ∨ 3600 < minWid then refuse s .badField
  else
    match selectorOf selector with
    | some kind => ⟨s, .ok, stockListBody (stockSearch material minLen minWid kind s.stock)⟩
    | none => refuse s .badField

/-- LIST_STOCK. -/
def execListStock (material minLen minWid selector : Nat) (s : State) : Host.Outcome State Fault Refusal :=
  serve 6 (listStockReply material minLen minWid selector) s

/-- R13: move a record to the front of a rack other than the one it stands in. -/
def moveRecord (x : Slab) (r : Fin 32) (k : Stock) : Stock :=
  putSlab { x with place := .rack r } (joinRack x.serial r (leaveRack x k))

/-- R13: the own checks and the effect of MOVE_SLAB. -/
def moveReply (rack : Nat) (x : Slab) (s : State) : Reply :=
  if 31 < rack then refuse s .badField
  else if x.state = .onSaw then refuse s .badState
  else if 0 < position x s.stock then ⟨s, .blocked, be 1 (position x s.stock)⟩
  else if x.place = .rack (Fin.ofNat 32 rack) then okRecord x s
  else if Config.rackSize ≤ (rackList (Fin.ofNat 32 rack) s.stock).length then refuse s .full
  else okRecord { x with place := .rack (Fin.ofNat 32 rack) } (s.onStock (moveRecord x (Fin.ofNat 32 rack)))

/-- MOVE_SLAB. -/
def execMoveSlab (serial check rack : Nat) (s : State) : Host.Outcome State Fault Refusal :=
  serve 5 (fun t => withRecord serial check (fun x => moveReply rack x t) t) s

/-- R14: change a record's state from one state to another, where it stands. -/
def changeState (before after : SlabState) (x : Slab) (s : State) : Reply :=
  if x.state ≠ before then refuse s .badState
  else okRecord { x with state := after } (s.onStock (putSlab { x with state := after }))

/-- HOLD_SLAB, R14. -/
def execHoldSlab (serial check : Nat) (s : State) : Host.Outcome State Fault Refusal :=
  serve 4 (fun t => withRecord serial check (fun x => changeState .available .held x t) t) s

/-- RELEASE_SLAB, R14. -/
def execReleaseSlab (serial check : Nat) (s : State) : Host.Outcome State Fault Refusal :=
  serve 4 (fun t => withRecord serial check (fun x => changeState .held .available x t) t) s

/-- A record that no plan names: neither RESERVED nor ON_SAW. -/
def unclaimed (x : Slab) : Bool :=
  x.state == .available || x.state == .held

/-- R15: the own checks and the effect of TRIM_SLAB. -/
def trimReply (head tail near far : Nat) (x : Slab) (s : State) : Reply :=
  if !unclaimed x then refuse s .badState
  else if !geometryOk x.nomLen x.nomWid head tail near far then refuse s .badField
  else
    let y := { x with head := head, tail := tail, near := near, far := far }
    okRecord y (s.onStock (putSlab y))

/-- TRIM_SLAB. -/
def execTrimSlab (serial check head tail near far : Nat) (s : State) : Host.Outcome State Fault Refusal :=
  serve 8 (fun t => withRecord serial check (fun x => trimReply head tail near far x t) t) s

/-- R16: the record leaves its rack list and the table. -/
def removeRecord (x : Slab) (k : Stock) : Stock :=
  dropSlab x.serial (leaveRack x k)

/-- R16: the own checks and the effect of RETIRE_SLAB. -/
def retireReply (x : Slab) (s : State) : Reply :=
  if !unclaimed x then refuse s .badState
  else if 0 < position x s.stock then ⟨s, .blocked, be 1 (position x s.stock)⟩
  else ⟨s.onStock (removeRecord x), .ok, []⟩

/-- RETIRE_SLAB. -/
def execRetireSlab (serial check : Nat) (s : State) : Host.Outcome State Fault Refusal :=
  serve 4 (fun t => withRecord serial check (fun x => retireReply x t) t) s

/-- R6: set a rack's class. -/
def setClass (r : Fin 32) (c : SlabKind) (k : Stock) : Stock :=
  { k with classes := k.classes.set r c }

/-- R6: the checks and the effect of SET_RACK_CLASS. -/
def rackClassReply (rack cls : Nat) (s : State) : Reply :=
  if 31 < rack then refuse s .badField
  else
    match kindOf cls with
    | some c =>
      let t := s.onStock (setClass (Fin.ofNat 32 rack) c)
      ⟨t, .ok, rackBody (Fin.ofNat 32 rack) t.stock⟩
    | none => refuse s .badField

/-- SET_RACK_CLASS. -/
def execSetRackClass (rack cls : Nat) (s : State) : Host.Outcome State Fault Refusal :=
  serve 2 (rackClassReply rack cls) s

/-! ## Changes made for other blocks -/

/-- R18: bed placement: the record leaves its rack for the station's bed and becomes ON_SAW. -/
def placeOnBed (x : Slab) (st : Fin 6) (k : Stock) : Stock :=
  putSlab { x with place := .bed st, state := .onSaw } (leaveRack x k)

/-- R7: the counter's next value. -/
def nextRemnantSerial (n : Nat) : Nat :=
  if n = Config.lastRemnantSerial then Config.firstRemnantSerial else n + 1

/-- R7: the first candidate from `n` on that no record carries, among at most `fuel` taken ones. -/
def freeSerial (k : Stock) : Nat → Nat → Nat
  | 0, n => n
  | fuel + 1, n => if (findSlab n k).isSome then freeSerial k fuel (nextRemnantSerial n) else n

/-- R7: the serial the counter issues next.  The table's length bounds the serials that can be skipped. -/
def issuedSerial (k : Stock) : Nat :=
  freeSerial k k.slabs.length k.nextSerial

/-- R19: the rack is of class REMNANT and holds fewer than 16 records. -/
def remnantRoom (k : Stock) (r : Fin 32) : Bool :=
  k.classes.get r == .remnant && decide ((rackList r k).length < Config.rackSize)

/-- R19: the first of the racks that hold the fewest records. -/
def fewest (k : Stock) : List (Fin 32) → Option (Fin 32)
  | [] => none
  | r :: l =>
    match fewest k l with
    | some q => if (rackList q k).length < (rackList r k).length then some q else some r
    | none => some r

/-- R19: the rack a created remnant joins, if any has room. -/
def remnantRack (k : Stock) : Option (Fin 32) :=
  fewest k ((List.finRange 32).filter (remnantRoom k))

/-- R19: the record of a remnant created from a parent and a candidate. -/
def remnantRecord (parent : Slab) (len wid serial : Nat) (place : Place) : Slab where
  serial := serial
  kind := .remnant
  material := parent.material
  thickness := parent.thickness
  nomLen := len
  nomWid := wid
  head := 0
  tail := 0
  near := 0
  far := 0
  state := .available
  place := place
  plan := none
  parent := some parent.serial
  gen := parent.gen + 1

/-- R7, R19: where a created remnant goes. -/
def remnantPlace (k : Stock) : Place :=
  match remnantRack k with
  | some r => .rack r
  | none => .unracked

/-- R19: the remnant a close creates. -/
def createdRemnant (parent : Slab) (len wid : Nat) (k : Stock) : Slab :=
  remnantRecord parent len wid (issuedSerial k) (remnantPlace k)

/-- R7, R19: enter the created remnant, and advance the counter past its serial. -/
def enterRemnant (x : Slab) (k : Stock) : Stock :=
  let k1 := { addSlab x k with nextSerial := nextRemnantSerial x.serial }
  match x.place with
  | .rack r => joinRack x.serial r k1
  | _ => k1

/-- R19: create a remnant, raising REMNANT_UNRACKED when no rack has room. -/
def createRemnant (parent : Slab) (len wid : Nat) (s : State) : State :=
  let x := createdRemnant parent len wid s.stock
  let t := s.onStock (enterRemnant x)
  match x.place with
  | .unracked => raiseNotice .remnantUnracked (x.serial % 65536) t
  | _ => t

end Sys2Proof.Machine
end

