-- ==== Sys2Proof/Machine/Jobs.lean ====
section
/-! DEFINITION. The requests of the Job Table (chapter 2): jobs, pieces, budgets. -/

namespace Sys2Proof.Machine

/-- R28: the checks of a job number. -/
def withJob (job : Nat) (k : Fin 64 → Job → Reply) (s : State) : Reply :=
  if 63 < job then refuse s .badField
  else
    match s.job (Fin.ofNat 64 job) with
    | some b => k (Fin.ofNat 64 job) b
    | none => refuse s .notFound

/-- R28: the checks of a piece's job number and index. -/
def withPiece (job idx : Nat) (k : Job → Piece → Reply) (s : State) : Reply :=
  withJob job (fun j b =>
    if 47 < idx then refuse s .badField
    else
      match findPiece ⟨j, idx⟩ s.jobs with
      | some x => k b x
      | none => refuse s .notFound) s

/-- R29: the job record OPEN_JOB creates. -/
def newJob (level budget : Nat) (hold : Bool) : Job where
  state := .opened
  level := clampLevel level
  budget := budget
  hold := hold
  overBudget := false
  openCount := 0
  cost := CostRecord.zero

/-- R29: the checks and the effect of OPEN_JOB. -/
def openJobReply (job level budget hold : Nat) (s : State) : Reply :=
  if 63 < job then refuse s .badField
  else if (s.job (Fin.ofNat 64 job)).isSome then refuse s .duplicate
  else
    match flagOf hold with
    | some h =>
      let b := newJob level budget h
      let t := s.putJob (Fin.ofNat 64 job) (some b)
      ⟨t, .ok, jobSummary (Fin.ofNat 64 job) b t.jobs⟩
    | none => refuse s .badField

/-- OPEN_JOB. -/
def execOpenJob (job level budget hold : Nat) (s : State) : Host.Outcome State Fault Refusal :=
  serve 7 (openJobReply job level budget hold) s

/-- R23: the order of the piece table: ascending job, then index. -/
def pieceBefore (x y : Piece) : Bool :=
  decide (x.id.job < y.id.job) || (x.id.job == y.id.job && decide (x.id.idx < y.id.idx))

/-- R30: the lowest index a job has no piece at. -/
def freeIndex (j : Fin 64) (t : JobTable) : Option Nat :=
  (List.range Config.jobPieces).find? fun i => (findPiece ⟨j, i⟩ t).isNone

/-- R30: the piece record ADD_PIECE creates. -/
def newPiece (j : Fin 64) (idx len wid : Nat) (g : Grain) : Piece where
  id := ⟨j, idx⟩
  len := len
  wid := wid
  grain := g
  state := .unplanned
  plan := none
  spoil := 0

/-- R30: enter a piece. -/
def enterPiece (x : Piece) (t : JobTable) : JobTable :=
  { t with pieces := insertBy pieceBefore x t.pieces }

/-- R30: the own checks and the effect of ADD_PIECE. -/
def addPieceReply (len wid grain : Nat) (j : Fin 64) (b : Job) (s : State) : Reply :=
  if j = 0 ∨ b.state = .cancelling then refuse s .badState
  else if !inRange 50 3600 len || !inRange 50 2100 wid then refuse s .badField
  else
    match grainOf grain with
    | none => refuse s .badField
    | some g =>
      if Config.jobPieces ≤ (jobPieces j s.jobs).length then refuse s .full
      else if Config.maxPieces ≤ s.jobs.pieces.length then refuse s .full
      else
        match freeIndex j s.jobs with
        | some i => ⟨s.onJobs (enterPiece (newPiece j i len wid g)), .ok, pieceBody (newPiece j i len wid g)⟩
        | none => refuse s .full

/-- ADD_PIECE. -/
def execAddPiece (job len wid grain : Nat) (s : State) : Host.Outcome State Fault Refusal :=
  serve 6 (fun t => withJob job (fun j b => addPieceReply len wid grain j b t) t) s

/-- Delete the pieces that a test selects. -/
def deletePieces (sel : Piece → Bool) (t : JobTable) : JobTable :=
  { t with pieces := t.pieces.filter fun x => !sel x }

/-- R31: the piece may be deleted: UNPLANNED or HELD. -/
def deletable (x : Piece) : Bool :=
  x.state == .unplanned || x.state == .held

/-- R31: the own check and the effect of DELETE_PIECE. -/
def deletePieceReply (x : Piece) (s : State) : Reply :=
  if !deletable x then refuse s .badState
  else ⟨s.onJobs (deletePieces fun y => y.id == x.id), .ok, []⟩

/-- DELETE_PIECE. -/
def execDeletePiece (job idx : Nat) (s : State) : Host.Outcome State Fault Refusal :=
  serve 2 (fun t => withPiece job idx (fun _ x => deletePieceReply x t) t) s

/-- R32: a released piece. -/
def releasedPiece (x : Piece) : Piece :=
  { unplan x with spoil := 0 }

/-- R32: the own checks and the effect of RELEASE_PIECE. -/
def releasePieceReply (b : Job) (x : Piece) (s : State) : Reply :=
  if b.state = .cancelling then refuse s .badState
  else if x.state ≠ .held then refuse s .badState
  else ⟨s.onJobs (modPieces [x.id] releasedPiece), .ok, pieceBody (releasedPiece x)⟩

/-- RELEASE_PIECE. -/
def execReleasePiece (job idx : Nat) (s : State) : Host.Outcome State Fault Refusal :=
  serve 2 (fun t => withPiece job idx (fun b x => releasePieceReply b x t) t) s

/-- R33: the over-budget flag against a new budget: set when the budget is above 0 and at or below the total. -/
def overAgainst (budget : Nat) (c : CostRecord) : Bool :=
  decide (0 < budget) && decide (budget ≤ totalCents c)

/-- R33: the job with its three settings replaced and its over-budget flag settled. -/
def setJobRecord (level budget : Nat) (hold : Bool) (b : Job) : Job :=
  { b with level := clampLevel level, budget := budget, hold := hold, overBudget := overAgainst budget b.cost }

/-- R33: the own checks and the effect of SET_JOB. -/
def setJobReply (level budget hold : Nat) (j : Fin 64) (b : Job) (s : State) : Reply :=
  if j = 0 then refuse s .badState
  else
    match flagOf hold with
    | none => refuse s .badField
    | some h =>
      let b' := setJobRecord level budget h b
      let t := s.putJob j (some b')
      let u := if b'.overBudget && !b.overBudget then raiseNotice .budget j t else t
      ⟨u, .ok, jobSummary j b' u.jobs⟩

/-- SET_JOB. -/
def execSetJob (job level budget hold : Nat) (s : State) : Host.Outcome State Fault Refusal :=
  serve 7 (fun t => withJob job (fun j b => setJobReply level budget hold j b t) t) s

/-- R34: the own check and the answer of READ_JOB. -/
def readJobReply (first : Nat) (j : Fin 64) (b : Job) (s : State) : Reply :=
  if 47 < first then refuse s .badField
  else ⟨s, .ok, readJobBody j first b s.jobs⟩

/-- READ_JOB. -/
def execReadJob (job first : Nat) (s : State) : Host.Outcome State Fault Refusal :=
  serve 2 (fun t => withJob job (fun j b => readJobReply first j b t) t) s

/-- R35: the piece keeps its job from closing: DRAFTED, QUEUED or ISSUED. -/
def inWork (x : Piece) : Bool :=
  x.state == .drafted || x.state == .queued || x.state == .issued

/-- R35: delete a job's pieces and free its slot. -/
def freeJob (j : Fin 64) (s : State) : State :=
  (s.onJobs (deletePieces fun x => x.id.job == j)).putJob j none

/-- R35: the own checks and the effect of CLOSE_JOB. -/
def closeJobReply (j : Fin 64) (b : Job) (s : State) : Reply :=
  if j = 0 then refuse s .badState
  else if (jobPieces j s.jobs).any inWork then refuse s .badState
  else if 0 < b.openCount then refuse s .badState
  else ⟨freeJob j s, .ok, costSummary b.cost⟩

/-- CLOSE_JOB. -/
def execCloseJob (job : Nat) (s : State) : Host.Outcome State Fault Refusal :=
  serve 1 (fun t => withJob job (fun j b => closeJobReply j b t) t) s

end Sys2Proof.Machine
end

