-- ==== Sys2Proof/Machine/Plans.lean ====
section
/-! DEFINITION. The requests of the Plan Table (chapter 4). -/

namespace Sys2Proof.Machine

/-- R60: the checks of a plan number. -/
def withPlan (plan : Nat) (k : Fin 16 → Plan → Reply) (s : State) : Reply :=
  if 15 < plan then refuse s .badField
  else
    match s.plan (Fin.ofNat 16 plan) with
    | some x => k (Fin.ofNat 16 plan) x
    | none => refuse s .notFound

/-- An OK answer with the plan summary (R75). -/
def okPlan (p : Fin 16) (x : Plan) (s : State) : Reply :=
  ⟨s, .ok, planSummary p x s⟩

/-! ## Drafting (R61 to R63) -/

/-- R61: the lowest FREE slot. -/
def freePlan (t : PlanTable) : Option (Fin 16) :=
  (List.finRange 16).find? fun p => (t.slots.get p).isNone

/-- R61: a plan just opened. -/
def newPlan (serial : Nat) (st : Fin 6) : Plan where
  serial := serial
  station := st
  pieces := []
  stale := false
  phase := .draft

/-- R17: reservation: an AVAILABLE record becomes RESERVED with the plan's number, where it stands. -/
def reserve (p : Fin 16) (x : Slab) : Slab :=
  { x with state := .reserved, plan := some p }

/-- R61: the checks and the effect of OPEN_PLAN. -/
def openPlanReply (serial check station : Nat) (s : State) : Reply :=
  if !tagValid serial check then refuse s .badTag
  else if 5 < station then refuse s .badField
  else
    match findSlab serial s.stock with
    | none => refuse s .notFound
    | some x =>
      if x.state ≠ .available then refuse s .badState
      else if (s.station (Fin.ofNat 6 station)).maxThick < x.thickness then refuse s .tooThick
      else
        match freePlan s.plans with
        | none => refuse s .full
        | some p =>
          okPlan p (newPlan serial (Fin.ofNat 6 station))
            ((s.onStock (putSlab (reserve p x))).putPlan p (some (newPlan serial (Fin.ofNat 6 station))))

/-- OPEN_PLAN. -/
def execOpenPlan (serial check station : Nat) (s : State) : Host.Outcome State Fault Refusal :=
  serve 5 (openPlanReply serial check station) s

/-- The plan is COMMITTED or CUTTING. -/
def isCommittedOrCutting (x : Plan) : Bool :=
  isCommitted x || isCutting x

/-- R62, R63: the plan with a new piece set; a LAID plan drops its layout and kerf and becomes DRAFT. -/
def redraft (ids : List PieceId) (x : Plan) : Plan :=
  { x with pieces := ids, phase := match x.phase with | .laid _ _ => .draft | q => q }

/-- R24: a piece DRAFTED into a plan. -/
def draftPiece (p : Fin 16) (x : Piece) : Piece :=
  { x with state := .drafted, plan := some p }

/-- R62: the own checks and the effect of PLAN_ADD. -/
def planAddReply (p : Fin 16) (x : Plan) (b : Job) (y : Piece) (s : State) : Reply :=
  if isLaying x then refuse s .busy
  else if isCommittedOrCutting x then refuse s .badState
  else if b.state = .cancelling then refuse s .badState
  else if y.state ≠ .unplanned then refuse s .badState
  else if Config.planPieces ≤ x.pieces.length then refuse s .full
  else
    let x' := redraft (x.pieces ++ [y.id]) x
    okPlan p x' ((s.onJobs (modPieces [y.id] (draftPiece p))).putPlan p (some x'))

/-- PLAN_ADD. -/
def execPlanAdd (plan job idx : Nat) (s : State) : Host.Outcome State Fault Refusal :=
  serve 3 (fun t => withPlan plan (fun p x => withPiece job idx (fun b y => planAddReply p x b y t) t) t) s

/-- R63: the own checks and the effect of PLAN_REMOVE. -/
def planRemoveReply (p : Fin 16) (x : Plan) (y : Piece) (s : State) : Reply :=
  if isLaying x then refuse s .busy
  else if isCommittedOrCutting x then refuse s .badState
  else if !x.pieces.contains y.id then refuse s .badState
  else
    let x' := redraft (x.pieces.filter fun i => i != y.id) x
    okPlan p x' ((unplanPieces [y.id] s).putPlan p (some x'))

/-- PLAN_REMOVE. -/
def execPlanRemove (plan job idx : Nat) (s : State) : Host.Outcome State Fault Refusal :=
  serve 3 (fun t => withPlan plan (fun p x => withPiece job idx (fun _ y => planRemoveReply p x y t) t) t) s

/-! ## Laying out (R64) -/

/-- R64: the plan becomes LAYING and joins the layout queue at the tail. -/
def queueForLayout (p : Fin 16) (x : Plan) (s : State) : State :=
  (s.putPlan p (some { x with phase := .laying none })).onPlans fun t => { t with queue := t.queue ++ [p] }

/-- R64: the own checks and the effect of LAYOUT. -/
def layoutReply (p : Fin 16) (x : Plan) (s : State) : Reply :=
  if isLaying x then refuse s .busy
  else if isCommittedOrCutting x then refuse s .badState
  else if x.pieces.isEmpty then refuse s .badState
  else ⟨queueForLayout p x s, .accepted, be 1 s.plans.queue.length⟩

/-- LAYOUT. -/
def execLayout (plan : Nat) (s : State) : Host.Outcome State Fault Refusal :=
  serve 1 (fun t => withPlan plan (fun p x => layoutReply p x t) t) s

/-! ## Commitment (R69, R70) -/

/-- R70: the material rate of a slab's material code, captured at COMMIT. -/
def rateFor (serial : Nat) (s : State) : Nat :=
  match findSlab serial s.stock with
  | some b => s.rates.material.get b.material
  | none => 0

/-- R70, step 5: the cut entries of a plan, in the order of its placement list. -/
def cutEntries (p : Fin 16) (l : List Placement) : List CutEntry :=
  l.mapIdx fun i x => ⟨p, i, x.piece⟩

/-- R70, step 2: a piece QUEUED in a committed plan; it keeps the plan's number. -/
def queuePiece (x : Piece) : Piece :=
  { x with state := .queued }

/-- R70, steps 5 and 6: the entries join the queue, and the plan takes the station's free role. -/
def takeCommitted (p : Fin 16) (l : List Placement) (x : Station) : Station :=
  { x with
    queue := x.queue ++ cutEntries p l
    current := if x.current.isNone then some p else x.current
    next := if x.current.isNone then x.next else some p }

/-- R70, steps 2, 4 and 7: the plan COMMITTED with its placements QUEUED and its material rate. -/
def committedPlan (x : Plan) (kerf : Nat) (l : Layout) (rate : Nat) : Plan :=
  { x with phase := .committed kerf { l with placements := l.placements.map (withState .queued) } rate }

/-- R70: the effects of a COMMIT that passes its checks. -/
def commitPlan (p : Fin 16) (x : Plan) (kerf : Nat) (l : Layout) (s : State) : State :=
  let s1 := unplanPieces (l.unfit.map fun u => u.piece) s
  let s2 := s1.onJobs (modPieces (l.placements.map fun y => y.piece) queuePiece)
  let s3 := countPlacements l.placements s2
  let s4 := s3.onStation x.station (takeCommitted p l.placements)
  s4.putPlan p (some (committedPlan x kerf l (rateFor x.serial s)))

/-- R69: the own checks of COMMIT, and its effect. -/
def commitReply (p : Fin 16) (x : Plan) (s : State) : Reply :=
  match x.phase with
  | .laying _ => refuse s .busy
  | .laid kerf l =>
    if l.placements.isEmpty then refuse s .badState
    else if (s.station x.station).mode = .offline then refuse s .badState
    else if (s.station x.station).current.isSome && (s.station x.station).next.isSome then refuse s .full
    else if kerf < (s.station x.station).kerf then refuse s .kerfConflict
    else okPlan p (committedPlan x kerf l (rateFor x.serial s)) (commitPlan p x kerf l s)
  | _ => refuse s .badState

/-- COMMIT. -/
def execCommit (plan : Nat) (s : State) : Host.Outcome State Fault Refusal :=
  serve 1 (fun t => withPlan plan (fun p x => commitReply p x t) t) s

/-! ## Abandonment (R72 to R74) -/

/-- R72: unwind a plan in DRAFT, LAYING or LAID. -/
def unwindDraft (p : Fin 16) (x : Plan) (s : State) : State :=
  ((unplanPieces x.pieces s).onStock (releaseRecord x.serial)).putPlan p none

/-- R73: end a LAYING plan's place in the layout work: out of the queue, and a stop to the engine naming its computation. -/
def leaveLayoutWork (p : Fin 16) (number : Option Nat) (s : State) : State :=
  let t := s.onPlans fun t => { t with queue := t.queue.filter fun q => q != p }
  match number with
  | some n => t.onEngine (stopComputation n)
  | none => t

/-- R72 to R74: the own check and the effect of ABANDON. -/
def abandonReply (p : Fin 16) (x : Plan) (s : State) : Reply :=
  match x.phase with
  | .cutting _ _ _ => refuse s .badState
  | .committed _ _ _ => ⟨unwindCommitted p s, .ok, []⟩
  | .laying n => ⟨unwindDraft p x (leaveLayoutWork p n s), .ok, []⟩
  | .draft => ⟨unwindDraft p x s, .ok, []⟩
  | .laid _ _ => ⟨unwindDraft p x s, .ok, []⟩

/-- ABANDON. -/
def execAbandon (plan : Nat) (s : State) : Host.Outcome State Fault Refusal :=
  serve 1 (fun t => withPlan plan (fun p x => abandonReply p x t) t) s

/-! ## Reading a plan (R75) -/

/-- R75: the checks of READ_PLAN before its part. -/
def withPlanPart (plan first : Nat) (k : Fin 16 → Plan → Reply) (s : State) : Reply :=
  withPlan plan (fun p x => if 31 < first then refuse s .badField else k p x) s

/-- R75: a part of the layout, refused when the plan holds none. -/
def layoutPart (body : Layout → List Byte) (x : Plan) (s : State) : Reply :=
  match layoutOf x with
  | some l => ⟨s, .ok, body l⟩
  | none => refuse s .badState

/-- READ_PLAN SUMMARY. -/
def execReadPlanSummary (plan first : Nat) (s : State) : Host.Outcome State Fault Refusal :=
  serve 3 (fun t => withPlanPart plan first (fun p x => okPlan p x t) t) s

/-- READ_PLAN PIECES. -/
def execReadPlanPieces (plan first : Nat) (s : State) : Host.Outcome State Fault Refusal :=
  serve 3 (fun t => withPlanPart plan first
    (fun _ x => ⟨t, .ok, partBody pieceIdBytes first Config.readPlanMax x.pieces⟩) t) s

/-- READ_PLAN STRIPS: the first index is ignored once it is in range. -/
def execReadPlanStrips (plan first : Nat) (s : State) : Host.Outcome State Fault Refusal :=
  serve 3 (fun t => withPlanPart plan first
    (fun _ x => layoutPart (fun l => countedList stripBytes l.strips) x t) t) s

/-- READ_PLAN PLACEMENTS. -/
def execReadPlanPlacements (plan first : Nat) (s : State) : Host.Outcome State Fault Refusal :=
  serve 3 (fun t => withPlanPart plan first
    (fun _ x => layoutPart (fun l => partBody placementBytes first Config.readPlacementsMax l.placements) x t) t) s

/-- READ_PLAN UNFIT. -/
def execReadPlanUnfit (plan first : Nat) (s : State) : Host.Outcome State Fault Refusal :=
  serve 3 (fun t => withPlanPart plan first
    (fun _ x => layoutPart (fun l => partBody unfitBytes first Config.readPlanMax l.unfit) x t) t) s

end Sys2Proof.Machine
end

