-- ==== Sys2Proof/Machine/Close.lean ====
section
/-! DEFINITION. The close of a slab (chapter 9), a part of the events that cause it. -/

namespace Sys2Proof.Machine

/-! ## The remnant (R157, R158) -/

/-- R157: what a close decides about the layout's candidate. -/
inductive RemnantChoice
  | nothing
  | discard
  | keep
  deriving DecidableEq, Repr

/-- R157: the decision, in its order; the table's count includes the parent. -/
def remnantChoice (broke : Bool) (c : Candidate) (gen count : Nat) : RemnantChoice :=
  if broke then .nothing
  else if c.kind = .none then .nothing
  else if gen = 3 then .discard
  else if count = Config.maxSlabs then .discard
  else .keep

/-- R157, R158: step 2 of a close. -/
def settleRemnant (p : Fin 16) (c : Candidate) (parent : Slab) (choice : RemnantChoice) (s : State) : State :=
  match choice with
  | .nothing => s
  | .discard => raiseNotice .remnantLost p s
  | .keep => createRemnant parent c.len c.wid s

/-- R157: the remnant area. -/
def remnantArea (c : Candidate) : RemnantChoice → Nat
  | .keep => c.area
  | _ => 0

/-- R165: the remnant outcome. -/
def remnantOutcome : RemnantChoice → RemnantOutcome
  | .keep => .kept
  | .discard => .lost
  | .nothing => .none

/-! ## The waste pool and its split (R159 to R161) -/

/-- R159, R160: the placement is CUT, SPOILED or VOID: its stone is charged to its job. -/
def charged (x : Placement) : Bool :=
  x.state == some .cut || x.state == some .spoiled || x.state == some .void

/-- R159: the waste pool. -/
def wastePool (usableArea : Nat) (l : List Placement) (remnant : Nat) : Nat :=
  usableArea - sumArea (l.filter charged) - remnant

/-- R160: a job's basis on the slab. -/
def basis (j : Fin 64) (l : List Placement) : Nat :=
  sumArea (l.filter fun x => charged x && x.piece.job == j)

/-- R160: the jobs with a basis above 0, in ascending order. -/
def sharingJobs (l : List Placement) : List (Fin 64) :=
  (List.finRange 64).filter fun j => decide (0 < basis j l)

/-- R160: the sum of the bases of all jobs. -/
def basisSum (l : List Placement) : Nat :=
  ((sharingJobs l).map fun j => basis j l).sum

/-- R160: a job's first share. -/
def firstShare (pool : Nat) (l : List Placement) (j : Fin 64) : Nat :=
  pool * basis j l / basisSum l

/-- R161: the leftover after the first shares. -/
def leftover (pool : Nat) (l : List Placement) : Nat :=
  pool - ((sharingJobs l).map (firstShare pool l)).sum

/-- R161: the jobs in the order the leftover is handed out: basis descending, then job ascending. -/
def leftoverOrder (l : List Placement) : List (Fin 64) :=
  sortBy (fun i j => decide (basis j l < basis i l) || (basis i l == basis j l && decide (i < j))) (sharingJobs l)

/-- R161: a job's share: its first share and the unit it receives, if any. -/
def wasteShare (pool : Nat) (l : List Placement) (j : Fin 64) : Nat :=
  firstShare pool l j + if ((leftoverOrder l).take (leftover pool l)).contains j then 1 else 0

/-- R160, R161: the shares, in ascending job order; with no basis the whole pool is job 0's. -/
def wasteShares (pool : Nat) (l : List Placement) : List (Fin 64 × Nat) :=
  if basisSum l = 0 then [(0, pool)]
  else (sharingJobs l).map fun j => (j, wasteShare pool l j)

/-- R162: the shares that make a charge: those above 0. -/
def chargedShares (pool : Nat) (l : List Placement) : List (Fin 64 × Nat) :=
  (wasteShares pool l).filter fun x => decide (0 < x.2)

/-- R162: the WASTE charges of a close: the shares, then each VOID placement in placement order. -/
def wasteCharges (rate pool : Nat) (l : List Placement) (s : State) : State :=
  let s1 := (chargedShares pool l).foldl (fun t x => charge x.1 .waste x.2 rate t) s
  (l.filter fun x => x.state == some .void).foldl (fun t x => charge x.piece.job .waste x.area rate t) s1

/-! ## The close (R155) -/

/-- R163: the counts fall, the slab record is retired, the plan becomes FREE. -/
def letGo (p : Fin 16) (serial : Nat) (l : List Placement) (s : State) : State :=
  ((uncountPlacements l s).onStock (dropSlab serial)).putPlan p none

/-- R155 to R165: the steps of a close of plan `x` in slot `p`, whose slab's record is `b`. -/
def closeSteps (p : Fin 16) (x : Plan) (l : Layout) (rate : Nat) (b : Slab) (broke : Bool) (s : State) : State :=
  let choice := remnantChoice broke l.candidate b.gen s.stock.slabs.length
  let pool := wastePool b.usableArea l.placements (remnantArea l.candidate choice)
  let s2 := settleRemnant p l.candidate b choice s
  let s5 := wasteCharges rate pool l.placements s2
  let s6 := letGo p x.serial l.placements s5
  let s7 := planLeavesStation x.station p s6
  raiseNotice .slabClosed p s7

/-- R165: the close report of the same close. -/
def closeReport (p : Fin 16) (x : Plan) (l : Layout) (b : Slab) (broke : Bool) (s : State) : CloseReport :=
  let choice := remnantChoice broke l.candidate b.gen s.stock.slabs.length
  let pool := wastePool b.usableArea l.placements (remnantArea l.candidate choice)
  { plan := p
    station := x.station
    parent := x.serial
    broke := broke
    outcome := remnantOutcome choice
    remnant := match choice with
      | .keep => some (createdRemnant b l.candidate.len l.candidate.wid s.stock)
      | _ => none
    area := remnantArea l.candidate choice
    pool := pool
    sharing := (chargedShares pool l.placements).length }

/-- A state with the close report of an event, if the event closed a slab. -/
structure Closed where
  state : State
  report : Option CloseReport

/-- R154, R155: close a CUTTING plan, normally or by break. -/
def closePlan (p : Fin 16) (broke : Bool) (s : State) : Closed :=
  match s.plan p with
  | some x =>
    match x.phase with
    | .cutting _ l rate =>
      match findSlab x.serial s.stock with
      | some b => ⟨closeSteps p x l rate b broke s, some (closeReport p x l b broke s)⟩
      | none => ⟨s, none⟩
    | _ => ⟨s, none⟩
  | none => ⟨s, none⟩

/-- R154: a placement keeps its plan from closing: QUEUED or ISSUED. -/
def unfinished (x : Placement) : Bool :=
  x.state == some .queued || x.state == some .issued

/-- R154: the close check. -/
def closeCheck (p : Fin 16) (s : State) : Closed :=
  if (s.placements p).any unfinished then ⟨s, none⟩ else closePlan p false s

end Sys2Proof.Machine
end

