-- ==== Sys2Proof/Machine/Stations.lean ====
section
/-! DEFINITION. The requests of the Station Units (chapter 5). -/

namespace Sys2Proof.Machine

/-- R79: the check of a station number. -/
def withStation (station : Nat) (k : Fin 6 → Reply) (s : State) : Reply :=
  if 5 < station then refuse s .badField else k (Fin.ofNat 6 station)

/-- R79, R185: the check of a station request that the LOADING mode refuses. -/
def whenRunning (k : Reply) (s : State) : Reply :=
  if s.link.mode = .loading then refuse s .notRunning else k

/-- An OK answer with the station summary (R79). -/
def okStation (st : Fin 6) (s : State) : Reply :=
  ⟨s, .ok, stationSummary st (s.station st)⟩

/-! ## Online, offline, blade (R80, R81, R83) -/

/-- R80: the station's current plan is CUTTING. -/
def currentCutting (st : Fin 6) (s : State) : Bool :=
  match (s.station st).current with
  | some p =>
    match s.plan p with
    | some x => isCutting x
    | none => false
  | none => false

/-- R80: the own checks and the effect of STATION_ONLINE. -/
def onlineReply (maxThick : Nat) (st : Fin 6) (s : State) : Reply :=
  if (s.station st).mode ≠ .offline then refuse s .badState
  else if !inRange 10 60 maxThick then refuse s .badField
  else okStation st (s.onStation st fun x =>
    { x with maxThick := maxThick, mode := if currentCutting st s then .loaded else .ready })

/-- STATION_ONLINE. -/
def execStationOnline (station maxThick : Nat) (s : State) : Host.Outcome State Fault Refusal :=
  serve 2 (fun t => withStation station (fun st => whenRunning (onlineReply maxThick st t) t) t) s

/-- R81: a station becomes OFFLINE: its grant is released and its pending request withdrawn. -/
def takeOffline (st : Fin 6) (s : State) : State :=
  dropWater st (s.onStation st fun x => { x with mode := .offline })

/-- R81: the own checks and the effect of STATION_OFFLINE. -/
def offlineReply (st : Fin 6) (s : State) : Reply :=
  if (s.station st).issued.isSome then refuse s .busy
  else if (s.station st).mode ≠ .ready then refuse s .badState
  else if (s.station st).current.isSome then refuse s .badState
  else okStation st (takeOffline st s)

/-- STATION_OFFLINE. -/
def execStationOffline (station : Nat) (s : State) : Host.Outcome State Fault Refusal :=
  serve 1 (fun t => withStation station (fun st => offlineReply st t) t) s

/-- R83: a kerf is above the kerf of a committed plan. -/
def widerThan (kerf : Nat) (p : Option (Fin 16)) (s : State) : Bool :=
  match p with
  | some q =>
    match s.plan q with
    | some x =>
      match kerfOf x with
      | some k => decide (k < kerf)
      | none => false
    | none => false
  | none => false

/-- R83: the own checks and the effect of SET_BLADE. -/
def bladeReply (kerf life : Nat) (st : Fin 6) (s : State) : Reply :=
  if !inRange 1 10 kerf || !inRange 1 16777215 life then refuse s .badField
  else if (s.station st).issued.isSome then refuse s .busy
  else if widerThan kerf (s.station st).current s || widerThan kerf (s.station st).next s then refuse s .kerfConflict
  else okStation st (s.onStation st fun x => { x with kerf := kerf, life := life, bladeMeter := 0 })

/-- SET_BLADE. -/
def execSetBlade (station kerf life : Nat) (s : State) : Host.Outcome State Fault Refusal :=
  serve 5 (fun t => withStation station (fun st => bladeReply kerf life st t) t) s

/-! ## Loading (R86, R87) -/

/-- R87, R58: a COMMITTED plan becomes CUTTING, with its kerf, layout and material rate. -/
def startCutting (x : Plan) : Plan :=
  match x.phase with
  | .committed k l r => { x with phase := .cutting k l r }
  | _ => x

/-- R87: the effects of a LOAD_SLAB that passes its checks. -/
def loadPlan (p : Fin 16) (b : Slab) (st : Fin 6) (s : State) : State :=
  ((s.onStock (placeOnBed b st)).modPlan p startCutting).onStation st fun x => { x with mode := .loaded }

/-- R86, steps 5 to 7, against the current plan's slab. -/
def loadChecks (p : Fin 16) (b : Slab) (st : Fin 6) (s : State) : Reply :=
  if (s.station st).maxThick < b.thickness then refuse s .tooThick
  else if 0 < position b s.stock then ⟨s, .blocked, be 1 (position b s.stock)⟩
  else okStation st (loadPlan p b st s)

/-- R86, steps 4 and 5. -/
def loadReply (serial : Nat) (st : Fin 6) (s : State) : Reply :=
  if (s.station st).mode ≠ .ready then refuse s .badState
  else
    match (s.station st).current with
    | none => refuse s .badState
    | some p =>
      if (s.plan p).map (fun x => x.serial) ≠ some serial then refuse s .wrongSlab
      else
        match findSlab serial s.stock with
        | none => refuse s .wrongSlab
        | some b => loadChecks p b st s

/-- LOAD_SLAB. -/
def execLoadSlab (station serial check : Nat) (s : State) : Host.Outcome State Fault Refusal :=
  serve 5 (fun t => if !tagValid serial check then refuse t .badTag
    else withStation station (fun st => whenRunning (loadReply serial st t) t) t) s

/-! ## Choosing and issuing a cut (R88 to R91) -/

/-- The state of the placement an entry names. -/
def entryState (e : CutEntry) (s : State) : Option PlaceState :=
  match (s.placements e.plan)[e.index]? with
  | some x => x.state
  | none => none

/-- R89: an entry of the current plan whose placement is QUEUED. -/
def waiting (st : Fin 6) (s : State) (e : CutEntry) : Bool :=
  (s.station st).current == some e.plan && entryState e s == some .queued

/-- R89: the entry the station chooses: the first waiting one whose job is not held for dispatch. -/
def chooseEntry (st : Fin 6) (s : State) : Option CutEntry :=
  (s.station st).queue.find? fun e => waiting st s e && !s.heldJob e.piece.job

/-- R89: the number of QUEUED entries of the current plan. -/
def waitingCount (st : Fin 6) (s : State) : Nat :=
  (s.station st).queue.countP (waiting st s)

/-- R24: a piece ISSUED. -/
def issuePiece (x : Piece) : Piece :=
  { x with state := .issued }

/-- R90: issue an entry: charge the meters to job 0, mark the entry, placement and piece, stop the hold timer. -/
def issueCut (st : Fin 6) (e : CutEntry) (s : State) : State :=
  let s1 := chargeMeters st 0 s
  let s2 := setPlacement e.plan e.index .issued s1
  let s3 := s2.onJobs (modPieces [e.piece] issuePiece)
  s3.onStation st fun x => { stopHold x with issued := some e }

/-- R90: the level of an entry's job. -/
def entryLevel (e : CutEntry) (s : State) : Nat :=
  match s.job e.piece.job with
  | some b => b.level
  | none => 0

/-- R90: the water step at the chosen entry's level, and its outcome. -/
def askForCut (st : Fin 6) (e : CutEntry) (s : State) : Reply :=
  let t := waterStep st (entryLevel e s) s
  if t.permit st then ⟨issueCut st e t, .ok, descriptor st e t⟩
  else ⟨t, .waitWater, be 1 e.plan ++ be 1 e.index ++ be 1 (entryLevel e s)⟩

/-- R89: no entry can be chosen: the pending request is withdrawn and the answer is HELD_ONLY. -/
def answerHeldOnly (st : Fin 6) (s : State) : Reply :=
  ⟨withdrawRequest st s, .heldOnly, be 1 (waitingCount st s)⟩

/-- R88: NEXT_CUT after the checks of R79. -/
def nextCutReply (st : Fin 6) (s : State) : Reply :=
  if (s.station st).mode ≠ .loaded then refuse s .badState
  else
    match (s.station st).issued with
    | some e => ⟨s, .ok, descriptor st e s⟩
    | none =>
      if worn (s.station st) then refuse s .bladeWorn
      else
        match chooseEntry st s with
        | some e => askForCut st e s
        | none => answerHeldOnly st s

/-- NEXT_CUT. -/
def execNextCut (station : Nat) (s : State) : Host.Outcome State Fault Refusal :=
  serve 1 (fun t => withStation station (fun st => whenRunning (nextCutReply st t) t) t) s

/-! ## The end of a cut (R92, R93) -/

/-- R92, R166: the issued entry a report names, if it names it. -/
def reportedEntry (st : Fin 6) (plan index : Nat) (s : State) : Option CutEntry :=
  match (s.station st).issued with
  | some e => if e.plan.val = plan ∧ e.index = index then some e else none
  | none => none

/-- R93 step 2, R167 step 1: the entry leaves the queue and is no longer issued; the hold timer starts if the hold condition now
holds. -/
def endEntry (st : Fin 6) (e : CutEntry) (s : State) : State :=
  startHoldIf st (s.onStation st fun x => { x with queue := x.queue.erase e, issued := none })

/-- The placement an entry names. -/
def entryPlacement (e : CutEntry) (s : State) : Option Placement :=
  (s.placements e.plan)[e.index]?

/-- R55: the area of the placement an entry names. -/
def entryArea (e : CutEntry) (s : State) : Nat :=
  match entryPlacement e s with
  | some x => x.area
  | none => 0

/-- R136: the captured material rate of the plan an entry names. -/
def entryRate (e : CutEntry) (s : State) : Nat :=
  match s.plan e.plan with
  | some x => (rateOf x).getD 0
  | none => 0

/-- R24: a piece CUT; its plan number becomes absent. -/
def cutPiece (x : Piece) : Piece :=
  { x with state := .cut, plan := none }

/-- R93, steps 1 to 3: the cut is good. -/
def finishCut (st : Fin 6) (e : CutEntry) (s : State) : State :=
  let s1 := (setPlacement e.plan e.index .cut s).onJobs (modPieces [e.piece] cutPiece)
  let s2 := endEntry st e s1
  let s3 := charge e.piece.job .material (entryArea e s) (entryRate e s) s2
  chargeMeters st e.piece.job s3

/-- R93 steps 4 and 5, R167 steps 5 and 6: the close check, and the release of a grant still marked. -/
def afterCut (st : Fin 6) (p : Fin 16) (s : State) : Closed :=
  let c := closeCheck p s
  ⟨releaseIfMarked st c.state, c.report⟩

/-- R93: the effects of a CUT_DONE that passes its checks. -/
def cutDoneReply (st : Fin 6) (e : CutEntry) (s : State) : Reply :=
  let c := afterCut st e.plan (finishCut st e s)
  ⟨c.state, .ok, stationSummary st (c.state.station st) ++ indication c.report⟩

/-- CUT_DONE. -/
def execCutDone (station plan index : Nat) (s : State) : Host.Outcome State Fault Refusal :=
  serve 3 (fun t => withStation station (fun st =>
    match reportedEntry st plan index t with
    | some e => cutDoneReply st e t
    | none => refuse t .badState) t) s

end Sys2Proof.Machine
end

