-- ==== Sys2Proof/Machine/Spoils.lean ====
section
/-! DEFINITION. Spoiled cuts, breaks and cancellations (chapter 10). -/

namespace Sys2Proof.Machine

/-! ## Spoiled cuts (R167, R168) -/

/-- R168: a spoiled piece: the count one higher; HELD at 3, else UNPLANNED; the plan number absent. -/
def spoiledPiece (x : Piece) : Piece :=
  { x with spoil := x.spoil + 1, plan := none, state := if x.spoil + 1 < 3 then .unplanned else .held }

/-- R168: the notice of a spoil, by the piece's count before it. -/
def spoilNotice (spoil : Nat) : NoticeKind :=
  if spoil + 1 < 3 then .recut else .pieceHeld

/-- R167 step 4, R168: raise a piece's spoil count, with its outcome and its notice. -/
def spoilPiece (id : PieceId) (s : State) : State :=
  match findPiece id s.jobs with
  | some x => raiseNotice (spoilNotice x.spoil) id.job (s.onJobs (modPieces [id] spoiledPiece))
  | none => s

/-- R167, steps 1 to 4: spoil an issued cut. -/
def spoilCut (st : Fin 6) (e : CutEntry) (s : State) : State :=
  let s1 := endEntry st e (setPlacement e.plan e.index .spoiled s)
  let s2 := chargeMeters st e.piece.job s1
  let s3 := charge e.piece.job .spoil (entryArea e s) (entryRate e s) s2
  spoilPiece e.piece s3

/-- R167: the piece's new state and spoil count. -/
def pieceOutcome (id : PieceId) (s : State) : List Byte :=
  match findPiece id s.jobs with
  | some x => be 1 (pieceStateCode x.state) ++ be 1 x.spoil
  | none => be 1 0 ++ be 1 0

/-- R167: the effects of a CUT_SPOILED that passes its checks. -/
def cutSpoiledReply (st : Fin 6) (e : CutEntry) (s : State) : Reply :=
  let c := afterCut st e.plan (spoilCut st e s)
  ⟨c.state, .ok, stationSummary st (c.state.station st) ++ pieceOutcome e.piece c.state ++ indication c.report⟩

/-- CUT_SPOILED. -/
def execCutSpoiled (station plan index : Nat) (s : State) : Host.Outcome State Fault Refusal :=
  serve 3 (fun t => withStation station (fun st =>
    match reportedEntry st plan index t with
    | some e => cutSpoiledReply st e t
    | none => refuse t .badState) t) s

/-! ## Slab breakage (R169, R170) -/

/-- R170, step 2: a QUEUED placement becomes RETURNED. -/
def returnPlacement (x : Placement) : Placement :=
  if x.state = some .queued then withState .returned x else x

/-- R170, step 2: the jobs of the QUEUED placements, in the order in which they first appear. -/
def returnedJobs (l : List Placement) : List (Fin 64) :=
  (queuedPieces l).foldl (fun js i => if js.contains i.job then js else js ++ [i.job]) []

/-- R170, step 2: the QUEUED placements of a plan return to planning. -/
def returnQueued (st : Fin 6) (p : Fin 16) (s : State) : State :=
  let l := s.placements p
  let s1 := s.modPlan p (onPlacements fun m => m.map returnPlacement)
  let s2 := s1.onStation st (dropEntries p)
  let s3 := unplanPieces (queuedPieces l) s2
  (returnedJobs l).foldl (fun t j => raiseNotice .recut j t) s3

/-- R170, step 1: spoil the issued cut, if there is one. -/
def spoilIssued (st : Fin 6) (s : State) : State :=
  match (s.station st).issued with
  | some e => spoilCut st e s
  | none => s

/-- R170: the effects of a BREAK_SLAB on a station whose current plan is `p`. -/
def breakPlan (st : Fin 6) (p : Fin 16) (s : State) : Closed :=
  closePlan p true (returnQueued st p (spoilIssued st s))

/-- R169: the own check and the effect of BREAK_SLAB. -/
def breakReply (st : Fin 6) (s : State) : Reply :=
  if (s.station st).mode ≠ .loaded then refuse s .badState
  else
    match (s.station st).current with
    | some p =>
      let c := breakPlan st p s
      ⟨c.state, .ok, stationSummary st (c.state.station st) ++ ((c.report.map reportBytes).getD [])⟩
    | none => refuse s .badState

/-- BREAK_SLAB. -/
def execBreakSlab (station : Nat) (s : State) : Host.Outcome State Fault Refusal :=
  serve 1 (fun t => withStation station (fun st => breakReply st t) t) s

/-! ## Cancelling a job (R171 to R175) -/

/-- R172: the piece is deleted by a cancellation: neither ISSUED nor CUT. -/
def cancelDeletes (x : Piece) : Bool :=
  x.state != .issued && x.state != .cut

/-- R172: the placement is voided by the cancellation of a job: QUEUED, and the job's. -/
def voids (j : Fin 64) (x : Placement) : Bool :=
  x.state == some .queued && x.piece.job == j

/-- R172: a placement after the cancellation of a job. -/
def voidPlacement (j : Fin 64) (x : Placement) : Placement :=
  if voids j x then withState .void x else x

/-- The plan is in DRAFT, LAYING or LAID, so that its pieces are DRAFTED. -/
def beforeCommit (x : Plan) : Bool :=
  !isCommittedOrCutting x

/-- R172, R173: a plan after the cancellation of a job: the job's DRAFTED pieces leave a plan not yet committed, and a LAID one that
loses a piece becomes DRAFT; the job's QUEUED placements of a committed plan become VOID. -/
def cancelInPlan (j : Fin 64) (x : Plan) : Plan :=
  if beforeCommit x then
    if x.pieces.any (fun i => i.job == j) then redraft (x.pieces.filter fun i => i.job != j) x else x
  else onPlacements (fun l => l.map (voidPlacement j)) x

/-- R172: a station after the cancellation of a job: the job's entries leave the queue, except an issued one. -/
def cancelInQueue (j : Fin 64) (x : Station) : Station :=
  { x with queue := x.queue.filter fun e => e.piece.job != j || x.issued == some e }

/-- All plan numbers in ascending order. -/
def allPlans : List (Fin 16) :=
  List.finRange 16

/-- R172, R173: the cancellation of a job in the piece table, the plans and the station queues. -/
def cancelPieces (j : Fin 64) (s : State) : State :=
  let s1 := s.onJobs (deletePieces fun x => x.id.job == j && cancelDeletes x)
  let s2 := allPlans.foldl (fun t p => t.modPlan p (cancelInPlan j)) s1
  allStations.foldl (fun t st => t.onStation st (cancelInQueue j)) s2

/-- R174: the plans in which the cancellation of a job voids a placement, in ascending order. -/
def voidedPlans (j : Fin 64) (s : State) : List (Fin 16) :=
  allPlans.filter fun p => (s.placements p).any (voids j)

/-- R174: every placement of the plan is VOID. -/
def allVoid (l : List Placement) : Bool :=
  l.all fun x => x.state == some .void

/-- R174, R175: the outcome of the plans taken so far. -/
structure CancelTally where
  state : State
  unwound : Nat
  closed : Nat
  report : Option CloseReport

/-- R174: one plan in which a placement was voided. -/
def cancelPlan (c : CancelTally) (p : Fin 16) : CancelTally :=
  match c.state.plan p with
  | some x =>
    match x.phase with
    | .committed _ l _ =>
      if allVoid l.placements then { c with state := unwindCommitted p c.state, unwound := c.unwound + 1 } else c
    | .cutting _ _ _ =>
      let d := closeCheck p c.state
      { c with
        state := d.state
        closed := if d.report.isSome then c.closed + 1 else c.closed
        report := if c.report.isSome then c.report else d.report }
    | _ => c
  | none => c

/-- R171 to R174: the effects of a CANCEL_JOB that passes its checks. -/
def cancelEffects (j : Fin 64) (s : State) : CancelTally :=
  (voidedPlans j s).foldl cancelPlan
    ⟨cancelPieces j (s.modJob j fun b => { b with state := .cancelling }), 0, 0, none⟩

/-- R175: the number of a job's pieces a cancellation deletes. -/
def deletedCount (j : Fin 64) (s : State) : Nat :=
  (jobPieces j s.jobs).countP cancelDeletes

/-- R175: the number of placements a cancellation voids. -/
def voidedCount (j : Fin 64) (s : State) : Nat :=
  (allPlans.map fun p => (s.placements p).countP (voids j)).sum

/-- R173, R175: the plan is LAID and holds a piece of the job. -/
def losesLayout (j : Fin 64) (x : Option Plan) : Bool :=
  match x with
  | some y =>
    match y.phase with
    | .laid _ _ => y.pieces.any fun i => i.job == j
    | _ => false
  | none => false

/-- R175: the number of plans a cancellation returns from LAID to DRAFT. -/
def redraftedCount (j : Fin 64) (s : State) : Nat :=
  allPlans.countP fun p => losesLayout j (s.plan p)

/-- R175: the body of a CANCEL_JOB answer, from the state before and the outcome. -/
def cancelBody (j : Fin 64) (s : State) (c : CancelTally) : List Byte :=
  be 1 j ++ be 1 (jobStateCode .cancelling) ++ be 2 (((c.state.job j).map fun b => b.openCount).getD 0) ++
    be 1 (deletedCount j s) ++ flagByte ((jobPieces j s.jobs).any fun x => x.state == .issued) ++ be 1 (voidedCount j s) ++
    be 1 (redraftedCount j s) ++ be 1 c.unwound ++ be 1 c.closed ++ indication c.report

/-- R171: the own check and the effect of CANCEL_JOB. -/
def cancelReply (j : Fin 64) (b : Job) (s : State) : Reply :=
  if j = 0 ∨ b.state = .cancelling then refuse s .badState
  else ⟨(cancelEffects j s).state, .ok, cancelBody j s (cancelEffects j s)⟩

/-- CANCEL_JOB. -/
def execCancelJob (job : Nat) (s : State) : Host.Outcome State Fault Refusal :=
  serve 1 (fun t => withJob job (fun j b => cancelReply j b t) t) s

end Sys2Proof.Machine
end

