-- ==== Sys2Proof/Machine/Water.lean ====
section
/-! DEFINITION. The requests of the Grant Arbiter (R112 to R114). -/

namespace Sys2Proof.Machine

/-- R112: the own effect of SET_WATER in the STATION form; the hold setting travels in one byte, so it needs no clamp. -/
def setWaterReply (flow hold : Nat) (st : Fin 6) (s : State) : Reply :=
  let t := s.onStation st fun x => { x with flow := clampFlow flow, holdSetting := hold }
  ⟨t, .ok, waterStationBody st t⟩

/-- SET_WATER, STATION form. -/
def execSetWaterStation (station flow hold : Nat) (s : State) : Host.Outcome State Fault Refusal :=
  serve 5 (fun t => withStation station (fun st => setWaterReply flow hold st t) t) s

/-- R113: the nine values stored together, clamped. -/
def storeArbiter (capacity f0 f1 f2 f3 f4 f5 f6 f7 : Nat) (a : Arbiter) : Arbiter :=
  { a with
    capacity := clampCapacity capacity
    table := #v[clampLevel f0, clampLevel f1, clampLevel f2, clampLevel f3, clampLevel f4, clampLevel f5, clampLevel f6,
      clampLevel f7] }

/-- R113: the effect of SET_WATER in the ARBITER form. -/
def setArbiterReply (capacity f0 f1 f2 f3 f4 f5 f6 f7 : Nat) (s : State) : Reply :=
  let t := arbitrate (reformFloor (s.onArbiter (storeArbiter capacity f0 f1 f2 f3 f4 f5 f6 f7)))
  ⟨t, .ok, waterArbiterBody t⟩

/-- SET_WATER, ARBITER form. -/
def execSetWaterArbiter (capacity f0 f1 f2 f3 f4 f5 f6 f7 : Nat) (s : State) : Host.Outcome State Fault Refusal :=
  serve 10 (setArbiterReply capacity f0 f1 f2 f3 f4 f5 f6 f7) s

/-- READ_WATER, STATION form. -/
def execReadWaterStation (station : Nat) (s : State) : Host.Outcome State Fault Refusal :=
  serve 2 (fun t => withStation station (fun st => ⟨t, .ok, waterStationBody st t⟩) t) s

/-- READ_WATER, ARBITER form. -/
def execReadWaterArbiter (s : State) : Host.Outcome State Fault Refusal :=
  serve 1 (fun t => ⟨t, .ok, waterArbiterBody t⟩) s

end Sys2Proof.Machine
end

