-- ==== Sys2Proof/Machine/Plant.lean ====
section
/-! DEFINITION. The Plant Controller's cycle, its tests and its requests (chapter 7). -/

namespace Sys2Proof.Machine

/-! ## The cycle (R119 to R126) -/

/-- R119: enter a cycle state, raising PLANT_PHASE. -/
def enterCycle (c : CycleState) (s : State) : State :=
  raiseNotice .plantPhase 0 (s.onPlant fun p => { p with cycle := c })

/-- R119: move to a cycle state; a plant already in it makes no change of state and raises nothing. -/
def moveCycle (c : CycleState) (s : State) : State :=
  if s.plant.cycle = c then s else enterCycle c s

/-- R120: set the cycle counter. -/
def setCounter (n : Nat) (s : State) : State :=
  s.onPlant fun p => { p with counter := n }

/-- R126: SLUDGE begins, its counter at the active sludge_time. -/
def enterSludge (s : State) : State :=
  enterCycle .sludge (setCounter s.plant.active.sludgeTime s)

/-- R125: the end test passes. -/
def endTestPasses (p : Plant) : Bool :=
  p.turbidity.accepted || decide (p.settling.accepted.val ≤ p.active.decantFloor)

/-- R125: the end test. -/
def decantEndTest (s : State) : State :=
  if endTestPasses s.plant then enterSludge s else s

/-- R125: the clean test: DECANT at a clean band of 6 or lower, DECANT_WAIT at 7. -/
def cleanTest (s : State) : State :=
  moveCycle (if s.plant.clean.accepted.val ≤ 6 then .decant else .decantWait) s

/-- R125: the tests at the entry to the decant stage and at its resumption: the end test, then the clean test. -/
def decantTests (s : State) : State :=
  if endTestPasses s.plant then enterSludge s else cleanTest s

/-- R125: the decant stage begins, its counter at 0. -/
def enterDecant (s : State) : State :=
  decantTests (enterCycle .decant (setCounter 0 s))

/-- R124: the settle test. -/
def settleTest (s : State) : State :=
  if s.plant.active.settleEnd ≤ s.plant.counter then enterDecant s
  else if s.plant.counter < s.plant.active.doseEnd then moveCycle .dose s
  else moveCycle .settle s

/-- R127: copy the eight buffered values into the active values. -/
def loadSettings (s : State) : State :=
  s.onPlant fun p => { p with active := p.buffered }

/-- R124: the dose-settle stage begins: the counter at 0, the load, the settle test. -/
def enterDoseSettle (s : State) : State :=
  settleTest (loadSettings (setCounter 0 s))

/-- R122: the fill test. -/
def fillTest (s : State) : State :=
  if s.plant.active.fillTarget ≤ s.plant.settling.accepted.val then enterDoseSettle s else s

/-- R122: FILL begins, its counter at 0, and makes the fill test. -/
def enterFill (s : State) : State :=
  fillTest (enterCycle .fill (setCounter 0 s))

/-- R121: the start test of a plant in IDLE and started. -/
def startTest (s : State) : State :=
  if s.plant.active.fillStart ≤ s.plant.sump.accepted.val then enterFill s else s

/-- R123: the fill fault: PLANT_FAULT, then STOPPED, with IDLE and 0 remembered. -/
def fillFault (s : State) : State :=
  enterCycle .stopped
    ((raiseNotice .plantFault 0 s).onPlant fun p => { p with remembered := some ⟨.idle, 0⟩ })

/-- R123: the fill timeout, tested in FILL. -/
def timeoutTest (s : State) : State :=
  if s.plant.cycle = .fill ∧ s.plant.active.fillTimeout ≤ s.plant.counter then
    if s.plant.active.fillMin ≤ s.plant.settling.accepted.val then enterDoseSettle s else fillFault s
  else s

/-- R126: the end of a batch: it is counted, and the plant enters IDLE as its mode decides. -/
def endBatch (s : State) : State :=
  let t := enterCycle .idle (s.onPlant fun p => { p with batches := min Config.plantMax (p.batches + 1), counter := 0 })
  match s.plant.mode with
  | .repeating => if t.plant.started then startTest t else t
  | .oneShot => t.onPlant fun p => { p with started := false }

/-- The plant is in DOSE or SETTLE. -/
def inDoseSettle (p : Plant) : Bool :=
  p.cycle == .dose || p.cycle == .settle

/-- The plant is in DECANT or DECANT_WAIT. -/
def inDecant (p : Plant) : Bool :=
  p.cycle == .decant || p.cycle == .decantWait

/-! ## Starting, stopping, resetting (R129 to R132) -/

/-- R130: hold the cycle in STOPPED, remembering its state and counter. -/
def stopPlant (s : State) : State :=
  if s.plant.cycle = .stopped then s
  else enterCycle .stopped (s.onPlant fun p => { p with remembered := some ⟨p.cycle, p.counter⟩ })

/-- R121, R129: set the started flag and make the start test. -/
def startIdle (s : State) : State :=
  startTest (s.onPlant fun p => { p with started := true })

/-- R131: the tests made at the resumption of a phase. -/
def resumeTests (c : CycleState) (s : State) : State :=
  match c with
  | .idle => startIdle s
  | .fill => timeoutTest (fillTest s)
  | .dose => settleTest s
  | .settle => settleTest s
  | .decant => decantTests s
  | .decantWait => decantTests s
  | .sludge => s
  | .stopped => s

/-- R131: resume the remembered phase with the remembered counter. -/
def resumePlant (r : Remembered) (s : State) : State :=
  resumeTests r.phase
    (enterCycle r.phase (s.onPlant fun p => { p with remembered := none, counter := r.counter }))

/-- R132: end the cycle and return the plant to rest. -/
def resetCycle (s : State) : State :=
  loadSettings ((moveCycle .idle s).onPlant fun p => { p with started := false, remembered := none, counter := 0 })

/-- R129, step 3: the plant acts according to its cycle state. -/
def startPlant (s : State) : State :=
  match s.plant.cycle with
  | .idle => startIdle s
  | .stopped =>
    match s.plant.remembered with
    | some r => resumePlant r s
    | none => s
  | _ => s

/-- An OK answer with the plant report (R133). -/
def okPlant (s : State) : Reply :=
  ⟨s, .ok, plantReport s.plant⟩

/-- R129: the effects of a PLANT_START that passes its checks. -/
def plantStartEffects (m : PlantMode) (reset : Bool) (s : State) : State :=
  let t := if reset then resetCycle s else s
  startPlant (t.onPlant fun p => { p with mode := m })

/-- R129: the checks and the effect of PLANT_START. -/
def plantStartReply (mode reset : Nat) (s : State) : Reply :=
  whenRunning
    (match plantModeOf mode, flagOf reset with
      | some m, some r => okPlant (plantStartEffects m r s)
      | _, _ => refuse s .badField) s

/-- PLANT_START. -/
def execPlantStart (mode reset : Nat) (s : State) : Host.Outcome State Fault Refusal :=
  serve 2 (plantStartReply mode reset) s

/-- PLANT_STOP, R130. -/
def execPlantStop (s : State) : Host.Outcome State Fault Refusal :=
  serve 0 (fun t => okPlant (stopPlant t)) s

/-- PLANT_RESET_CYCLE, R132. -/
def execPlantResetCycle (s : State) : Host.Outcome State Fault Refusal :=
  serve 0 (fun t => okPlant (resetCycle t)) s

/-- READ_PLANT, R133. -/
def execReadPlant (s : State) : Host.Outcome State Fault Refusal :=
  serve 0 okPlant s

/-! ## Settings (R128) -/

/-- R128: the effect and the answer of a write of BUFFER_MODE. -/
def bufferModeReply (value : Nat) (s : State) : Reply :=
  match flagOf value with
  | some f =>
    let t := s.onPlant fun p => { p with bufferMode := f }
    ⟨t, .ok, flagByte f ++ be 1 (cycleCode t.plant.cycle)⟩
  | none => refuse s .badField

/-- PLANT_SET naming BUFFER_MODE. -/
def execPlantSetBufferMode (value : Nat) (s : State) : Host.Outcome State Fault Refusal :=
  serve 3 (bufferModeReply value) s

/-- R128: store a clamped setting in the buffered copy. -/
def writeBuffered (n : SettingName) (v : Nat) (p : Plant) : Plant :=
  { p with buffered := putSetting p.buffered n (clampSetting n v) }

/-- R128: store a clamped setting in the active value and the buffered copy. -/
def writeDirect (n : SettingName) (v : Nat) (p : Plant) : Plant :=
  { p with
    active := putSetting p.active n (clampSetting n v)
    buffered := putSetting p.buffered n (clampSetting n v) }

/-- R128: the tests made at once after a direct write of a setting. -/
def directTests (n : SettingName) (s : State) : State :=
  match n with
  | .fillStart => if s.plant.cycle = .idle ∧ s.plant.started = true then startTest s else s
  | .fillTarget => if s.plant.cycle = .fill then fillTest s else s
  | .fillTimeout => timeoutTest s
  | .doseEnd => if inDoseSettle s.plant then settleTest s else s
  | .settleEnd => if inDoseSettle s.plant then settleTest s else s
  | .decantFloor => if inDecant s.plant then decantEndTest s else s
  | .fillMin => s
  | .sludgeTime => s

/-- R128: write a setting, buffered only or directly. -/
def writeSetting (n : SettingName) (v : Nat) (s : State) : State :=
  if s.plant.bufferMode then s.onPlant (writeBuffered n v) else directTests n (s.onPlant (writeDirect n v))

/-- R128: the answer to a write of a setting: its name, the clamped value's stored pair, the flag, the cycle state. -/
def settingBody (name : Nat) (n : SettingName) (p : Plant) : List Byte :=
  be 1 name ++ be 2 (getSetting p.active n) ++ be 2 (getSetting p.buffered n) ++ flagByte p.bufferMode ++
    be 1 (cycleCode p.cycle)

/-- R128: the check and the effect of PLANT_SET; the ordinal 8 names BUFFER_MODE. -/
def plantSetReply (name value : Nat) (s : State) : Reply :=
  match settingOf name with
  | some n => ⟨writeSetting n value s, .ok, settingBody name n (writeSetting n value s).plant⟩
  | none => if name = 8 then bufferModeReply value s else refuse s .badField

/-- PLANT_SET naming a setting. -/
def execPlantSet (name value : Nat) (s : State) : Host.Outcome State Fault Refusal :=
  serve 3 (plantSetReply name value) s

/-! ## The plant's ticks (R120, R123, R124, R126) -/

/-- R120: the cycle counter at a plant tick. -/
def tickCounter (p : Plant) : Plant :=
  match p.cycle with
  | .idle => p
  | .stopped => p
  | .sludge => { p with counter := p.counter - 1 }
  | _ => { p with counter := min Config.plantMax (p.counter + 1) }

/-- R126: the batch of a plant in SLUDGE whose countdown has reached 0 ends. -/
def sludgeEnd (s : State) : State :=
  if s.plant.cycle = .sludge ∧ s.plant.counter = 0 then endBatch s else s

/-- R120: the tests of the current state that read the counter, made at once after each tick: the fill timeout (R123), the settle
test (R124), the end of the sludge countdown (R126). -/
def counterTests (s : State) : State :=
  match s.plant.cycle with
  | .fill => timeoutTest s
  | .dose => settleTest s
  | .settle => settleTest s
  | .sludge => sludgeEnd s
  | _ => s

/-- R120: a plant tick: the counter, and the tests that follow at once. -/
def plantTick (s : State) : State :=
  counterTests (s.onPlant tickCounter)

/-- PLANT_TICK, R120. -/
def execPlantTick (s : State) : Host.Outcome State Fault Refusal :=
  .next (plantTick s)

/-! The table has a row of its own for each end of a count.  The tick has already made the test, so that the event finds nothing
left to do; where the counter stands at the end all the same, the event acts as its rule says (DEDUCED, assumption 2). -/

/-- FILL_TIMEOUT, R123: nothing comes about while the counter has not reached fill_timeout in FILL. -/
def execFillTimeout (s : State) : Host.Outcome State Fault Refusal :=
  .next (timeoutTest s)

/-- DOSE_END, R124: the settle test of a plant in DOSE whose counter has reached dose_end. -/
def doseEnd (s : State) : State :=
  if s.plant.cycle = .dose ∧ s.plant.active.doseEnd ≤ s.plant.counter then settleTest s else s

/-- DOSE_END. -/
def execDoseEnd (s : State) : Host.Outcome State Fault Refusal :=
  .next (doseEnd s)

/-- SETTLE_END, R124: the settle test of a plant in the dose-settle stage whose counter has reached settle_end. -/
def settleEnd (s : State) : State :=
  if inDoseSettle s.plant = true ∧ s.plant.active.settleEnd ≤ s.plant.counter then settleTest s else s

/-- SETTLE_END. -/
def execSettleEnd (s : State) : Host.Outcome State Fault Refusal :=
  .next (settleEnd s)

/-- SLUDGE_END, R126. -/
def execSludgeEnd (s : State) : Host.Outcome State Fault Refusal :=
  .next (sludgeEnd s)

end Sys2Proof.Machine
end

