-- ==== Sys2Proof/Machine/Cost.lean ====
section
/-! DEFINITION. The requests of the Cost Unit (chapter 8). -/

namespace Sys2Proof.Machine

/-- R137: write the material rate of a code. -/
def putMaterialRate (c : Fin 32) (rate : Nat) (r : Rates) : Rates :=
  { r with material := r.material.set c rate }

/-- R137: the check and the effect of SET_MATERIAL_RATE. -/
def materialRateReply (code rate : Nat) (s : State) : Reply :=
  if 31 < code then refuse s .badField
  else ⟨s.onRates (putMaterialRate (Fin.ofNat 32 code) (clampRate rate)), .ok, be 1 code ++ be 4 (clampRate rate)⟩

/-- SET_MATERIAL_RATE. -/
def execSetMaterialRate (code rate : Nat) (s : State) : Host.Outcome State Fault Refusal :=
  serve 5 (materialRateReply code rate) s

/-- SET_WATER_RATE, R138. -/
def execSetWaterRate (rate : Nat) (s : State) : Host.Outcome State Fault Refusal :=
  serve 4 (fun t => ⟨t.onRates fun r => { r with water := clampRate rate }, .ok, be 4 (clampRate rate)⟩) s

/-- R138: the own effect of SET_MACHINE_RATE; the answer gives the stored rate, then the station number, as the rule names them
(R189). -/
def machineRateReply (rate : Nat) (st : Fin 6) (s : State) : Reply :=
  ⟨s.onStation st fun x => { x with machineRate := clampRate rate }, .ok, be 4 (clampRate rate) ++ be 1 st⟩

/-- SET_MACHINE_RATE. -/
def execSetMachineRate (station rate : Nat) (s : State) : Host.Outcome State Fault Refusal :=
  serve 5 (fun t => withStation station (fun st => machineRateReply rate st t) t) s

/-- READ_COST, R148. -/
def execReadCost (job : Nat) (s : State) : Host.Outcome State Fault Refusal :=
  serve 1 (fun t => withJob job (fun j b => ⟨t, .ok, costReport j b⟩) t) s

/-- R149: a job with its accumulators 0 and its clipped flags clear. -/
def clearCost (b : Job) : Job :=
  { b with cost := CostRecord.zero }

/-- R149: the report of job 0 before clearing, and the clear. -/
def clearOverheadReply (s : State) : Reply :=
  match s.job 0 with
  | some b => ⟨s.putJob 0 (some (clearCost b)), .ok, costReport 0 b⟩
  | none => refuse s .notFound

/-- CLEAR_OVERHEAD. -/
def execClearOverhead (s : State) : Host.Outcome State Fault Refusal :=
  serve 0 clearOverheadReply s

end Sys2Proof.Machine
end

