-- ==== Sys2Proof/Machine/Ticks.lean ====
section
/-! DEFINITION. The sample tick and the decisecond tick of the Timebase (R94 to R96, R109, R110, R117, R118, R125), and the three
station events they lead to: DRY_RUN, BLADE_LIFE and HOLD_TIMER_EXPIRY.

The table makes each of these three a step of its own, so a tick advances the timer or the meter and marks the event as due, and the
event's own command takes it (DEDUCED, assumption 2). -/

namespace Sys2Proof.Machine

/-! ## The sample tick (R94) -/

/-- R94: the third differing sample in a row changes the accepted level. -/
def flipsSpindle (level : Bool) (x : Station) : Bool :=
  level != x.spindle && decide (2 ≤ x.spindleRun)

/-- R94: the spindle filter takes a sample. -/
def sampleSpindle (level : Bool) (x : Station) : Station :=
  if level = x.spindle then { x with spindleRun := 0 }
  else if 2 ≤ x.spindleRun then { x with spindle := level, spindleRun := 0 }
  else { x with spindleRun := x.spindleRun + 1 }

/-- R109: a spindle start ends the hold condition. -/
def spindleStarted (st : Fin 6) (s : State) : State :=
  s.onStation st stopHold

/-- R96, R109: a spindle stop returns the dry timer to 0, and the hold timer starts if the hold condition now holds. -/
def spindleStopped (st : Fin 6) (s : State) : State :=
  startHoldIf st (s.onStation st fun x => { x with dryTimer := 0 })

/-- R94: one station's sample, with the spindle start or stop it brings. -/
def sampleStation (spin : BitVec 6) (s : State) (st : Fin 6) : State :=
  let t := s.onStation st (sampleSpindle spin[st])
  if flipsSpindle spin[st] (s.station st) then
    if spin[st] then spindleStarted st t else spindleStopped st t
  else t

/-- R94: the samples of the six stations. -/
def sampleAll (spin : BitVec 6) (s : State) : State :=
  allStations.foldl (sampleStation spin) (s.onPins fun p => { p with spin := spin })

/-- SAMPLE_TICK. -/
def execSampleTick (spin : BitVec 6) (s : State) : Host.Outcome State Fault Refusal :=
  .next (sampleAll spin s)

/-! ## The decisecond tick: the meters and the timers -/

/-- R77, R95: a 32-bit meter rises by 1 and stops at its largest value. -/
def meterUp (n : Nat) : Nat :=
  min Config.meterMax (n + 1)

/-- R84: this count brings the blade run meter to the blade life. -/
def reachesLife (x : Station) : Bool :=
  decide (x.bladeMeter < Config.meterMax) && x.bladeMeter + 1 == x.life

/-- R95: the two run meters, with the spindle accepted ACTIVE. -/
def runTick (x : Station) : Station :=
  if x.spindle then
    { x with
      runMeter := meterUp x.runMeter
      bladeMeter := meterUp x.bladeMeter
      bladeDue := x.bladeDue || reachesLife x }
  else x

/-- R110: the water meter and its remainder, with the valve open; at its end the meter stands with its remainder. -/
def waterTick (x : Station) : Station :=
  if Config.meterMax ≤ x.waterMeter then x
  else if 600 ≤ x.remainder + x.flow then
    { x with waterMeter := x.waterMeter + 1, remainder := x.remainder + x.flow - 600 }
  else { x with remainder := x.remainder + x.flow }

/-- R96: the dry timer, with the spindle turning and no permit; its arrival at 30 makes the DRY_RUN due. -/
def dryTick (x : Station) : Station :=
  if x.dryTimer < Config.dryLimit then
    { x with dryTimer := x.dryTimer + 1, dryDue := x.dryDue || x.dryTimer + 1 == Config.dryLimit }
  else x

/-- R109: a running hold timer's remaining time falls by 1; 0 means that the expiry is due. -/
def holdTick (x : Station) : Station :=
  { x with hold := x.hold.map fun n => n - 1 }

/-- R95, R96, R109, R110: one station's meters and timers, with its VALVE and PERMIT as they stand. -/
def tickStation (valve permit : Bool) (x : Station) : Station :=
  let x1 := runTick x
  let x2 := if valve then waterTick x1 else x1
  let x3 := if x2.spindle && !permit then dryTick x2 else x2
  holdTick x3

/-- The meters and the timers of the six stations. -/
def tickStations (s : State) : State :=
  allStations.foldl (fun t st => t.onStation st (tickStation (s.valve st) (s.permit st))) s

/-! ## The decisecond tick: the tank and turbidity filters (R117) -/

/-- R117: a filter takes a sample. -/
def sampleFilter {α : Type} [DecidableEq α] (v : α) (f : InputFilter α) : InputFilter α :=
  if v = f.accepted then { f with run := 0 }
  else if v = f.candidate ∧ 0 < f.run then
    if 2 ≤ f.run then { f with accepted := v, run := 0 } else { f with run := f.run + 1 }
  else { f with candidate := v, run := 1 }

/-- R118: the cycle test that reads the sump band. -/
def sumpTest (s : State) : State :=
  if s.plant.cycle = .idle ∧ s.plant.started = true then startTest s else s

/-- R118: the cycle tests that read the settling band. -/
def settlingTest (s : State) : State :=
  if s.plant.cycle = .fill then fillTest s
  else if inDecant s.plant then decantEndTest s
  else s

/-- R118: the cycle test that reads the clean band. -/
def cleanBandTest (s : State) : State :=
  if inDecant s.plant then cleanTest s else s

/-- R118: the effects of a change of the accepted SUMP band. -/
def sumpChanged (s : State) : State :=
  let s1 := raiseNotice .band 0 s
  let s2 := if s.plant.sump.accepted = 7 then raiseNotice .sumpHigh 0 s1 else s1
  sumpTest (reformFloor s2)

/-- R118: the effects of a change of the accepted SETTLING band. -/
def settlingChanged (s : State) : State :=
  settlingTest (raiseNotice .band 1 s)

/-- R118, R106: the effects of a change of the accepted CLEAN band. -/
def cleanChanged (s : State) : State :=
  let s1 := raiseNotice .band 2 s
  cleanBandTest (if s.plant.clean.accepted = 0 then revokeAll s1 else arbitrate (reformFloor s1))

/-- R118, R125: the effects of a change of the accepted turbidity. -/
def turbidityChanged (s : State) : State :=
  if inDecant s.plant then decantEndTest s else s

/-- R117, R118: the SUMP filter's sample, and the change it may accept. -/
def sampleSump (v : Fin 8) (s : State) : State :=
  let t := s.onPlant fun p => { p with sump := sampleFilter v p.sump }
  if t.plant.sump.accepted = s.plant.sump.accepted then t else sumpChanged t

/-- R117, R118: the SETTLING filter's sample, and the change it may accept. -/
def sampleSettling (v : Fin 8) (s : State) : State :=
  let t := s.onPlant fun p => { p with settling := sampleFilter v p.settling }
  if t.plant.settling.accepted = s.plant.settling.accepted then t else settlingChanged t

/-- R117, R118: the CLEAN filter's sample, and the change it may accept. -/
def sampleClean (v : Fin 8) (s : State) : State :=
  let t := s.onPlant fun p => { p with clean := sampleFilter v p.clean }
  if t.plant.clean.accepted = s.plant.clean.accepted then t else cleanChanged t

/-- R117, R118: the turbidity filter's sample, and the change it may accept. -/
def sampleTurbidity (v : Bool) (s : State) : State :=
  let t := s.onPlant fun p => { p with turbidity := sampleFilter v p.turbidity }
  if t.plant.turbidity.accepted = s.plant.turbidity.accepted then t else turbidityChanged t

/-- The levels on the inputs that the decisecond tick samples. -/
def readPins (sump settling clean : Fin 8) (cloudy : Bool) (s : State) : State :=
  s.onPins fun p => { p with sump := sump, settling := settling, clean := clean, cloudy := cloudy }

/-- R95, R117: the decisecond tick: first the meters and timers, then the filters, one input after another with all the effects of its
change (DESIGN CHOICE, assumption 5: the manual gives no order among them). -/
def decisecond (sump settling clean : Fin 8) (cloudy : Bool) (s : State) : State :=
  sampleTurbidity cloudy
    (sampleClean clean (sampleSettling settling (sampleSump sump (tickStations (readPins sump settling clean cloudy s)))))

/-- DECISECOND_TICK. -/
def execDecisecondTick (sump settling clean : Fin 8) (cloudy : Bool) (s : State) : Host.Outcome State Fault Refusal :=
  .next (decisecond sump settling clean cloudy s)

/-! ## The station events -/

/-- R96: a due DRY_RUN is raised and counted.  Where none is due the event does not come about. -/
def takeDryRun (st : Fin 6) (s : State) : State :=
  if (s.station st).dryDue then
    raiseNotice .dryRun st
      (s.onStation st fun x => { x with dryDue := false, dryCount := min 255 (x.dryCount + 1) })
  else s

/-- DRY_RUN. -/
def execDryRun (st : Fin 6) (s : State) : Host.Outcome State Fault Refusal :=
  .next (takeDryRun st s)

/-- R84: a due BLADE_LIFE is raised.  Where none is due the event does not come about. -/
def takeBladeLife (st : Fin 6) (s : State) : State :=
  if (s.station st).bladeDue then
    raiseNotice .bladeLife st (s.onStation st fun x => { x with bladeDue := false })
  else s

/-- BLADE_LIFE. -/
def execBladeLife (st : Fin 6) (s : State) : Host.Outcome State Fault Refusal :=
  .next (takeBladeLife st s)

/-- R109: a hold timer that has reached 0 becomes idle and the grant is released.  Where none has, the event does not come about. -/
def expireHold (st : Fin 6) (s : State) : State :=
  if (s.station st).hold = some 0 then releaseIfHeld st (s.onStation st stopHold) else s

/-- HOLD_TIMER_EXPIRY. -/
def execHoldTimerExpiry (st : Fin 6) (s : State) : Host.Outcome State Fault Refusal :=
  .next (expireHold st s)

end Sys2Proof.Machine
end

