-- ==== Sys2Proof/Machine/Link.lean ====
section
/-! DEFINITION. The Link Interface (chapter 11): the notice set read, the shop mode, the frames that spell no request, the reads of a
response, and reset. -/

namespace Sys2Proof.Machine

/-! ## Notices (R184) -/

/-- R184: the oldest entries leave the set, and the overflow flag is cleared. -/
def takeNotices (l : Link) : Link :=
  { l with notices := l.notices.drop Config.readNoticesMax, overflow := false }

/-- READ_NOTICES. -/
def execReadNotices (s : State) : Host.Outcome State Fault Refusal :=
  serve 0 (fun t => ⟨t.onLink takeNotices, .ok, noticesBody t.link⟩) s

/-! ## Shop mode (R185 to R187) -/

/-- R185, R101, R104: change the shop mode; the floor is formed afresh and arbitration runs. -/
def changeMode (m : ShopMode) (s : State) : State :=
  arbitrate (reformFloor (s.onLink fun l => { l with mode := m }))

/-- R39: store the two remnant minimums, each clamped. -/
def storeMinimums (shortMin longMin : Nat) (e : Engine) : Engine :=
  { e with shortMin := clampShort shortMin, longMin := clampLong longMin }

/-- R186: the check and the effect of OPEN_SHOP. -/
def openShopReply (shortMin longMin : Nat) (s : State) : Reply :=
  if s.link.mode = .running then refuse s .badState
  else
    let t := changeMode .running (s.onEngine (storeMinimums shortMin longMin))
    ⟨t, .ok, be 2 (clampShort shortMin) ++ be 2 (clampLong longMin) ++ be 1 (cycleCode t.plant.cycle)⟩

/-- OPEN_SHOP. -/
def execOpenShop (shortMin longMin : Nat) (s : State) : Host.Outcome State Fault Refusal :=
  serve 4 (openShopReply shortMin longMin) s

/-- R187: the station holds an issued entry. -/
def holdsIssued (s : State) (st : Fin 6) : Bool :=
  (s.station st).issued.isSome

/-- R187: the station is READY or LOADED. -/
def atWork (s : State) (st : Fin 6) : Bool :=
  (s.station st).mode != .offline

/-- R187, step 1. -/
def closeStations (s : State) : State :=
  (allStations.filter (atWork s)).foldl (fun t st => takeOffline st t) s

/-- R187: the effects of a CLOSE_SHOP that passes its checks. -/
def closeShop (s : State) : State :=
  changeMode .loading (stopPlant (closeStations s))

/-- R187: the checks, the effect and the answer of CLOSE_SHOP. -/
def closeShopReply (s : State) : Reply :=
  if s.link.mode = .loading then refuse s .badState
  else if allStations.any (holdsIssued s) then refuse s .busy
  else
    ⟨closeShop s, .ok, be 1 (allStations.filter (atWork s)).length ++ be 1 (cycleCode (closeShop s).plant.cycle) ++
      optByte ((closeShop s).plant.remembered.map fun r => cycleCode r.phase)⟩

/-- CLOSE_SHOP. -/
def execCloseShop (s : State) : Host.Outcome State Fault Refusal :=
  serve 0 closeShopReply s

/-! ## Transactions that carry no request of the table (R178 to R181) -/

/-- R178, R179: a transaction of `n` bytes that carries no request: what stands on the data line; with RDY active a response clocked
out in full leaves the buffer. -/
def readResponse (n : Nat) (s : State) : State :=
  s.onLink fun l =>
    { l with
      miso := presented s n
      response := match l.response with
        | some r => if !l.held && decide (r.frame.length ≤ n) then none else some r
        | none => none }

/-- R180: a frame refused before any block acts, or by a check that precedes every record but the plan's. -/
def answerFrame (n : Nat) (work : State → Reply) (s : State) : State :=
  let r := work (takeFrame n s)
  putResponse r.status r.body r.state

/-- BAD_FRAME, R180: the frame is answered by the check it fails.  A SET_WATER or READ_WATER of neither form, and a READ_PLAN of no
part, have no row of their own in the table and are answered here as their rules say (R112, R114, R60, R75).  Bytes that spell a
request of the table are not this event, and nothing comes about (assumption 12). -/
def answerBadFrame (bytes : List Byte) (s : State) : State :=
  match readFrame bytes with
  | .null => readResponse bytes.length s
  | .badLength => answerFrame bytes.length (fun t => refuse t .badLength) s
  | .badKind => answerFrame bytes.length (fun t => refuse t .badKind) s
  | .unknownForm => answerFrame bytes.length (fun t => refuse t .badField) s
  | .unknownPart plan => answerFrame bytes.length (fun t => withPlan plan (fun _ _ => refuse t .badField) t) s
  | .request _ => s

/-- BAD_FRAME. -/
def execBadFrame (bytes : List Byte) (s : State) : Host.Outcome State Fault Refusal :=
  .next (answerBadFrame bytes s)

/-- RESPONSE_READ. -/
def execResponseRead (clocked : Nat) (s : State) : Host.Outcome State Fault Refusal :=
  .next (readResponse clocked s)

/-- R181: a further request frame received while one is held is discarded; its transaction finds RDY inactive.  With none held the
event does not come about, and nothing changes (assumption 3). -/
def discardRequest (n : Nat) (s : State) : State :=
  if s.link.held then s.onLink fun l => { l with miso := List.replicate n 0 } else s

/-- REQUEST_DISCARDED. -/
def execRequestDiscarded (clocked : Nat) (s : State) : Host.Outcome State Fault Refusal :=
  .next (discardRequest clocked s)

/-! ## Reset (R188) -/

/-- R188: every record of the part at its reset value.  The input levels and the commands that wait are not records of the part
(DESIGN CHOICE, assumption 4). -/
def resetRecords (s : State) : State :=
  { State.reset with pins := s.pins, pending := s.pending }

/-- R188: RESET becomes active: an unread response is lost, and the output lines are inactive (`State.outputs`). -/
def assertReset (s : State) : State :=
  (s.onLink fun l => { l with response := none, held := false }).onPins fun p => { p with reset := true }

/-- R188: a transaction of `n` bytes while RESET is held active: 0x00 on the data line, and no frame is taken. -/
def resetTransaction (n : Nat) (s : State) : State :=
  s.onLink fun l => { l with miso := List.replicate n 0 }

/-- R188: RESET becomes inactive, and every record holds its reset value. -/
def releaseReset (s : State) : State :=
  resetRecords (s.onPins fun p => { p with reset := false })

/-- RESET: the input held active and released, in one step (assumption 14). -/
def execReset (s : State) : Host.Outcome State Fault Refusal :=
  .next (releaseReset (assertReset s))

/-- POWER_ON: power reaching its working level releases the part as RESET does. -/
def execPowerOn (s : State) : Host.Outcome State Fault Refusal :=
  .next (releaseReset s)

end Sys2Proof.Machine
end

