-- ==== Sys2Proof/Machine/Dispatch.lean ====
section
/-! DEFINITION. The meaning of every command: one arm for each row of spec/opcode_table.json, in the table's order. -/

namespace Sys2Proof.Machine

/-- The effect of a command on everything but the queue of waiting commands. -/
def exec (i : Instr) (s : State) : Host.Outcome State Fault Refusal :=
  match i with
  | .admitSlab serial check kind material thickness nomLen nomWid head tail near far rack => Sys2Proof.Machine.execAdmitSlab serial check kind material thickness nomLen nomWid head tail near far rack s
  | .findSlab serial check => Sys2Proof.Machine.execFindSlab serial check s
  | .listStock material minLen minWid selector => Sys2Proof.Machine.execListStock material minLen minWid selector s
  | .moveSlab serial check rack => Sys2Proof.Machine.execMoveSlab serial check rack s
  | .holdSlab serial check => Sys2Proof.Machine.execHoldSlab serial check s
  | .releaseSlab serial check => Sys2Proof.Machine.execReleaseSlab serial check s
  | .trimSlab serial check head tail near far => Sys2Proof.Machine.execTrimSlab serial check head tail near far s
  | .retireSlab serial check => Sys2Proof.Machine.execRetireSlab serial check s
  | .setRackClass rack cls => Sys2Proof.Machine.execSetRackClass rack cls s
  | .openJob job level budget hold => Sys2Proof.Machine.execOpenJob job level budget hold s
  | .addPiece job len wid grain => Sys2Proof.Machine.execAddPiece job len wid grain s
  | .deletePiece job idx => Sys2Proof.Machine.execDeletePiece job idx s
  | .releasePiece job idx => Sys2Proof.Machine.execReleasePiece job idx s
  | .setJob job level budget hold => Sys2Proof.Machine.execSetJob job level budget hold s
  | .readJob job first => Sys2Proof.Machine.execReadJob job first s
  | .closeJob job => Sys2Proof.Machine.execCloseJob job s
  | .openPlan serial check station => Sys2Proof.Machine.execOpenPlan serial check station s
  | .planAdd plan job idx => Sys2Proof.Machine.execPlanAdd plan job idx s
  | .planRemove plan job idx => Sys2Proof.Machine.execPlanRemove plan job idx s
  | .layout plan => Sys2Proof.Machine.execLayout plan s
  | .commit plan => Sys2Proof.Machine.execCommit plan s
  | .abandon plan => Sys2Proof.Machine.execAbandon plan s
  | .readPlanSummary plan first => Sys2Proof.Machine.execReadPlanSummary plan first s
  | .readPlanPieces plan first => Sys2Proof.Machine.execReadPlanPieces plan first s
  | .readPlanStrips plan first => Sys2Proof.Machine.execReadPlanStrips plan first s
  | .readPlanPlacements plan first => Sys2Proof.Machine.execReadPlanPlacements plan first s
  | .readPlanUnfit plan first => Sys2Proof.Machine.execReadPlanUnfit plan first s
  | .stationOnline station maxThick => Sys2Proof.Machine.execStationOnline station maxThick s
  | .stationOffline station => Sys2Proof.Machine.execStationOffline station s
  | .setBlade station kerf life => Sys2Proof.Machine.execSetBlade station kerf life s
  | .loadSlab station serial check => Sys2Proof.Machine.execLoadSlab station serial check s
  | .nextCut station => Sys2Proof.Machine.execNextCut station s
  | .cutDone station plan index => Sys2Proof.Machine.execCutDone station plan index s
  | .setWaterStation station flow hold => Sys2Proof.Machine.execSetWaterStation station flow hold s
  | .setWaterArbiter capacity f0 f1 f2 f3 f4 f5 f6 f7 => Sys2Proof.Machine.execSetWaterArbiter capacity f0 f1 f2 f3 f4 f5 f6 f7 s
  | .readWaterStation station => Sys2Proof.Machine.execReadWaterStation station s
  | .readWaterArbiter => Sys2Proof.Machine.execReadWaterArbiter s
  | .plantStart mode reset => Sys2Proof.Machine.execPlantStart mode reset s
  | .plantStop => Sys2Proof.Machine.execPlantStop s
  | .plantResetCycle => Sys2Proof.Machine.execPlantResetCycle s
  | .plantSetBufferMode value => Sys2Proof.Machine.execPlantSetBufferMode value s
  | .plantSet name value => Sys2Proof.Machine.execPlantSet name value s
  | .readPlant => Sys2Proof.Machine.execReadPlant s
  | .setMaterialRate code rate => Sys2Proof.Machine.execSetMaterialRate code rate s
  | .setWaterRate rate => Sys2Proof.Machine.execSetWaterRate rate s
  | .setMachineRate station rate => Sys2Proof.Machine.execSetMachineRate station rate s
  | .readCost job => Sys2Proof.Machine.execReadCost job s
  | .clearOverhead => Sys2Proof.Machine.execClearOverhead s
  | .cutSpoiled station plan index => Sys2Proof.Machine.execCutSpoiled station plan index s
  | .breakSlab station => Sys2Proof.Machine.execBreakSlab station s
  | .cancelJob job => Sys2Proof.Machine.execCancelJob job s
  | .readNotices => Sys2Proof.Machine.execReadNotices s
  | .openShop shortMin longMin => Sys2Proof.Machine.execOpenShop shortMin longMin s
  | .closeShop => Sys2Proof.Machine.execCloseShop s
  | .badFrame bytes => Sys2Proof.Machine.execBadFrame bytes s
  | .responseRead clocked => Sys2Proof.Machine.execResponseRead clocked s
  | .requestDiscarded clocked => Sys2Proof.Machine.execRequestDiscarded clocked s
  | .reset => Sys2Proof.Machine.execReset s
  | .powerOn => Sys2Proof.Machine.execPowerOn s
  | .sampleTick spin => Sys2Proof.Machine.execSampleTick spin s
  | .decisecondTick sump settling clean cloudy => Sys2Proof.Machine.execDecisecondTick sump settling clean cloudy s
  | .dryRun station => Sys2Proof.Machine.execDryRun station s
  | .bladeLife station => Sys2Proof.Machine.execBladeLife station s
  | .holdTimerExpiry station => Sys2Proof.Machine.execHoldTimerExpiry station s
  | .plantTick => Sys2Proof.Machine.execPlantTick s
  | .fillTimeout => Sys2Proof.Machine.execFillTimeout s
  | .doseEnd => Sys2Proof.Machine.execDoseEnd s
  | .settleEnd => Sys2Proof.Machine.execSettleEnd s
  | .sludgeEnd => Sys2Proof.Machine.execSludgeEnd s
  | .engineTake => Sys2Proof.Machine.execEngineTake s
  | .layoutComplete => Sys2Proof.Machine.execLayoutComplete s

end Sys2Proof.Machine
end

