-- ==== Sys2Proof/Machine/Step.lean ====
section
/-! DEFINITION. One step: the command at the front of the queue.  With nothing waiting the part idles: time passes only by the tick
commands (DESIGN CHOICE, assumption 1). -/

namespace Sys2Proof.Machine

/-- The state with another queue of waiting commands. -/
def State.withQueue (s : State) (q : List Instr) : State :=
  { s with pending := q }

/-- Take the command at the front of the queue and run it on the state with the queue's rest. -/
def step (s : State) : Host.Outcome State Fault Refusal :=
  match s.pending with
  | [] => .next s
  | i :: rest => exec i (s.withQueue rest)

/-- The state with the command that a word spells put at the front of its queue, unchanged where it spells none. -/
def State.withFetchWord (s : State) (nbits w : Nat) : State :=
  match decodeTableWord nbits w with
  | some i => s.withQueue (i :: s.pending)
  | none => s

end Sys2Proof.Machine
end

