-- ==== Sys2Proof/WellFormed.lean ====
section
/-! DEFINITION. The commands that can come about: every field of a request fits the bytes the link gives it (R189), PLANT_SET does not
name BUFFER_MODE in the constructor for the settings (R128), and an event of the link carries what such an event carries (R178 to R181).
`exec` gives every term a meaning all the same. -/

namespace Sys2Proof

/-- Every field fits its width. -/
def fieldsFit (l : List (Nat × Nat)) : Bool :=
  l.all fun x => decide (x.2 < 256 ^ x.1)

/-- The fields of a request fit their widths; an event has no such fields. -/
def requestFits (i : Instr) : Bool :=
  match requestFields i with
  | some r => fieldsFit r.2
  | none => true

/-- What the constructor asks beyond its fields' widths. -/
def shapeFits : Instr → Bool
  | .plantSet name _ => name != 8
  | .badFrame bytes => decodeTransaction bytes == .badFrame bytes
  | .responseRead n => decide (0 < n)
  | .requestDiscarded n => decide (0 < n)
  | _ => true

/-- A command that can come about. -/
def WellFormed (i : Instr) : Bool :=
  requestFits i && shapeFits i

/-- The command is a request of the table, not an event. -/
def isRequest (i : Instr) : Bool :=
  (requestFields i).isSome

end Sys2Proof
end

