-- ==== Sys2Proof/Safety.lean ====
section
/-! DEFINITION. What the statements speak of: how an answered request stands on the link, what a refusal is, how a table differs from
the one before by one record, the invariants of a safe state, and what a close and an unwinding do. -/

namespace Sys2Proof.Machine

/-! ## Answers (R177 to R181) -/

/-- The Link Interface after a request whose body has `size` bytes is answered: the data line showed what the transaction of
`size + 2` bytes presents (R178; the record of the line is assumption 14), and the response stands in the buffer (R180, R181), with a
request held behind it if a frame already waits next (assumption 3). -/
def answeredLink (s : State) (size : Nat) (status : Status) (body : List Byte) : Link :=
  { s.link with
    miso := presented s (size + 2)
    response := some ⟨status, body⟩
    held := waitingFrame s.pending }

/-- The part after a request is answered with no other change. -/
def answered (s : State) (size : Nat) (status : Status) (body : List Byte) : State :=
  { s with link := answeredLink s size status body }

/-- R181: the status refuses the request: it is none of OK, ACCEPTED, WAIT_WATER and HELD_ONLY. -/
def refuses : Status → Bool
  | .ok => false
  | .accepted => false
  | .waitWater => false
  | .heldOnly => false
  | _ => true

/-! ## Tables that differ by one record -/

/-- One slab record has been replaced: the rack lists, the classes and the counter stand, and so does every other record. -/
def RecordReplaced (k k' : Stock) (x : Slab) : Prop :=
  findSlab x.serial k' = some x ∧ (∀ n, n ≠ x.serial → findSlab n k' = findSlab n k) ∧
    k'.racks = k.racks ∧ k'.classes = k.classes ∧ k'.nextSerial = k.nextSerial

/-- One slab record now reads `x` (absent for `none`), and so does no other; the classes and the counter stand. -/
def OnlyRecord (k k' : Stock) (serial : Nat) (x : Option Slab) : Prop :=
  findSlab serial k' = x ∧ (∀ n, n ≠ serial → findSlab n k' = findSlab n k) ∧ k'.classes = k.classes ∧
    k'.nextSerial = k.nextSerial

/-- A record has left the rack list it stood in, and the other lists stand. -/
def LeftRack (k k' : Stock) (x : Slab) : Prop :=
  (∀ r, x.place = .rack r → rackList r k' = (rackList r k).erase x.serial) ∧
    (∀ r, x.place ≠ .rack r → rackList r k' = rackList r k)

/-- One piece of the piece table now reads `x` (absent for `none`), every other piece and every job stands. -/
def OnlyPiece (t t' : JobTable) (id : PieceId) (x : Option Piece) : Prop :=
  findPiece id t' = x ∧ (∀ i, i ≠ id → findPiece i t' = findPiece i t) ∧ t'.slots = t.slots

/-! ## Filters (R117) -/

/-- R117: what a sample `v` makes of a filter. -/
def FilterStep {α : Type} (v : α) (f g : InputFilter α) : Prop :=
  (v = f.accepted → g = { f with run := 0 }) ∧
    (v ≠ f.accepted → v = f.candidate → f.run = 1 → g = { f with run := 2 }) ∧
    (v ≠ f.accepted → v = f.candidate → f.run = 2 → g = { f with accepted := v, run := 0 }) ∧
    (v ≠ f.accepted → (v ≠ f.candidate ∨ f.run = 0) → g = { f with candidate := v, run := 1 })

/-! ## The invariants of a safe state -/

/-- R182: at most 32 entries, every count 1 to 255, no two entries with one kind and object. -/
def NoticesOk (l : Link) : Prop :=
  l.notices.length ≤ 32 ∧ (∀ n ∈ l.notices, 1 ≤ n.count ∧ n.count ≤ 255) ∧
    l.notices.Pairwise fun m n => ¬(m.kind = n.kind ∧ m.object = n.object)

/-- R139: every accumulator lies in 0 to 2^48 - 1. -/
def AccountsOk (s : State) : Prop :=
  ∀ j b c, s.job j = some b → (getAcc b.cost c).value ≤ 281474976710655

/-- R21: job 0 is in use and OPEN at level 0 with budget 0, its hold and over-budget flags clear, and it has no pieces. -/
def OverheadOk (s : State) : Prop :=
  (∃ b, s.job 0 = some b ∧ b.state = .opened ∧ b.level = 0 ∧ b.budget = 0 ∧ b.hold = false ∧ b.overBudget = false) ∧
    ∀ x ∈ s.jobs.pieces, x.id.job ≠ 0

/-- R101: the effective floor is the largest of its three terms. -/
def FloorOk (s : State) : Prop :=
  s.arbiter.floor = max (s.arbiter.table.get s.plant.clean.accepted)
    (max (if s.plant.sump.accepted = 7 then 7 else 0) (if s.link.mode = .loading then 7 else 0))

/-- R99, R108: a station stands at most once in the pending list and the held grants together, and no grant is held at clean band 0. -/
def WaterOk (s : State) : Prop :=
  (s.arbiter.pending.map (fun r => r.station) ++ s.arbiter.grants.map (fun g => g.station)).Nodup ∧
    (s.plant.clean.accepted = 0 → s.arbiter.grants = [])

/-- R1, R5, R23, R57: the collections stay within their capacities. -/
def CapacityOk (s : State) : Prop :=
  s.stock.slabs.length ≤ 512 ∧ (∀ r, (rackList r s.stock).length ≤ 16) ∧ s.jobs.pieces.length ≤ 1024 ∧
    ∀ p x, s.plan p = some x → x.pieces.length ≤ 32

/-! ## Layouts -/

/-- R51: a rectangle qualifies as the layout's candidate. -/
def MeetsMinimums (c : Captures) (x : Candidate) : Prop :=
  0 < x.len ∧ 0 < x.wid ∧ c.shortMin ≤ min x.len x.wid ∧ c.longMin ≤ max x.len x.wid

/-! ## Charges (R97, R140 to R142) -/

/-- R140 to R142: a job after one charge: the exact product added to its accumulator, and its budget watch. -/
def chargedJob (c : Category) (quantity rate : Nat) (d : Job) : Job :=
  let cost := putAcc d.cost c (addProduct (getAcc d.cost c) (chargeProduct quantity rate))
  { d with
    cost := cost
    overBudget := d.overBudget || decide (0 < d.budget ∧ d.budget ≤ totalCents cost) }

/-- R97: a job after the meters of a station are charged to it, SAW before WATER; a delta of 0 makes no charge. -/
def meteredJob (x : Station) (waterRate : Nat) (d : Job) : Job :=
  let e := if x.runSnap < x.runMeter then chargedJob .saw (x.runMeter - x.runSnap) x.machineRate d else d
  if x.waterSnap < x.waterMeter then chargedJob .water (x.waterMeter - x.waterSnap) waterRate e else e

/-! ## What a close does (R155 to R165) -/

/-- R157: the close keeps the layout's candidate. -/
def CandidateKept (broke : Bool) (c : Candidate) (b : Slab) (k : Stock) : Prop :=
  broke = false ∧ c.kind ≠ .none ∧ b.gen ≠ 3 ∧ k.slabs.length ≠ 512

/-- R157: the close discards a candidate there is. -/
def CandidateLost (broke : Bool) (c : Candidate) (b : Slab) (k : Stock) : Prop :=
  broke = false ∧ c.kind ≠ .none ∧ (b.gen = 3 ∨ k.slabs.length = 512)

/-- R7: `n` is the first serial from the counter's value on, round the remnant range, that no record carries. -/
def FirstFreeSerial (k : Stock) (n : Nat) : Prop :=
  ∃ i, n = 0xF00000 + (k.nextSerial - 0xF00000 + i) % 0x100000 ∧ findSlab n k = none ∧
    ∀ m, m < i → (findSlab (0xF00000 + (k.nextSerial - 0xF00000 + m) % 0x100000) k).isSome = true

/-- R19: a rack of class REMNANT that holds fewer than 16 records. -/
def HasRoom (k : Stock) (r : Fin 32) : Prop :=
  k.classes.get r = .remnant ∧ (rackList r k).length < 16

/-- R19: where a new remnant goes: the emptiest rack with room, the lowest of equals; UNRACKED when none has room. -/
def RemnantGoes (k : Stock) (q : Place) : Prop :=
  (q = .unracked ∧ ∀ r, ¬HasRoom k r) ∨
    ∃ r, q = .rack r ∧ HasRoom k r ∧ ∀ i, HasRoom k i → (rackList r k).length < (rackList i k).length ∨
      ((rackList r k).length = (rackList i k).length ∧ r ≤ i)

/-- R7, R19, R158, R163: the candidate `c` of the slab `b` has become the record `m`, and the slab's own record is gone. -/
def RemnantMade (b : Slab) (c : Candidate) (k k' : Stock) (m : Slab) : Prop :=
  m = ⟨m.serial, .remnant, b.material, b.thickness, c.len, c.wid, 0, 0, 0, 0, .available, m.place, none, some b.serial, b.gen + 1⟩ ∧
    FirstFreeSerial k m.serial ∧ RemnantGoes k m.place ∧
    findSlab m.serial k' = some m ∧ findSlab b.serial k' = none ∧
    (∀ n, n ≠ m.serial → n ≠ b.serial → findSlab n k' = findSlab n k) ∧
    (∀ r, rackList r k' = if m.place = .rack r then m.serial :: rackList r k else rackList r k) ∧
    k'.classes = k.classes ∧ k'.nextSerial = if m.serial = 0xFFFFFF then 0xF00000 else m.serial + 1

/-- R162: the share of the waste pool that the close charges to a job; 0 makes no charge. -/
def closeShare (pool : Nat) (l : List Placement) (j : Fin 64) : Nat :=
  (((wasteShares pool l).filter fun x => x.1 == j).map fun x => x.2).sum

/-- R162: the charges of a close: each share above 0, then each VOID placement in placement order. -/
def closeCharges (pool : Nat) (l : List Placement) : List (Fin 64 × Nat) :=
  ((List.finRange 64).filter fun j => decide (0 < closeShare pool l j)).map (fun j => (j, closeShare pool l j)) ++
    (l.filter fun x => x.state == some .void).map fun x => (x.piece.job, x.area)

/-- R162: the areas that the close charges to one job. -/
def wasteAreas (pool : Nat) (l : List Placement) (j : Fin 64) : List Nat :=
  ((closeCharges pool l).filter fun x => x.1 == j).map fun x => x.2

/-- R142, R162, R163: a job after its WASTE charges of a close and the fall of its open-placement count. -/
def wastedJob (rate pool : Nat) (l : List Placement) (j : Fin 64) (d : Job) : Job :=
  { (wasteAreas pool l j).foldl (fun e n => chargedJob .waste n rate e) d with
    openCount := d.openCount - l.countP fun x => x.piece.job == j }

/-- R82, R105: a station whose current plan `p` has become FREE; with a grant its meters are charged and its hold timer is idle. -/
def advanced (p : Fin 16) (permit : Bool) (x : Station) : Station :=
  { x with
    queue := x.queue.filter fun e => e.plan != p
    mode := if x.mode = .loaded then .ready else x.mode
    current := x.next
    next := none
    hold := if permit then none else x.hold
    runSnap := if permit then x.runMeter else x.runSnap
    waterSnap := if permit then x.waterMeter else x.waterSnap }

/-- R82, R105, R111: the station has lost its grant or its request, and arbitration has run if it had one. -/
def waterDropped (st : Fin 6) (had : Bool) (s : State) : State :=
  let t := { s with
    arbiter := { s.arbiter with
      pending := s.arbiter.pending.filter fun r => r.station != st
      grants := s.arbiter.grants.filter fun g => g.station != st } }
  if had then arbitrate t else t

/-- R81, R97, R105, R111: a station has become OFFLINE: a grant's meters are charged to job 0, and it has neither grant nor request. -/
def tookOffline (st : Fin 6) (s : State) : State :=
  waterDropped st (s.permit st || (s.request st).isSome)
    { (if s.permit st then chargeMeters st 0 s else s) with
      stations := s.stations.set st { s.station st with
        mode := .offline
        hold := if s.permit st then none else (s.station st).hold
        runSnap := if s.permit st then (s.station st).runMeter else (s.station st).runSnap
        waterSnap := if s.permit st then (s.station st).waterMeter else (s.station st).waterSnap } }

/-- R155 to R165: what a close makes of the state `u`, in which plan `p`, CUTTING on its station `st` with the layout `l` at the
captured rate, has the slab `b`: the state `t` (but for the response) and the report `r`. -/
structure SlabClosed (p : Fin 16) (st : Fin 6) (l : Layout) (rate : Nat) (b : Slab) (broke : Bool) (u t : State) (r : CloseReport) :
    Prop where
  frame : t = { u with
    stock := t.stock
    jobs := t.jobs
    plans := { u.plans with slots := u.plans.slots.set p none }
    stations := t.stations
    arbiter := t.arbiter
    link := { t.link with mode := u.link.mode, miso := u.link.miso } }
  kept : CandidateKept broke l.candidate b u.stock → ∃ m, RemnantMade b l.candidate u.stock t.stock m ∧
    r.remnant = some m ∧ r.outcome = .kept ∧ r.area = l.candidate.len * l.candidate.wid
  notKept : ¬CandidateKept broke l.candidate b u.stock → OnlyRecord u.stock t.stock b.serial none ∧ t.stock.racks = u.stock.racks ∧
    r.remnant = none ∧ r.area = 0 ∧ (CandidateLost broke l.candidate b u.stock → r.outcome = .lost) ∧
    (¬CandidateLost broke l.candidate b u.stock → r.outcome = .none)
  pool : r.pool = b.usableLen * b.usableWid - sumArea (l.placements.filter charged) - r.area
  report : r.plan = p ∧ r.station = st ∧ r.parent = b.serial ∧ r.broke = broke ∧
    r.sharing = (List.finRange 64).countP fun j => decide (0 < closeShare r.pool l.placements j)
  pieces : t.jobs.pieces = u.jobs.pieces
  jobs : ∀ j, t.job j = (u.job j).map fun d =>
    if j = 0 ∧ u.permit st = true then meteredJob (u.station st) u.rates.water (wastedJob rate r.pool l.placements j d)
    else wastedJob rate r.pool l.placements j d
  station : t.station st = advanced p (u.permit st) (u.station st)
  water : t.permit st = false ∧ t.request st = none
  rest : ∃ v w z : State,
    v = { u with link :=
      if r.outcome = .lost then postNotice .remnantLost p u.link
      else match r.remnant with
        | some m => if m.place = .unracked then postNotice .remnantUnracked (m.serial % 65536) u.link else u.link
        | none => u.link } ∧
    w = (closeCharges r.pool l.placements).foldl (fun x c => charge c.1 .waste c.2 rate x) v ∧
    z = waterDropped st (u.permit st || (u.request st).isSome)
      { (if u.permit st then chargeMeters st 0 w else w) with
        stations := u.stations.set st (advanced p (u.permit st) (u.station st)) } ∧
    t.stations = z.stations ∧ t.arbiter = z.arbiter ∧
    t.link.notices = (postNotice .slabClosed p z.link).notices ∧ t.link.overflow = (postNotice .slabClosed p z.link).overflow

/-! ## Unwinding a COMMITTED plan (R74, R82, R174) -/

/-- R74, R82: what the unwinding of the COMMITTED plan `x` in slot `p`, with the layout `l` and the slab `b`, makes of the state `u`: the
state `t`, but for the response. -/
structure Unwound (p : Fin 16) (x : Plan) (l : Layout) (b : Slab) (u t : State) : Prop where
  frame : t = { u with
    stock := t.stock
    jobs := t.jobs
    plans := { u.plans with slots := u.plans.slots.set p none }
    stations := t.stations
    arbiter := t.arbiter
    link := { t.link with mode := u.link.mode, miso := u.link.miso } }
  slab : RecordReplaced u.stock t.stock { b with state := .available, plan := none }
  returned : ∀ i, (∃ y ∈ l.placements, y.piece = i ∧ y.state = some .queued) →
    findPiece i t.jobs = (findPiece i u.jobs).map fun y => { y with state := .unplanned, plan := none }
  otherPieces : ∀ i, (¬∃ y ∈ l.placements, y.piece = i ∧ y.state = some .queued) → findPiece i t.jobs = findPiece i u.jobs
  current : (u.station x.station).current = some p → ∃ c z : State,
    c = (if u.permit x.station then chargeMeters x.station 0 u else u) ∧
    z = waterDropped x.station (u.permit x.station || (u.request x.station).isSome)
      { c with stations := u.stations.set x.station (advanced p (u.permit x.station) (u.station x.station)) } ∧
    t.stations = z.stations ∧ t.arbiter = z.arbiter ∧ t.link.notices = z.link.notices ∧ t.link.overflow = z.link.overflow ∧
    t.station x.station = advanced p (u.permit x.station) (u.station x.station) ∧
    t.permit x.station = false ∧ t.request x.station = none ∧
    ∀ j, t.job j = (u.job j).map fun d =>
      { (if j = 0 ∧ u.permit x.station = true then meteredJob (u.station x.station) u.rates.water d else d) with
        openCount := d.openCount - l.placements.countP fun y => y.piece.job == j }
  notCurrent : (u.station x.station).current ≠ some p →
    t.stations = u.stations.set x.station
      { u.station x.station with
        queue := (u.station x.station).queue.filter fun e => e.plan != p
        next := if (u.station x.station).next = some p then none else (u.station x.station).next } ∧
    t.arbiter = u.arbiter ∧ t.link.notices = u.link.notices ∧ t.link.overflow = u.link.overflow ∧
    ∀ j, t.job j = (u.job j).map fun d =>
      { d with openCount := d.openCount - l.placements.countP fun y => y.piece.job == j }

/-- R174: what becomes of a plan in which a cancellation has voided a placement: a COMMITTED plan left all VOID is unwound (`k` is 1), a
CUTTING one left with no open placement closes (with the report `r`), and any other stands. -/
structure CancelTakes (p : Fin 16) (u t : State) (k : Nat) (r : Option CloseReport) : Prop where
  unwound : ∀ x kerf l rate b, u.plan p = some x → x.phase = .committed kerf l rate →
    (∀ z ∈ l.placements, z.state = some .void) → findSlab x.serial u.stock = some b → WaterOk u →
    Unwound p x l b u t ∧ k = 1 ∧ r = none
  stays : ∀ x kerf l rate, u.plan p = some x → x.phase = .committed kerf l rate →
    (∃ z ∈ l.placements, z.state ≠ some .void) → t = u ∧ k = 0 ∧ r = none
  closed : ∀ x kerf l rate b, u.plan p = some x → x.phase = .cutting kerf l rate →
    (∀ z ∈ l.placements, z.state ≠ some .queued ∧ z.state ≠ some .issued) → findSlab x.serial u.stock = some b → WaterOk u →
    (u.station x.station).current = some p → 0xF00000 ≤ u.stock.nextSerial → u.stock.nextSerial ≤ 0xFFFFFF →
    u.stock.slabs.length ≤ 512 → ∃ c, SlabClosed p x.station l rate b false u t c ∧ k = 0 ∧ r = some c
  goesOn : ∀ x kerf l rate, u.plan p = some x → x.phase = .cutting kerf l rate →
    (∃ z ∈ l.placements, z.state = some .queued ∨ z.state = some .issued) → t = u ∧ k = 0 ∧ r = none

/-! ## The records of different blocks agree -/

/-- The placements of the plan in a slot while it is COMMITTED or CUTTING. -/
def committedPlacements (s : State) (p : Fin 16) : List Placement :=
  match s.plan p with
  | some x => if isCommittedOrCutting x then placementsOf x else []
  | none => []

/-- R1, R4, R5, R7, R18: the records stand in ascending serial; a record and the rack list it stands in agree, as do a record and the
one plan that names it: RESERVED before its slab is loaded, ON_SAW on its station's bed while it is CUTTING. -/
structure StockOk (s : State) : Prop where
  ascending : s.stock.slabs.Pairwise fun x y => x.serial < y.serial
  counter : 0xF00000 ≤ s.stock.nextSerial ∧ s.stock.nextSerial ≤ 0xFFFFFF
  racked : ∀ x ∈ s.stock.slabs, ∀ r, x.place = .rack r → x.serial ∈ rackList r s.stock
  listed : ∀ r, (rackList r s.stock).Nodup ∧
    ∀ n ∈ rackList r s.stock, ∃ x ∈ s.stock.slabs, x.serial = n ∧ x.place = .rack r
  free : ∀ x ∈ s.stock.slabs, x.plan = none →
    (x.state = .available ∨ x.state = .held) ∧ ∀ st, x.place ≠ .bed st
  named : ∀ x ∈ s.stock.slabs, ∀ p ∈ x.plan, ∃ y ∈ s.plan p, y.serial = x.serial ∧
    (isCutting y = false → x.state = .reserved ∧ ∀ st, x.place ≠ .bed st) ∧
    (isCutting y = true → x.state = .onSaw ∧ x.place = .bed y.station)
  claimed : ∀ p, ∀ y ∈ s.plan p, ∃ x ∈ s.stock.slabs, x.serial = y.serial ∧ x.plan = some p

/-- R23, R24, R57, R59: the pieces stand in ascending job and index, each of a job in use; a DRAFTED piece stands in the piece set of
the plan it names and a QUEUED or ISSUED one in a placement of the same state there, and the other way round. -/
structure PiecesOk (s : State) : Prop where
  ascending : s.jobs.pieces.Pairwise fun x y => pieceBefore x y = true
  owned : ∀ x ∈ s.jobs.pieces, x.id.idx ≤ 47 ∧ (s.job x.id.job).isSome = true
  unclaimed : ∀ x ∈ s.jobs.pieces, (x.state = .unplanned ∨ x.state = .cut ∨ x.state = .held ↔ x.plan = none)
  drafted : ∀ x ∈ s.jobs.pieces, x.state = .drafted → ∃ p ∈ x.plan, ∃ y ∈ s.plan p, beforeCommit y = true ∧ x.id ∈ y.pieces
  queued : ∀ x ∈ s.jobs.pieces, x.state = .queued →
    ∃ p ∈ x.plan, ∃ z ∈ committedPlacements s p, z.piece = x.id ∧ z.state = some .queued
  issued : ∀ x ∈ s.jobs.pieces, x.state = .issued →
    ∃ p ∈ x.plan, ∃ z ∈ committedPlacements s p, z.piece = x.id ∧ z.state = some .issued
  inSet : ∀ p, ∀ y ∈ s.plan p, beforeCommit y = true → ∀ i ∈ y.pieces,
    ∃ x ∈ s.jobs.pieces, x.id = i ∧ x.state = .drafted ∧ x.plan = some p
  placed : ∀ p, ∀ z ∈ committedPlacements s p,
    (z.state = some .queued → ∃ x ∈ s.jobs.pieces, x.id = z.piece ∧ x.state = .queued ∧ x.plan = some p) ∧
    (z.state = some .issued → ∃ x ∈ s.jobs.pieces, x.id = z.piece ∧ x.state = .issued ∧ x.plan = some p)

/-- R57, R59, R70: no piece stands twice in a plan's piece set or among a committed plan's placements; a LAID plan's layout accounts
for exactly its piece set; the placements of a COMMITTED plan are QUEUED or VOID, and those of a CUTTING plan have a state. -/
structure PlansOk (s : State) : Prop where
  sets : ∀ p, ∀ y ∈ s.plan p, y.pieces.Nodup
  distinct : ∀ p, ((committedPlacements s p).map fun z => z.piece).Nodup
  laid : ∀ p, ∀ y ∈ s.plan p, beforeCommit y = true → ∀ l ∈ layoutOf y,
    y.pieces.Perm (l.placements.map (fun z => z.piece) ++ l.unfit.map fun u => u.piece)
  committed : ∀ p, ∀ y ∈ s.plan p, isCommitted y = true →
    ∀ z ∈ placementsOf y, z.state = some .queued ∨ z.state = some .void
  cutting : ∀ p, ∀ y ∈ s.plan p, isCutting y = true → ∀ z ∈ placementsOf y, z.state ≠ none

/-- R26: a job's open-placement count is the number of its placements in the COMMITTED and CUTTING plans, and only a job in use has
any. -/
structure OpenCountsOk (s : State) : Prop where
  counts : ∀ j, ∀ b ∈ s.job j,
    b.openCount = (allPlans.map fun p => (committedPlacements s p).countP fun z => z.piece.job == j).sum
  inUse : ∀ p, ∀ z ∈ committedPlacements s p, (s.job z.piece.job).isSome = true

/-- R37, R65: the layout queue holds exactly the LAYING plans with no computation started, each once; the other LAYING plan is the one
the engine's computation in progress names. -/
structure LayoutQueueOk (s : State) : Prop where
  once : s.plans.queue.Nodup
  waiting : ∀ p, p ∈ s.plans.queue ↔ ∃ x ∈ s.plan p, x.phase = .laying none
  started : ∀ p, ∀ x ∈ s.plan p, ∀ n ∈ numberOf x, ∃ c ∈ s.engine.current, c.plan = p ∧ c.number = n
  inProgress : ∀ c ∈ s.engine.current, ∃ x ∈ s.plan c.plan, numberOf x = some c.number

/-- R71: the cut entries of a station's plan: one for each QUEUED or ISSUED placement, in the order of its placement list. -/
def openEntries (s : State) (o : Option (Fin 16)) : List CutEntry :=
  match o with
  | some p => (cutEntries p (committedPlacements s p)).filter fun e =>
      entryState e s == some .queued || entryState e s == some .issued
  | none => []

/-- R71, R77, R78, R85: a station's current and next plans are the COMMITTED and CUTTING plans that name it, a CUTTING one being the
current plan; its queue holds their open entries, the current plan's first; its issued entry is the one whose placement is ISSUED; it
is LOADED with its current plan CUTTING, and READY with none CUTTING. -/
structure StationsOk (s : State) : Prop where
  roles : ∀ st p, (s.station st).current = some p ∨ (s.station st).next = some p ↔
    ∃ y ∈ s.plan p, y.station = st ∧ isCommittedOrCutting y = true
  twoPlans : ∀ st, ∀ p ∈ (s.station st).next, (s.station st).current ≠ none ∧ (s.station st).current ≠ some p ∧
    ∀ y ∈ s.plan p, isCutting y = false
  queue : ∀ st, (s.station st).queue = openEntries s (s.station st).current ++ openEntries s (s.station st).next
  issued : ∀ st, (s.station st).queue.filter (fun e => entryState e s == some .issued) = (s.station st).issued.toList
  atWork : ∀ st, (s.station st).issued ≠ none → (s.station st).mode = .loaded
  loaded : ∀ st, (s.station st).mode = .loaded → currentCutting st s = true
  ready : ∀ st, (s.station st).mode = .ready → currentCutting st s = false

/-- The manual's rules between blocks. -/
structure RecordsOk (s : State) : Prop where
  stock : StockOk s
  pieces : PiecesOk s
  plans : PlansOk s
  counts : OpenCountsOk s
  layouts : LayoutQueueOk s
  stations : StationsOk s

end Sys2Proof.Machine
end

