-- ==== Sys2Proof/Certificates/Slice0/Obligations.lean ====
section
/-! DEFINITION. The statements for the provers, from the numbered rules of spec/.  A statement's next state is written as the state
before with the records that the command changes; every record not named there is unchanged, which is the frame. -/

open Sys2Proof Sys2Proof.Machine

/-! ## The machine: the queue of commands, answers, refusals -/

/-- A step runs the command at the front of the queue with the queue's rest; with nothing waiting the part idles (the idling is the
model's choice, assumption 1). -/
def Obligations.StepRunsFront : Prop :=
  (∀ (c : Instr) (rest : List Instr) (s : State),
    step { s with pending := c :: rest } = exec c { s with pending := rest }) ∧
  ∀ s : State, step { s with pending := [] } = .next { s with pending := [] }

/-- No command stops the part, and none touches the queue.  That there is a queue of waiting commands is the model's choice
(assumption 17), and so is that RESET and POWER_ON leave it alone (assumption 4). -/
def Obligations.EveryCommandCompletes : Prop :=
  ∀ (i : Instr) (s : State), ∃ t, exec i s = .next t ∧ t.pending = s.pending

/-- Introduction, "refused"; R181: a request answered with a status that refuses it changes no record: only the transaction's own marks
on the link, the data line, the response and the request held behind it, differ (the last is assumption 3). -/
def Obligations.RefusedChangesNothing : Prop :=
  ∀ (i : Instr) (s t : State) (r : Response), isRequest i = true → exec i s = .next t → t.link.response = some r →
    refuses r.status = true →
    t = { s with link := { s.link with miso := t.link.miso, response := t.link.response, held := t.link.held } }

/-- R178, R181: when a request has been taken, its response stands in the buffer, and the data line showed what a transaction of the
request frame's length presents.  RDY is then active, unless a request frame already waits next in the queue: it was received while
this response was prepared, and the part holds it.  That a response is ready when the command ends, and that a waiting frame is the
held one, is assumption 3; the transaction's length and the record of the data line are assumption 14. -/
def Obligations.RequestIsAnswered : Prop :=
  ∀ (i : Instr) (s t : State) (bytes : List Byte), encodeRequest i = some bytes → exec i s = .next t →
    t.link.response.isSome = true ∧ t.rdy = !waitingFrame s.pending ∧ t.link.miso = presented s bytes.length

/-- R188: RESET and power-on have one effect: every record holds its reset value.  While RESET is held active, with any transactions in
that time, no frame is taken, the data line shows 0x00, every output line is inactive and no response is left; the release then brings
the same.  The input levels and the waiting commands are no records of the part (assumption 4), and RESET is one command taken whole
(assumption 14). -/
def Obligations.ResetCommands : Prop :=
  ∀ s : State,
    exec .reset s = .next { State.reset with pins := { s.pins with reset := false }, pending := s.pending } ∧
    exec .powerOn s = .next { State.reset with pins := { s.pins with reset := false }, pending := s.pending } ∧
    ∀ (clocked : List Nat) (h : State), h = clocked.foldl (fun u n => resetTransaction n u) (assertReset s) →
      h = { s with
        pins := { s.pins with reset := true }
        link := { s.link with response := none, held := false, miso := h.link.miso } } ∧
      (∀ n, clocked.getLast? = some n → h.link.miso = List.replicate n 0) ∧
      (∀ st : Fin 6, h.outputs.valve.get st = false ∧ h.outputs.permit.get st = false) ∧
      h.outputs.transfer = false ∧ h.outputs.dose = false ∧ h.outputs.decant = false ∧ h.outputs.sludge = false ∧
      h.outputs.attn = false ∧ h.outputs.rdy = false ∧
      exec .reset s = .next (releaseReset h)

/-! ## The link -/

/-- R177, R189: the frame of every request that the link can carry is read back as that request (BUFFER_MODE's ordinal 8 is
assumption 12). -/
def Obligations.RequestRoundTrip : Prop :=
  ∀ (i : Instr) (bytes : List Byte), WellFormed i = true → encodeRequest i = some bytes → decodeTransaction bytes = i

/-- R177, R189: every frame that is read as a request is the frame of exactly that request, and the request is one the link can
carry (BUFFER_MODE's ordinal 8 is assumption 12). -/
def Obligations.FrameSpellsOneRequest : Prop :=
  ∀ (i : Instr) (bytes : List Byte), readFrame bytes = .request i → WellFormed i = true ∧ encodeRequest i = some bytes

/-- R180: a frame that spells no request of the table is answered by the check it fails, with an empty body, and changes no record.
A READ_PLAN of no part is refused after the checks of the plan number (R60, R75).  That a transaction of no bytes is BAD_LENGTH, and
that the unknown forms and parts are answered by this command, is assumption 12; a request held behind the answer is assumption 3. -/
def Obligations.BadFrameAnswered : Prop :=
  ∀ (bytes : List Byte) (s : State), WellFormed (.badFrame bytes) = true → ∃ status,
    exec (.badFrame bytes) s = .next { s with link :=
      { s.link with
        miso := presented s bytes.length
        response := some ⟨status, []⟩
        held := waitingFrame s.pending } } ∧
    (bytes.length < 2 → status = .badLength) ∧
    (∀ n kind body, bytes = n :: kind :: body →
      ((63 < n.toNat ∨ bytes.length ≠ n.toNat + 1) → status = .badLength) ∧
      (n.toNat ≤ 63 → bytes.length = n.toNat + 1 →
        ((kind = 0 ∨ 47 < kind.toNat) → status = .badKind) ∧
        (0 < kind.toNat → kind.toNat ≤ 47 →
          (hasForms kind.toNat = false → body.length ≠ (kindWidths kind.toNat).sum → status = .badLength) ∧
          (hasForms kind.toNat = true → body = [] → status = .badLength) ∧
          (∀ b rest, hasForms kind.toNat = true → body = b :: rest →
            (formWidths kind.toNat b.toNat = none → status = .badField) ∧
            (∀ ws, formWidths kind.toNat b.toNat = some ws → body.length ≠ ws.sum → status = .badLength)) ∧
          ∀ plan part first : Byte, kind = 0x17 → body = [plan, part, first] →
            (15 < plan.toNat → status = .badField) ∧
            ∀ p : Fin 16, p.val = plan.toNat →
              (s.plan p = none → status = .notFound) ∧ ((s.plan p).isSome = true → status = .badField))))

/-- R178, R179, R181: with RDY active a null frame clocks out the unread response; in full it leaves the buffer, in part it stays.  With
RDY inactive, no response standing or a request held behind it, the data line shows 0x00, and so it does for a further request, which
is discarded.  With no request held the discard does not come about.  What the part holds, and when, is assumption 3. -/
def Obligations.TransactionsWithoutRequest : Prop :=
  ∀ (n : Nat) (s : State),
    (∀ r, s.link.response = some r → s.link.held = false → r.frame.length ≤ n → exec (.responseRead n) s = .next { s with link :=
      { s.link with miso := r.frame ++ List.replicate (n - r.frame.length) 0, response := none } }) ∧
    (∀ r, s.link.response = some r → s.link.held = false → n < r.frame.length → exec (.responseRead n) s = .next { s with link :=
      { s.link with miso := r.frame.take n } }) ∧
    ((s.link.response = none ∨ s.link.held = true) → exec (.responseRead n) s = .next { s with link :=
      { s.link with miso := List.replicate n 0 } }) ∧
    (s.link.held = true → exec (.requestDiscarded n) s = .next { s with link := { s.link with miso := List.replicate n 0 } }) ∧
    (s.link.held = false → exec (.requestDiscarded n) s = .next s)

/-- R182: a notice raised counts up the entry with its key, or joins the set at its newest end, or is lost with the overflow flag. -/
def Obligations.NoticeRaised : Prop :=
  ∀ (k : NoticeKind) (o : Nat) (s : State),
    ((∃ n ∈ s.link.notices, n.kind = k ∧ n.object = o) →
      raiseNotice k o s = { s with link := { s.link with notices := (raiseNotice k o s).link.notices } } ∧
      (raiseNotice k o s).link.notices.length = s.link.notices.length ∧
      ∀ (i : Nat) (m : Notice), s.link.notices[i]? = some m → (raiseNotice k o s).link.notices[i]? =
        some (if m.kind = k ∧ m.object = o then { m with count := min 255 (m.count + 1) } else m)) ∧
    ((∀ n ∈ s.link.notices, ¬(n.kind = k ∧ n.object = o)) → s.link.notices.length < 32 →
      raiseNotice k o s = { s with link := { s.link with notices := s.link.notices ++ [⟨k, o, 1⟩] } }) ∧
    ((∀ n ∈ s.link.notices, ¬(n.kind = k ∧ n.object = o)) → 32 ≤ s.link.notices.length →
      raiseNotice k o s = { s with link := { s.link with overflow := true } })

/-- R182: the notice set keeps its form at every step: at most 32 entries, counts 1 to 255, no key twice. -/
def Obligations.NoticeSetKeepsForm : Prop :=
  ∀ s t : State, NoticesOk s.link → step s = .next t → NoticesOk t.link

/-- R184: READ_NOTICES returns the oldest entries, up to 12, with the overflow flag and the number left, and takes them out. -/
def Obligations.ReadNoticesTakesOldest : Prop :=
  ∀ s : State, exec .readNotices s = .next { s with link :=
    { answeredLink s 0 .ok (be 1 (min 12 s.link.notices.length) ++ flagByte s.link.overflow ++
        be 1 (s.link.notices.length - 12) ++ (s.link.notices.take 12).flatMap noticeBytes) with
      notices := s.link.notices.drop 12
      overflow := false } }

/-- R183: the ATTN line. -/
def Obligations.AttnLine : Prop :=
  (∀ s : State, s.attn = true ↔ s.link.notices ≠ []) ∧
  (∀ (s : State) k o, s.link.notices = [] → s.attn = false ∧ (raiseNotice k o s).attn = true) ∧
  (∀ s t : State, exec .readNotices s = .next t → (t.attn = false ↔ t.link.notices = [])) ∧
  (∀ (s : State) k o, (∃ n ∈ s.link.notices, n.kind = k ∧ n.object = o) → (raiseNotice k o s).attn = s.attn) ∧
  State.reset.attn = false ∧
  (∀ s t : State, exec .reset s = .next t → t.attn = false) ∧
  (∀ s t : State, exec .powerOn s = .next t → t.attn = false)

/-! ## Reset -/

/-- R8, R36, R21: the Stock Table and the Job Table after reset. -/
def Obligations.ResetStockAndJobs : Prop :=
  State.reset.stock.slabs = [] ∧ (∀ r, rackList r State.reset.stock = []) ∧
  (∀ r : Fin 32, State.reset.stock.classes.get r = if r.val ≤ 27 then .slab else .remnant) ∧
  State.reset.stock.nextSerial = 0xF00000 ∧
  (∀ j : Fin 64, j ≠ 0 → State.reset.job j = none) ∧
  (∃ b, State.reset.job 0 = some b ∧ b.state = .opened ∧ b.level = 0 ∧ b.budget = 0 ∧ b.hold = false ∧ b.overBudget = false ∧
    b.openCount = 0 ∧ ∀ c, getAcc b.cost c = ⟨0, false⟩) ∧
  State.reset.jobs.pieces = [] ∧
  (∀ s t : State, exec .reset s = .next t → t.stock = State.reset.stock ∧ t.jobs = State.reset.jobs) ∧
  ∀ s t : State, exec .powerOn s = .next t → t.stock = State.reset.stock ∧ t.jobs = State.reset.jobs

/-- The records after reset that the manual gives (R39, R76, R98, R112, R115, R117, R127, R134, R153, R188), and that RESET and power-on
bring every block to them.  The blocks are compared whole, so that the model's own fields are too: the marks of due station events
(assumption 2), the request held (assumption 3) and the record of the data line (assumption 14). -/
def Obligations.ResetOthers : Prop :=
  (∀ p : Fin 16, State.reset.plan p = none) ∧ State.reset.plans.queue = [] ∧ State.reset.engine.current = none ∧
  State.reset.engine.nextNumber = 0 ∧ State.reset.engine.shortMin = 300 ∧ State.reset.engine.longMin = 600 ∧
  (∀ st : Fin 6, (State.reset.station st).mode = .offline ∧ (State.reset.station st).kerf = 4 ∧
    (State.reset.station st).life = 0 ∧ (State.reset.station st).bladeMeter = 0 ∧ worn (State.reset.station st) = true ∧
    (State.reset.station st).maxThick = 60 ∧ (State.reset.station st).queue = [] ∧ (State.reset.station st).current = none ∧
    (State.reset.station st).next = none ∧ (State.reset.station st).issued = none ∧ (State.reset.station st).spindle = false ∧
    (State.reset.station st).spindleRun = 0 ∧ (State.reset.station st).runMeter = 0 ∧ (State.reset.station st).waterMeter = 0 ∧
    (State.reset.station st).remainder = 0 ∧ (State.reset.station st).runSnap = 0 ∧ (State.reset.station st).waterSnap = 0 ∧
    (State.reset.station st).dryTimer = 0 ∧ (State.reset.station st).dryCount = 0 ∧ (State.reset.station st).flow = 120 ∧
    (State.reset.station st).holdSetting = 60 ∧ (State.reset.station st).machineRate = 0 ∧ (State.reset.station st).hold = none ∧
    State.reset.permit st = false ∧ State.reset.valve st = false) ∧
  State.reset.arbiter.pending = [] ∧ State.reset.arbiter.grants = [] ∧ State.reset.arbiter.capacity = 4 ∧
  State.reset.arbiter.table.toList = [7, 5, 3, 1, 0, 0, 0, 0] ∧ State.reset.arbiter.stamp = 1 ∧ State.reset.arbiter.floor = 7 ∧
  State.reset.plant.cycle = .idle ∧ State.reset.plant.started = false ∧ State.reset.plant.mode = .repeating ∧
  State.reset.plant.counter = 0 ∧ State.reset.plant.batches = 0 ∧ State.reset.plant.remembered = none ∧
  State.reset.plant.bufferMode = false ∧ State.reset.plant.sump = ⟨0, 0, 0⟩ ∧ State.reset.plant.settling = ⟨0, 0, 0⟩ ∧
  State.reset.plant.clean = ⟨0, 0, 0⟩ ∧ State.reset.plant.turbidity = ⟨false, false, 0⟩ ∧
  State.reset.plant.active = ⟨120, 1800, 60, 900, 6, 4, 5, 2⟩ ∧ State.reset.plant.buffered = ⟨120, 1800, 60, 900, 6, 4, 5, 2⟩ ∧
  (∀ c : Fin 32, State.reset.rates.material.get c = 0) ∧ State.reset.rates.water = 0 ∧
  State.reset.rdy = false ∧ State.reset.link.notices = [] ∧ State.reset.link.overflow = false ∧ State.reset.link.mode = .loading ∧
  transferLine State.reset.plant.cycle = false ∧ doseLine State.reset.plant.cycle = false ∧
  decantLine State.reset.plant.cycle = false ∧ sludgeLine State.reset.plant.cycle = false ∧
  ∀ s t : State, exec .reset s = .next t ∨ exec .powerOn s = .next t →
    t.stock = State.reset.stock ∧ t.jobs = State.reset.jobs ∧ t.plans = State.reset.plans ∧
      t.engine = State.reset.engine ∧ t.stations = State.reset.stations ∧ t.arbiter = State.reset.arbiter ∧
      t.plant = State.reset.plant ∧ t.rates = State.reset.rates ∧ t.link = State.reset.link

/-- The invariants hold after reset. -/
def Obligations.ResetIsSafe : Prop :=
  NoticesOk State.reset.link ∧ AccountsOk State.reset ∧ OverheadOk State.reset ∧ FloorOk State.reset ∧ WaterOk State.reset ∧
    CapacityOk State.reset ∧ RecordsOk State.reset

/-! ## The Stock Table -/

/-- R9: an admission that passes the six checks enters the record as given, AVAILABLE, of generation 0, at the front of its rack. -/
def Obligations.AdmitSlabEnters : Prop :=
  ∀ (s : State) (serial check kind : Nat) (k : SlabKind) (material : Fin 32) (thickness nomLen nomWid head tail near far : Nat)
    (rack : Fin 32),
    tagValid serial check = true → serial < 0xF00000 → findSlab serial s.stock = none → kindOf kind = some k →
    10 ≤ thickness → thickness ≤ 60 → 300 ≤ nomLen → nomLen ≤ 3800 → 200 ≤ nomWid → nomWid ≤ 2300 →
    head ≤ 200 → tail ≤ 200 → near ≤ 200 → far ≤ 200 →
    300 ≤ nomLen - head - tail → nomLen - head - tail ≤ 3600 → 200 ≤ nomWid - near - far → nomWid - near - far ≤ 2100 →
    s.stock.slabs.length < 512 → (rackList rack s.stock).length < 16 →
    ∃ k', exec (.admitSlab serial check kind material thickness nomLen nomWid head tail near far rack) s =
        .next { s with
          stock := k'
          link := answeredLink s 16 .ok (slabBody k'
            ⟨serial, k, material, thickness, nomLen, nomWid, head, tail, near, far, .available, .rack rack, none, none, 0⟩) } ∧
      OnlyRecord s.stock k' serial
        (some ⟨serial, k, material, thickness, nomLen, nomWid, head, tail, near, far, .available, .rack rack, none, none, 0⟩) ∧
      rackList rack k' = serial :: rackList rack s.stock ∧ ∀ r, r ≠ rack → rackList r k' = rackList r s.stock

/-- R10, R3: FIND_SLAB in every case.  What `answered` says of a request held behind the answer is assumption 3, and of the record of the
data line assumption 14. -/
def Obligations.FindSlabReports : Prop :=
  ∀ (s : State) (serial check : Nat),
    (tagValid serial check = false → exec (.findSlab serial check) s = .next (answered s 4 .badTag [])) ∧
    (tagValid serial check = true → findSlab serial s.stock = none →
      exec (.findSlab serial check) s = .next (answered s 4 .notFound [])) ∧
    ∀ x, tagValid serial check = true → findSlab serial s.stock = some x →
      exec (.findSlab serial check) s = .next (answered s 4 .ok (slabBody s.stock x))

/-- R11, R12: LIST_STOCK answers the number of matching records and the first 12 serials, by usable area and then serial. -/
def Obligations.ListStockSearches : Prop :=
  ∀ (s : State) (material minLen minWid selector : Nat) (kind : Option SlabKind),
    material ≤ 31 → minLen ≤ 3600 → minWid ≤ 3600 → selectorOf selector = some kind →
    ∃ l : List Slab,
      exec (.listStock material minLen minWid selector) s = .next (answered s 6 .ok
        (be 2 l.length ++ be 1 (min 12 l.length) ++ (l.take 12).flatMap fun x => be 3 x.serial)) ∧
      l.Perm (s.stock.slabs.filter fun x => decide (x.state = .available ∧ x.material.val = material ∧
        (kind = none ∨ kind = some x.kind) ∧
        ((minLen ≤ x.usableLen ∧ minWid ≤ x.usableWid) ∨ (minWid ≤ x.usableLen ∧ minLen ≤ x.usableWid)))) ∧
      l.Pairwise fun x y => x.usableArea < y.usableArea ∨ (x.usableArea = y.usableArea ∧ x.serial ≤ y.serial)

/-- R13: MOVE_SLAB from the front of a rack, or UNRACKED, to the front of another rack with room; to its own rack; and BLOCKED. -/
def Obligations.MoveSlabMoves : Prop :=
  ∀ (s : State) (serial check : Nat) (x : Slab) (rack : Fin 32),
    tagValid serial check = true → findSlab serial s.stock = some x → x.state ≠ .onSaw →
    (0 < position x s.stock →
      exec (.moveSlab serial check rack) s = .next (answered s 5 .blocked (be 1 (position x s.stock)))) ∧
    (position x s.stock = 0 → x.place = .rack rack →
      exec (.moveSlab serial check rack) s = .next (answered s 5 .ok (slabBody s.stock x))) ∧
    (position x s.stock = 0 → x.place ≠ .rack rack → (rackList rack s.stock).length < 16 →
      ∃ k', exec (.moveSlab serial check rack) s =
          .next { s with stock := k', link := answeredLink s 5 .ok (slabBody k' { x with place := .rack rack }) } ∧
        OnlyRecord s.stock k' serial (some { x with place := .rack rack }) ∧
        rackList rack k' = serial :: rackList rack s.stock ∧
        ∀ r, r ≠ rack →
          (x.place = .rack r → rackList r k' = (rackList r s.stock).erase serial) ∧
          (x.place ≠ .rack r → rackList r k' = rackList r s.stock))

/-- R14, R15: HOLD_SLAB, RELEASE_SLAB and TRIM_SLAB change one record where it stands. -/
def Obligations.HoldReleaseTrim : Prop :=
  ∀ (s : State) (serial check : Nat) (x : Slab), tagValid serial check = true → findSlab serial s.stock = some x →
    (x.state = .available → ∃ k', exec (.holdSlab serial check) s =
        .next { s with stock := k', link := answeredLink s 4 .ok (slabBody k' { x with state := .held }) } ∧
      RecordReplaced s.stock k' { x with state := .held }) ∧
    (x.state = .held → ∃ k', exec (.releaseSlab serial check) s =
        .next { s with stock := k', link := answeredLink s 4 .ok (slabBody k' { x with state := .available }) } ∧
      RecordReplaced s.stock k' { x with state := .available }) ∧
    ∀ head tail near far : Nat, x.state = .available ∨ x.state = .held →
      head ≤ 200 → tail ≤ 200 → near ≤ 200 → far ≤ 200 →
      300 ≤ x.nomLen - head - tail → x.nomLen - head - tail ≤ 3600 →
      200 ≤ x.nomWid - near - far → x.nomWid - near - far ≤ 2100 →
      ∃ k', exec (.trimSlab serial check head tail near far) s =
          .next { s with
            stock := k'
            link := answeredLink s 8 .ok (slabBody k' { x with head := head, tail := tail, near := near, far := far }) } ∧
        RecordReplaced s.stock k' { x with head := head, tail := tail, near := near, far := far }

/-- R16, R6: RETIRE_SLAB takes an AVAILABLE or HELD record at the front out of its rack and the table; SET_RACK_CLASS sets one class. -/
def Obligations.RetireAndClass : Prop :=
  (∀ (s : State) (serial check : Nat) (x : Slab), tagValid serial check = true → findSlab serial s.stock = some x →
    x.state = .available ∨ x.state = .held →
    (0 < position x s.stock →
      exec (.retireSlab serial check) s = .next (answered s 4 .blocked (be 1 (position x s.stock)))) ∧
    (position x s.stock = 0 →
      ∃ k', exec (.retireSlab serial check) s = .next { s with stock := k', link := answeredLink s 4 .ok [] } ∧
        OnlyRecord s.stock k' serial none ∧ LeftRack s.stock k' x)) ∧
  ∀ (s : State) (rack : Fin 32) (cls : Nat) (c : SlabKind), kindOf cls = some c →
    exec (.setRackClass rack cls) s = .next { s with
      stock := { s.stock with classes := s.stock.classes.set rack c }
      link := answeredLink s 2 .ok (be 1 rack ++ be 1 cls ++ be 1 (rackList rack s.stock).length) }

/-- R1, R5, R23, R57: no step takes a collection past its capacity.  Within those capacities, no step parts the records of different
blocks: slabs and the plans that name them (R4), slabs and the racks that list them (R5), pieces, plans and placements (R24, R57, R59),
open-placement counts (R26), the layout queue and the engine (R37, R65), stations, their plans, queues and issued entries (R71, R78,
R85). -/
def Obligations.CapacitiesKept : Prop :=
  (∀ s t : State, CapacityOk s → step s = .next t → CapacityOk t) ∧
  ∀ s t : State, CapacityOk s → RecordsOk s → step s = .next t → RecordsOk t

/-! ## The Job Table -/

/-- R29, R35: OPEN_JOB opens a free slot with the fields given and empty accounts, and a slot in use is DUPLICATE; CLOSE_JOB of a job with
no work standing answers its summary, deletes its pieces and frees its slot.  That OPEN_JOB's body is the job summary alone is assumption
10; that a budget of 2^32 or more, which only an ill-formed OPEN_JOB carries, is stored as given is assumption 17. -/
def Obligations.OpenAndCloseJob : Prop :=
  (∀ (s : State) (j : Fin 64) (level budget hold : Nat),
    (∀ b, s.job j = some b → exec (.openJob j level budget hold) s = .next (answered s 7 .duplicate [])) ∧
    ∀ (h : Bool) (b : Job), s.job j = none → flagOf hold = some h →
      b = ⟨.opened, min level 7, budget, h, false, 0, ⟨⟨0, false⟩, ⟨0, false⟩, ⟨0, false⟩, ⟨0, false⟩, ⟨0, false⟩⟩⟩ →
      exec (.openJob j level budget hold) s = .next { s with
        jobs := { s.jobs with slots := s.jobs.slots.set j (some b) }
        link := answeredLink s 7 .ok (jobSummary j b s.jobs) }) ∧
  ∀ (s : State) (j : Fin 64) (b : Job), j ≠ 0 → s.job j = some b → b.openCount = 0 →
    (∀ x ∈ s.jobs.pieces, x.id.job = j → x.state = .unplanned ∨ x.state = .cut ∨ x.state = .held) →
    exec (.closeJob j) s = .next { s with
      jobs := { slots := s.jobs.slots.set j none, pieces := s.jobs.pieces.filter fun x => decide (x.id.job ≠ j) }
      link := answeredLink s 1 .ok (costSummary b.cost) }

/-- R30: ADD_PIECE gives the lowest free index to an UNPLANNED piece of the size and grain given. -/
def Obligations.AddPieceAdds : Prop :=
  ∀ (s : State) (j : Fin 64) (b : Job) (len wid grain : Nat) (g : Grain),
    j ≠ 0 → s.job j = some b → b.state = .opened → 50 ≤ len → len ≤ 3600 → 50 ≤ wid → wid ≤ 2100 → grainOf grain = some g →
    (jobPieces j s.jobs).length < 48 → s.jobs.pieces.length < 1024 →
    ∃ (i : Nat) (t' : JobTable), i < 48 ∧ findPiece ⟨j, i⟩ s.jobs = none ∧
      (∀ i', i' < i → (findPiece ⟨j, i'⟩ s.jobs).isSome = true) ∧
      exec (.addPiece j len wid grain) s = .next { s with
        jobs := t'
        link := answeredLink s 6 .ok (pieceBody ⟨⟨j, i⟩, len, wid, g, .unplanned, none, 0⟩) } ∧
      OnlyPiece s.jobs t' ⟨j, i⟩ (some ⟨⟨j, i⟩, len, wid, g, .unplanned, none, 0⟩)

/-- R31, R32: DELETE_PIECE removes an UNPLANNED or HELD piece, and RELEASE_PIECE returns a HELD piece to planning with spoil count 0. -/
def Obligations.DeleteAndReleasePiece : Prop :=
  ∀ (s : State) (j : Fin 64) (b : Job) (idx : Nat) (x : Piece),
    s.job j = some b → idx ≤ 47 → findPiece ⟨j, idx⟩ s.jobs = some x →
    (x.state = .unplanned ∨ x.state = .held →
      ∃ t', exec (.deletePiece j idx) s = .next { s with jobs := t', link := answeredLink s 2 .ok [] } ∧
        OnlyPiece s.jobs t' ⟨j, idx⟩ none) ∧
    (b.state = .opened → x.state = .held →
      ∃ t', exec (.releasePiece j idx) s = .next { s with
          jobs := t'
          link := answeredLink s 2 .ok (pieceBody { x with state := .unplanned, plan := none, spoil := 0 }) } ∧
        OnlyPiece s.jobs t' ⟨j, idx⟩ (some { x with state := .unplanned, plan := none, spoil := 0 }))

/-- R33: SET_JOB replaces the three settings, settles the over-budget flag against the total, and raises BUDGET when it becomes set.  That
its body is the job summary alone is assumption 10; that a budget of 2^32 or more, which only an ill-formed SET_JOB carries, is stored
as given is assumption 17. -/
def Obligations.SetJobReplaces : Prop :=
  ∀ (s : State) (j : Fin 64) (b : Job) (level budget hold : Nat) (h passed : Bool),
    j ≠ 0 → s.job j = some b → flagOf hold = some h → passed = decide (0 < budget ∧ budget ≤ totalCents b.cost) →
    exec (.setJob j level budget hold) s = .next { s with
      jobs := { s.jobs with slots := s.jobs.slots.set j (some
        { b with level := min level 7, budget := budget, hold := h, overBudget := passed }) }
      link := if passed = true ∧ b.overBudget = false then
          postNotice .budget j (answeredLink s 7 .ok (jobSummary j
            { b with level := min level 7, budget := budget, hold := h, overBudget := passed } s.jobs))
        else answeredLink s 7 .ok (jobSummary j
            { b with level := min level 7, budget := budget, hold := h, overBudget := passed } s.jobs) }

/-- R34, R75, R114, R133, R148: the reading requests answer with the record as it stands and change none.  The index to read on, and
STRIPS without one, are assumption 10; the byte forms of the reports are assumptions 9 and 18 (a line's level as a flag). -/
def Obligations.ReadsReport : Prop :=
  (∀ (s : State) (j : Fin 64) (b : Job) (first : Nat), s.job j = some b →
    (first ≤ 47 → exec (.readJob j first) s = .next (answered s 2 .ok (readJobBody j first b s.jobs))) ∧
    exec (.readCost j) s = .next (answered s 1 .ok (costReport j b))) ∧
  (∀ (s : State) (p : Fin 16) (x : Plan) (first : Nat), s.plan p = some x → first ≤ 31 →
    exec (.readPlanSummary p first) s = .next (answered s 3 .ok (planSummary p x s)) ∧
    exec (.readPlanPieces p first) s = .next (answered s 3 .ok
      (countedList pieceIdBytes ((x.pieces.drop first).take 16) ++ optByte (readOn first 16 x.pieces))) ∧
    ∀ l, layoutOf x = some l →
      exec (.readPlanStrips p first) s = .next (answered s 3 .ok (countedList stripBytes l.strips)) ∧
      exec (.readPlanPlacements p first) s = .next (answered s 3 .ok
        (countedList placementBytes ((l.placements.drop first).take 4) ++ optByte (readOn first 4 l.placements))) ∧
      exec (.readPlanUnfit p first) s = .next (answered s 3 .ok
        (countedList unfitBytes ((l.unfit.drop first).take 16) ++ optByte (readOn first 16 l.unfit)))) ∧
  (∀ (s : State) (st : Fin 6), exec (.readWaterStation st) s = .next (answered s 2 .ok (waterStationBody st s))) ∧
  (∀ s : State, exec .readWaterArbiter s = .next (answered s 1 .ok (waterArbiterBody s))) ∧
  ∀ s : State, exec .readPlant s = .next (answered s 0 .ok (plantReport s.plant))

/-- R21: the fixed fields of job 0 stay fixed, and it never has a piece. -/
def Obligations.OverheadStaysFixed : Prop :=
  ∀ s t : State, OverheadOk s → step s = .next t → OverheadOk t

/-! ## Plans -/

/-- R61, R17: OPEN_PLAN takes the lowest FREE slot and reserves the slab where it stands. -/
def Obligations.OpenPlanReserves : Prop :=
  ∀ (s : State) (serial check : Nat) (st : Fin 6) (b : Slab) (p : Fin 16),
    tagValid serial check = true → findSlab serial s.stock = some b → b.state = .available →
    b.thickness ≤ (s.station st).maxThick → s.plan p = none → (∀ q, q < p → (s.plan q).isSome = true) →
    ∃ t, exec (.openPlan serial check st) s = .next t ∧
      t = { s with
        stock := t.stock
        plans := { s.plans with slots := s.plans.slots.set p (some ⟨serial, st, [], false, .draft⟩) }
        link := answeredLink s 5 .ok (planSummary p ⟨serial, st, [], false, .draft⟩ t) } ∧
      RecordReplaced s.stock t.stock { b with state := .reserved, plan := some p }

/-- R62, R63: PLAN_ADD drafts a piece into a DRAFT or LAID plan and PLAN_REMOVE takes one out; a LAID plan drops its layout. -/
def Obligations.PlanAddAndRemove : Prop :=
  ∀ (s : State) (p : Fin 16) (x : Plan) (j : Fin 64) (b : Job) (idx : Nat) (y : Piece),
    s.plan p = some x → (x.phase = .draft ∨ ∃ k l, x.phase = .laid k l) →
    s.job j = some b → idx ≤ 47 → findPiece ⟨j, idx⟩ s.jobs = some y →
    (b.state = .opened → y.state = .unplanned → x.pieces.length < 32 →
      ∃ t, exec (.planAdd p j idx) s = .next t ∧
        t = { s with
          jobs := t.jobs
          plans := { s.plans with
            slots := s.plans.slots.set p (some { x with pieces := x.pieces ++ [⟨j, idx⟩], phase := .draft }) }
          link := answeredLink s 3 .ok (planSummary p { x with pieces := x.pieces ++ [⟨j, idx⟩], phase := .draft } t) } ∧
        OnlyPiece s.jobs t.jobs ⟨j, idx⟩ (some { y with state := .drafted, plan := some p })) ∧
    (⟨j, idx⟩ ∈ x.pieces →
      ∃ t, exec (.planRemove p j idx) s = .next t ∧
        t = { s with
          jobs := t.jobs
          plans := { s.plans with
            slots := s.plans.slots.set p (some { x with pieces := x.pieces.filter fun i => i != ⟨j, idx⟩, phase := .draft }) }
          link := answeredLink s 3 .ok
            (planSummary p { x with pieces := x.pieces.filter fun i => i != ⟨j, idx⟩, phase := .draft } t) } ∧
        OnlyPiece s.jobs t.jobs ⟨j, idx⟩ (some { y with state := .unplanned, plan := none }))

/-- R64, R65, R37, R38: LAYOUT puts a plan at the tail of the layout queue, and the idle engine takes the head with fresh captures.  That
the engine takes by a command of its own, which changes nothing with the engine at work or the queue empty, is assumption 7. -/
def Obligations.LayoutAndTake : Prop :=
  (∀ (s : State) (p : Fin 16) (x : Plan), s.plan p = some x → (x.phase = .draft ∨ ∃ k l, x.phase = .laid k l) → x.pieces ≠ [] →
    exec (.layout p) s = .next { s with
      plans := { slots := s.plans.slots.set p (some { x with phase := .laying none }), queue := s.plans.queue ++ [p] }
      link := answeredLink s 1 .accepted (be 1 s.plans.queue.length) }) ∧
  (∀ (s : State) (p : Fin 16) (rest : List (Fin 16)) (x : Plan) (n : Option Nat) (b : Slab),
    s.engine.current = none → s.plans.queue = p :: rest → s.plan p = some x → x.phase = .laying n →
    findSlab x.serial s.stock = some b →
    exec .engineTake s = .next { s with
      plans := { slots := s.plans.slots.set p (some { x with phase := .laying (some s.engine.nextNumber) }), queue := rest }
      engine := { s.engine with
        current := some
          { plan := p
            number := s.engine.nextNumber
            cap :=
              { ul := b.usableLen
                uw := b.usableWid
                kerf := (s.station x.station).kerf
                pieces := x.pieces.filterMap fun i => (findPiece i s.jobs).map fun y => ⟨y.id, y.len, y.wid, y.grain⟩
                shortMin := s.engine.shortMin
                longMin := s.engine.longMin }
            work := ⟨[], [], [], 0⟩ }
        nextNumber := (s.engine.nextNumber + 1) % 65536 } }) ∧
  ∀ s : State, s.engine.current.isSome = true ∨ s.plans.queue = [] → exec .engineTake s = .next s

/-- R40, R67: a completed computation is accepted, discarded with the plan queued again, or discarded with no record changed.  That the
computation is run whole at its completion is assumption 6; that LAYOUT_COMPLETE changes nothing on an idle engine is assumption 7. -/
def Obligations.LayoutCompletes : Prop :=
  (∀ s : State, s.engine.current = none → exec .layoutComplete s = .next s) ∧
  ∀ (s : State) (c : Computation) (l : Layout), s.engine.current = some c → l = layoutRecord c.cap (placeAll c.cap c.work) →
    (∀ x, s.plan c.plan = some x → x.phase = .laying (some c.number) → c.plan ∉ s.plans.queue →
      (x.pieces.Perm (l.placements.map (fun y => y.piece) ++ l.unfit.map fun y => y.piece) →
        exec .layoutComplete s = .next { s with
          engine := { s.engine with current := none }
          plans := { s.plans with
            slots := s.plans.slots.set c.plan (some { x with stale := false, phase := .laid c.cap.kerf l }) }
          link := postNotice .laid c.plan s.link }) ∧
      (¬(∀ i, i ∈ x.pieces ↔ i ∈ l.placements.map (fun y => y.piece) ++ l.unfit.map fun y => y.piece) →
        exec .layoutComplete s = .next { s with
          engine := { s.engine with current := none }
          plans :=
            { slots := s.plans.slots.set c.plan (some { x with stale := true, phase := .laying none })
              queue := s.plans.queue ++ [c.plan] } })) ∧
    ((s.plan c.plan = none ∨ (∃ x, s.plan c.plan = some x ∧ x.phase ≠ .laying (some c.number)) ∨ c.plan ∈ s.plans.queue) →
      exec .layoutComplete s = .next { s with engine := { s.engine with current := none } })

/-- R70, R26: the effects of a COMMIT that passes its checks. -/
def Obligations.CommitTakesEffect : Prop :=
  ∀ (s : State) (p : Fin 16) (x x' : Plan) (kerf : Nat) (l : Layout) (b : Slab),
    s.plan p = some x → x.phase = .laid kerf l → l.placements ≠ [] → (s.station x.station).mode ≠ .offline →
    ((s.station x.station).current = none ∨ (s.station x.station).next = none) → (s.station x.station).kerf ≤ kerf →
    findSlab x.serial s.stock = some b →
    x' = { x with
      phase := .committed kerf { l with placements := l.placements.map fun y => { y with state := some .queued } }
        (s.rates.material.get b.material) } →
    ∃ t, exec (.commit p) s = .next t ∧
      t = { s with
        jobs := t.jobs
        plans := { s.plans with slots := s.plans.slots.set p (some x') }
        stations := s.stations.set x.station { s.station x.station with
          queue := (s.station x.station).queue ++ l.placements.mapIdx fun i y => ⟨p, i, y.piece⟩
          current := if (s.station x.station).current = none then some p else (s.station x.station).current
          next := if (s.station x.station).current = none then (s.station x.station).next else some p }
        link := answeredLink s 1 .ok (planSummary p x' t) } ∧
      (∀ j, t.job j = (s.job j).map fun c =>
        { c with openCount := c.openCount + l.placements.countP fun y => decide (y.piece.job = j) }) ∧
      ∀ i,
        (i ∈ l.placements.map (fun y => y.piece) → i ∉ l.unfit.map (fun y => y.piece) →
          findPiece i t.jobs = (findPiece i s.jobs).map fun y => { y with state := .queued }) ∧
        (i ∉ l.placements.map (fun y => y.piece) → i ∈ l.unfit.map (fun y => y.piece) →
          findPiece i t.jobs = (findPiece i s.jobs).map fun y => { y with state := .unplanned, plan := none }) ∧
        (i ∉ l.placements.map (fun y => y.piece) → i ∉ l.unfit.map (fun y => y.piece) →
          findPiece i t.jobs = findPiece i s.jobs)

/-- R72 to R74, R82, R105, R111: ABANDON of a plan before its commitment, and of a COMMITTED plan that is its station's next plan, or its
current plan, while the station has neither grant nor request or has one: the grant is then released, its meters charged to job 0, the
request withdrawn, and arbitration runs (Unwound; `arbitrate` by statement SetWaterStores, `chargeMeters` by statement ChargeAdds).
That the engine's computation ends within the ABANDON is assumption 6. -/
def Obligations.AbandonUnwinds : Prop :=
  ∀ (s : State) (p : Fin 16) (x : Plan) (b : Slab), s.plan p = some x → findSlab x.serial s.stock = some b →
    (isCommitted x = false → isCutting x = false →
      ∃ t, exec (.abandon p) s = .next t ∧
        t = { s with
          stock := t.stock
          jobs := t.jobs
          engine := { s.engine with current := match s.engine.current with
            | some c => if x.phase = .laying (some c.number) then none else some c
            | none => none }
          plans :=
            { slots := s.plans.slots.set p none
              queue := if isLaying x then s.plans.queue.filter (fun q => q != p) else s.plans.queue }
          link := answeredLink s 1 .ok [] } ∧
        (∀ i, i ∈ x.pieces → findPiece i t.jobs = (findPiece i s.jobs).map fun y => { y with state := .unplanned, plan := none }) ∧
        (∀ i, i ∉ x.pieces → findPiece i t.jobs = findPiece i s.jobs) ∧ t.jobs.slots = s.jobs.slots ∧
        RecordReplaced s.stock t.stock { b with state := .available, plan := none }) ∧
    (∀ kerf l rate, x.phase = .committed kerf l rate → (s.station x.station).current ≠ (s.station x.station).next →
      ((s.station x.station).next = some p ∨
        ((s.station x.station).current = some p ∧ s.grant x.station = none ∧ s.request x.station = none)) →
      ∃ t, exec (.abandon p) s = .next t ∧
        t = { s with
          stock := t.stock
          jobs := t.jobs
          plans := { s.plans with slots := s.plans.slots.set p none }
          stations := s.stations.set x.station
            (if (s.station x.station).current = some p then
              { s.station x.station with
                queue := (s.station x.station).queue.filter fun e => e.plan != p
                mode := if (s.station x.station).mode = .loaded then .ready else (s.station x.station).mode
                current := (s.station x.station).next
                next := none }
            else
              { s.station x.station with
                queue := (s.station x.station).queue.filter fun e => e.plan != p
                next := none })
          link := answeredLink s 1 .ok [] } ∧
        (∀ j, t.job j = (s.job j).map fun c =>
          { c with openCount := c.openCount - l.placements.countP fun y => decide (y.piece.job = j) }) ∧
        (∀ i, (∃ y ∈ l.placements, y.piece = i ∧ y.state = some .queued) →
          findPiece i t.jobs = (findPiece i s.jobs).map fun y => { y with state := .unplanned, plan := none }) ∧
        (∀ i, (¬∃ y ∈ l.placements, y.piece = i ∧ y.state = some .queued) → findPiece i t.jobs = findPiece i s.jobs) ∧
        RecordReplaced s.stock t.stock { b with state := .available, plan := none }) ∧
    ∀ kerf l rate, WaterOk s → x.phase = .committed kerf l rate → (s.station x.station).current = some p →
      ∃ t, exec (.abandon p) s = .next t ∧ Unwound p x l b { s with link := { s.link with miso := presented s 3 } } t ∧
        t.link.response = some ⟨.ok, []⟩ ∧ t.link.held = waitingFrame s.pending

/-! ## The layout computation -/

/-- R49: in every layout each placement lies within the usable rectangle, any two are at least the kerf apart, and the yield is the
placed area as a Q15 fraction of the usable area, at most 32,768. -/
def Obligations.LayoutIsSound : Prop :=
  ∀ (c : Captures) (l : Layout), l = layoutRecord c (placeAll c ⟨[], [], [], 0⟩) →
    (∀ x ∈ l.placements, x.x + x.xe ≤ c.ul ∧ x.y + x.ye ≤ c.uw) ∧
    (l.placements.Pairwise fun a b => a.x + a.xe + c.kerf ≤ b.x ∨ b.x + b.xe + c.kerf ≤ a.x ∨
      a.y + a.ye + c.kerf ≤ b.y ∨ b.y + b.ye + c.kerf ≤ a.y) ∧
    l.yieldQ15 = l.placed * 32768 / (c.ul * c.uw) ∧ l.placed = (l.placements.map fun x => x.xe * x.ye).sum ∧ l.yieldQ15 ≤ 32768

/-- R42 to R48, R50, R51, R54: how a layout is made, and what it accounts for.  Each captured piece is oriented, the pieces are taken in
the order of R43, and each in its turn is too large, or goes into the first strip that fits it, or opens a new strip, or finds no room.
Every captured piece stands in exactly one of the two lists, there are at most 8 strips, and the candidate lies clear of every
placement by the kerf.  It is the larger of the two rectangles that meet both minimums, the TOP of equals, and there is none only where
neither meets them. -/
def Obligations.LayoutAccountsForPieces : Prop :=
  (∀ (c : Captures) (l : Layout), l = layoutRecord c (placeAll c ⟨[], [], [], 0⟩) →
    (l.placements.map (fun x => x.piece) ++ l.unfit.map fun x => x.piece).Perm (c.pieces.map fun x => x.id) ∧
    l.strips.length ≤ 8 ∧
    (l.candidate.kind = .top → l.candidate.len = c.ul ∧ 0 < l.candidate.wid ∧ l.candidate.wid ≤ c.uw ∧
      ∀ x ∈ l.placements, x.y + x.ye + c.kerf ≤ c.uw - l.candidate.wid) ∧
    (l.candidate.kind = .tail → l.candidate.wid = c.uw ∧ 0 < l.candidate.len ∧ l.candidate.len ≤ c.ul ∧
      ∀ x ∈ l.placements, x.x + x.xe + c.kerf ≤ c.ul - l.candidate.len) ∧
    (l.placements = [] → l.candidate = ⟨.none, 0, 0⟩)) ∧
  -- R42: orientation
  (∀ (ul : Nat) (q : CapPiece), (orient ul q).id = q.id ∧
    (q.grain = .fixed → (orient ul q).xe = q.len ∧ (orient ul q).ye = q.wid) ∧
    (q.grain = .free → max q.len q.wid ≤ ul → (orient ul q).xe = max q.len q.wid ∧ (orient ul q).ye = min q.len q.wid) ∧
    (q.grain = .free → ul < max q.len q.wid → (orient ul q).xe = min q.len q.wid ∧ (orient ul q).ye = max q.len q.wid) ∧
    ((orient ul q).rotated = true ↔ (orient ul q).xe ≠ q.len)) ∧
  -- R43: the order of placement
  (∀ (c : Captures) (w : Work), ∃ order : List Oriented, placeAll c w = order.foldl (placePiece c) w ∧
    order.Perm (c.pieces.map (orient c.ul)) ∧
    order.Pairwise fun a b => b.ye < a.ye ∨ (a.ye = b.ye ∧ (b.xe < a.xe ∨ (a.xe = b.xe ∧
      (a.id.job < b.id.job ∨ (a.id.job = b.id.job ∧ a.id.idx ≤ b.id.idx)))))) ∧
  -- R45 to R47: the turn of one piece
  (∀ (c : Captures) (w : Work) (o : Oriented),
    ((c.ul < o.xe ∨ c.uw < o.ye) → placePiece c w o = { w with unfit := w.unfit ++ [⟨o.id, .tooLarge⟩] }) ∧
    (o.xe ≤ c.ul → o.ye ≤ c.uw →
      (∀ (i : Nat) (x : Strip), w.strips[i]? = some x → o.ye ≤ x.height → x.cursor + o.xe ≤ c.ul →
        (∀ (k : Nat) (y : Strip), k < i → w.strips[k]? = some y → y.height < o.ye ∨ c.ul < y.cursor + o.xe) →
        placePiece c w o = { w with
          strips := w.strips.set i { x with cursor := x.cursor + o.xe + c.kerf }
          placements := w.placements ++ [⟨o.id, i + 1, x.cursor, x.y, o.xe, o.ye, o.rotated, none⟩] }) ∧
      ((∀ x ∈ w.strips, x.height < o.ye ∨ c.ul < x.cursor + o.xe) →
        (w.strips.length < 8 → w.nextY + o.ye ≤ c.uw → placePiece c w o = { w with
          strips := w.strips ++ [⟨w.nextY, o.ye, o.xe + c.kerf⟩]
          placements := w.placements ++ [⟨o.id, w.strips.length + 1, 0, w.nextY, o.xe, o.ye, o.rotated, none⟩]
          nextY := w.nextY + o.ye + c.kerf }) ∧
        ((8 ≤ w.strips.length ∨ c.uw < w.nextY + o.ye) →
          placePiece c w o = { w with unfit := w.unfit ++ [⟨o.id, .noRoom⟩] })))) ∧
  -- R48: the placement list, by strip and then in the order set
  (∀ (c : Captures) (w : Work), (∀ x ∈ w.placements, 1 ≤ x.strip ∧ x.strip ≤ 8) →
    (layoutRecord c w).placements.Perm w.placements ∧
    ((layoutRecord c w).placements.Pairwise fun a b => a.strip ≤ b.strip) ∧
    ∀ k, (layoutRecord c w).placements.filter (fun x => x.strip == k) = w.placements.filter fun x => x.strip == k) ∧
  -- R50, R51: the candidate
  ∀ (c : Captures) (w : Work) (top tail : Candidate), w.placements ≠ [] →
    top = ⟨.top, c.ul, c.uw - w.nextY⟩ → tail = ⟨.tail, c.ul - (w.strips.map fun x => x.cursor).foldl max 0, c.uw⟩ →
    (MeetsMinimums c top → (¬MeetsMinimums c tail ∨ tail.len * tail.wid ≤ top.len * top.wid) →
      (layoutRecord c w).candidate = top) ∧
    (MeetsMinimums c tail → (¬MeetsMinimums c top ∨ top.len * top.wid < tail.len * tail.wid) →
      (layoutRecord c w).candidate = tail) ∧
    (¬MeetsMinimums c top → ¬MeetsMinimums c tail → (layoutRecord c w).candidate = ⟨.none, 0, 0⟩)

/-! ## Stations -/

/-- R80, R81, R83, R105: a station brought online; taken offline with its grant released, its meters charged to job 0, and its request
withdrawn; and its new blade. -/
def Obligations.StationSettings : Prop :=
  (∀ (s : State) (st : Fin 6) (maxThick : Nat), s.link.mode = .running → (s.station st).mode = .offline →
    10 ≤ maxThick → maxThick ≤ 60 →
    ∃ m, ((∃ p x, (s.station st).current = some p ∧ s.plan p = some x ∧ isCutting x = true) → m = .loaded) ∧
      ((¬∃ p x, (s.station st).current = some p ∧ s.plan p = some x ∧ isCutting x = true) → m = .ready) ∧
      exec (.stationOnline st maxThick) s = .next { s with
        stations := s.stations.set st { s.station st with maxThick := maxThick, mode := m }
        link := answeredLink s 2 .ok (stationSummary st { s.station st with maxThick := maxThick, mode := m }) }) ∧
  (∀ (s : State) (st : Fin 6), WaterOk s → (s.station st).mode = .ready → (s.station st).current = none →
    (s.station st).issued = none →
    ∃ c u t : State, c = (if s.permit st then chargeMeters st 0 s else s) ∧
      u = waterDropped st (s.permit st || (s.request st).isSome) { s with
        stations := s.stations.set st { s.station st with
          mode := .offline
          hold := if s.permit st then none else (s.station st).hold
          runSnap := if s.permit st then (s.station st).runMeter else (s.station st).runSnap
          waterSnap := if s.permit st then (s.station st).waterMeter else (s.station st).waterSnap }
        link := c.link } ∧
      exec (.stationOffline st) s = .next t ∧
      t = { s with
        jobs := t.jobs
        stations := u.stations
        arbiter := u.arbiter
        link := { answeredLink s 1 .ok (stationSummary st (t.station st)) with
          notices := u.link.notices, overflow := u.link.overflow } } ∧
      (t.station st).mode = .offline ∧ t.permit st = false ∧ t.request st = none ∧
      (s.permit st = true → (t.station st).runSnap = (s.station st).runMeter ∧
        (t.station st).waterSnap = (s.station st).waterMeter ∧ (t.station st).hold = none) ∧
      (∀ b, s.job 0 = some b → ∃ d, t.job 0 = some d ∧
        d = (if s.permit st then meteredJob (s.station st) s.rates.water b else b)) ∧
      (∀ j, j ≠ 0 → t.job j = s.job j) ∧ t.jobs.pieces = s.jobs.pieces ∧
      ∀ q, q ≠ st → (t.station q).queue = (s.station q).queue ∧ (t.station q).issued = (s.station q).issued ∧
        (t.station q).mode = (s.station q).mode) ∧
  ∀ (s : State) (st : Fin 6) (kerf life : Nat), 1 ≤ kerf → kerf ≤ 10 → 1 ≤ life → life ≤ 16777215 →
    (s.station st).issued = none →
    (∀ p x k, ((s.station st).current = some p ∨ (s.station st).next = some p) → s.plan p = some x → kerfOf x = some k →
      kerf ≤ k) →
    exec (.setBlade st kerf life) s = .next { s with
      stations := s.stations.set st { s.station st with kerf := kerf, life := life, bladeMeter := 0 }
      link := answeredLink s 5 .ok (stationSummary st { s.station st with kerf := kerf, life := life, bladeMeter := 0 }) }

/-- R86, R87, R18: LOAD_SLAB puts the current plan's slab on the bed; the plan becomes CUTTING and the station LOADED. -/
def Obligations.LoadSlabLoads : Prop :=
  ∀ (s : State) (st : Fin 6) (serial check : Nat) (p : Fin 16) (x : Plan) (b : Slab) (kerf : Nat) (l : Layout) (rate : Nat),
    tagValid serial check = true → s.link.mode = .running → (s.station st).mode = .ready → (s.station st).current = some p →
    s.plan p = some x → x.serial = serial → x.phase = .committed kerf l rate → findSlab serial s.stock = some b →
    b.thickness ≤ (s.station st).maxThick → position b s.stock = 0 →
    ∃ k', exec (.loadSlab st serial check) s = .next { s with
        stock := k'
        plans := { s.plans with slots := s.plans.slots.set p (some { x with phase := .cutting kerf l rate }) }
        stations := s.stations.set st { s.station st with mode := .loaded }
        link := answeredLink s 5 .ok (stationSummary st { s.station st with mode := .loaded }) } ∧
      OnlyRecord s.stock k' serial (some { b with place := .bed st, state := .onSaw }) ∧ LeftRack s.stock k' b

/-- R88 to R90, R97, R103, R107: NEXT_CUT of a station that holds a grant when its water step is done is issued the first QUEUED entry of
its current plan whose job is not held; the entries before it are passed over, the meters are charged to job 0, and the valve opens.
The grant stood and no other can be made (no request above the floor, the capacity used, or no water), or it is made within this
NEXT_CUT: to a new request or to the request that stood, with its stamp, with GRANTED raised, no other request being above the floor. -/
def Obligations.NextCutIssues : Prop :=
  ∀ (s : State) (st : Fin 6) (p : Fin 16) (pre post : List CutEntry) (e : CutEntry) (b : Job),
    s.link.mode = .running → (s.station st).mode = .loaded → (s.station st).issued = none →
    (s.station st).bladeMeter * 4 < (s.station st).life * 5 → (s.station st).current = some p →
    (s.station st).queue = pre ++ e :: post → e.plan = p → entryState e s = some .queued →
    (∀ d ∈ pre, d.plan ≠ p ∨ entryState d s ≠ some .queued ∨ s.heldJob d.piece.job = true) →
    s.job e.piece.job = some b → heldForDispatch b = false → s.arbiter.floor < b.level →
    (∀ g, s.grant st = some g →
      ((∀ r ∈ s.arbiter.pending, r.level ≤ s.arbiter.floor) ∨ s.arbiter.capacity ≤ s.arbiter.grants.length ∨
        s.plant.clean.accepted = 0) →
      ∃ c t : State, c = chargeMeters st 0 s ∧ exec (.nextCut st) s = .next t ∧
        t = { s with
          jobs := t.jobs
          plans := t.plans
          stations := t.stations
          arbiter := { s.arbiter with grants := t.arbiter.grants }
          link := { answeredLink s 1 .ok (descriptor st e s) with notices := c.link.notices, overflow := c.link.overflow } } ∧
        t.station st = { s.station st with
          issued := some e, hold := none, runSnap := (s.station st).runMeter, waterSnap := (s.station st).waterMeter } ∧
        (∀ q, q ≠ st → t.station q = s.station q) ∧
        t.grant st = some { g with level := b.level, mark := false } ∧ t.valve st = true ∧
        (∀ q, q ≠ st → t.grant q = s.grant q) ∧
        entryState e t = some .issued ∧ (∀ d : CutEntry, d.plan ≠ e.plan ∨ d.index ≠ e.index → entryState d t = entryState d s) ∧
        t.plans.queue = s.plans.queue ∧ (∀ q, q ≠ p → t.plan q = s.plan q) ∧
        (∀ x kerf l rate y, s.plan p = some x → x.phase = .cutting kerf l rate → l.placements[e.index]? = some y →
          t.plan p = some { x with
            phase := .cutting kerf { l with placements := l.placements.set e.index { y with state := some .issued } } rate }) ∧
        findPiece e.piece t.jobs = (findPiece e.piece s.jobs).map (fun y => { y with state := .issued }) ∧
        (∀ i, i ≠ e.piece → findPiece i t.jobs = findPiece i s.jobs) ∧ (∀ j, j ≠ 0 → t.job j = s.job j) ∧
        ∀ d, s.job 0 = some d → t.job 0 = some (meteredJob (s.station st) s.rates.water d)) ∧
    ∀ (n stamp' : Nat), s.grant st = none →
      ((s.request st = none ∧ n = s.arbiter.stamp ∧ n < 4294967295 ∧ stamp' = n + 1) ∨
        ((∃ r, s.request st = some r ∧ n = r.stamp) ∧ stamp' = s.arbiter.stamp)) →
      (∀ r ∈ s.arbiter.pending, r.station ≠ st → r.level ≤ s.arbiter.floor) →
      s.arbiter.grants.length < s.arbiter.capacity → s.plant.clean.accepted ≠ 0 → WaterOk s →
      ∃ c t : State, c = chargeMeters st 0 (raiseNotice .granted st s) ∧ exec (.nextCut st) s = .next t ∧
        t = { s with
          jobs := t.jobs
          plans := t.plans
          stations := t.stations
          arbiter := { s.arbiter with
            pending := s.arbiter.pending.filter fun r => r.station != st
            grants := t.arbiter.grants
            stamp := stamp' }
          link := { answeredLink s 1 .ok (descriptor st e s) with notices := c.link.notices, overflow := c.link.overflow } } ∧
        t.station st = { s.station st with
          issued := some e
          hold := none
          dryTimer := 0
          runSnap := (s.station st).runMeter
          waterSnap := (s.station st).waterMeter } ∧
        (∀ q, q ≠ st → t.station q = s.station q) ∧
        t.grant st = some ⟨st, b.level, n, false⟩ ∧ t.valve st = true ∧ (∀ q, q ≠ st → t.grant q = s.grant q) ∧
        t.arbiter.grants.length = s.arbiter.grants.length + 1 ∧
        entryState e t = some .issued ∧ (∀ d : CutEntry, d.plan ≠ e.plan ∨ d.index ≠ e.index → entryState d t = entryState d s) ∧
        t.plans.queue = s.plans.queue ∧ (∀ q, q ≠ p → t.plan q = s.plan q) ∧
        (∀ x kerf l rate y, s.plan p = some x → x.phase = .cutting kerf l rate → l.placements[e.index]? = some y →
          t.plan p = some { x with
            phase := .cutting kerf { l with placements := l.placements.set e.index { y with state := some .issued } } rate }) ∧
        findPiece e.piece t.jobs = (findPiece e.piece s.jobs).map (fun y => { y with state := .issued }) ∧
        (∀ i, i ≠ e.piece → findPiece i t.jobs = findPiece i s.jobs) ∧ (∀ j, j ≠ 0 → t.job j = s.job j) ∧
        ∀ d, s.job 0 = some d → t.job 0 = some (meteredJob (s.station st) s.rates.water d)

/-- R88 to R90, R100, R103, R105, R111: NEXT_CUT repeats the issued descriptor, refuses a worn blade, answers HELD_ONLY when every QUEUED
entry belongs to a held job, withdrawing a request that stood, and answers WAIT_WATER with a request at the chosen entry's level: a new
one, whose stamp may be the last and bring a renumbering, the one that stood, or one in place of a grant released because it is not
above the floor.  The request waits because neither it nor any other is above the floor, because the capacity is used or the clean band
is 0, or because arbitration gives the place to another request (`arbitrate`, statement SetWaterStores). -/
def Obligations.NextCutOtherAnswers : Prop :=
  ∀ (s : State) (st : Fin 6), s.link.mode = .running → (s.station st).mode = .loaded →
    (∀ e, (s.station st).issued = some e → exec (.nextCut st) s = .next (answered s 1 .ok (descriptor st e s))) ∧
    ((s.station st).issued = none → (s.station st).life * 5 ≤ (s.station st).bladeMeter * 4 →
      exec (.nextCut st) s = .next (answered s 1 .bladeWorn [])) ∧
    (∀ p, (s.station st).issued = none → (s.station st).bladeMeter * 4 < (s.station st).life * 5 →
      (s.station st).current = some p →
      ((∀ d ∈ (s.station st).queue, d.plan ≠ p ∨ entryState d s ≠ some .queued ∨ s.heldJob d.piece.job = true) →
        (s.request st = none → exec (.nextCut st) s = .next (answered s 1 .heldOnly
          (be 1 ((s.station st).queue.countP fun d => decide (d.plan = p ∧ entryState d s = some .queued))))) ∧
        ((s.request st).isSome = true → ∃ u : State,
          u = arbitrate { s with
            arbiter := { s.arbiter with pending := s.arbiter.pending.filter fun r => r.station != st } } ∧
          exec (.nextCut st) s = .next { s with
            stations := u.stations
            arbiter := u.arbiter
            link := { answeredLink s 1 .heldOnly
                (be 1 ((s.station st).queue.countP fun d => decide (d.plan = p ∧ entryState d s = some .queued))) with
              notices := u.link.notices, overflow := u.link.overflow } })) ∧
      ∀ pre e post b, (s.station st).queue = pre ++ e :: post → e.plan = p → entryState e s = some .queued →
        (∀ d ∈ pre, d.plan ≠ p ∨ entryState d s ≠ some .queued ∨ s.heldJob d.piece.job = true) →
        s.job e.piece.job = some b → heldForDispatch b = false →
        (((b.level ≤ s.arbiter.floor ∧ ∀ r ∈ s.arbiter.pending, r.level ≤ s.arbiter.floor) ∨
          s.arbiter.capacity ≤ s.arbiter.grants.length ∨ s.plant.clean.accepted = 0) →
        (s.grant st = none → s.request st = none → s.arbiter.stamp < 4294967295 →
          exec (.nextCut st) s = .next { s with
            arbiter := { s.arbiter with
              pending := s.arbiter.pending ++ [⟨st, b.level, s.arbiter.stamp⟩], stamp := s.arbiter.stamp + 1 }
            link := answeredLink s 1 .waitWater (be 1 e.plan ++ be 1 e.index ++ be 1 b.level) }) ∧
        (∀ rank : Nat → Nat, s.grant st = none → s.request st = none → s.arbiter.stamp = 4294967295 →
          (∀ n, rank n = 1 + s.arbiter.pending.countP (fun r => decide (r.stamp < n)) +
            s.arbiter.grants.countP (fun g => decide (g.stamp < n)) + if 4294967295 < n then 1 else 0) →
          exec (.nextCut st) s = .next { s with
            arbiter := { s.arbiter with
              pending := (s.arbiter.pending.map fun r => { r with stamp := rank r.stamp }) ++ [⟨st, b.level, rank 4294967295⟩]
              grants := s.arbiter.grants.map fun g => { g with stamp := rank g.stamp }
              stamp := s.arbiter.pending.length + s.arbiter.grants.length + 2 }
            link := answeredLink s 1 .waitWater (be 1 e.plan ++ be 1 e.index ++ be 1 b.level) }) ∧
        (s.grant st = none → (s.request st).isSome = true →
          exec (.nextCut st) s = .next { s with
            arbiter := { s.arbiter with
              pending := s.arbiter.pending.map fun r => if r.station = st then { r with level := b.level } else r }
            link := answeredLink s 1 .waitWater (be 1 e.plan ++ be 1 e.index ++ be 1 b.level) })) ∧
        ((s.grant st).isSome = true → s.arbiter.stamp < 4294967295 → b.level ≤ s.arbiter.floor →
          (∀ r ∈ s.arbiter.pending, r.level ≤ s.arbiter.floor) → ∃ c : State, c = chargeMeters st 0 s ∧
          exec (.nextCut st) s = .next { s with
            jobs := c.jobs
            stations := s.stations.set st { s.station st with
              hold := none, runSnap := (s.station st).runMeter, waterSnap := (s.station st).waterMeter }
            arbiter := { s.arbiter with
              grants := s.arbiter.grants.filter fun g => g.station != st
              pending := s.arbiter.pending ++ [⟨st, b.level, s.arbiter.stamp⟩]
              stamp := s.arbiter.stamp + 1 }
            link := { answeredLink s 1 .waitWater (be 1 e.plan ++ be 1 e.index ++ be 1 b.level) with
              notices := c.link.notices, overflow := c.link.overflow } }) ∧
        -- a grant not above the floor, with other requests above it
        ((s.grant st).isSome = true → s.arbiter.stamp < 4294967295 → b.level ≤ s.arbiter.floor → WaterOk s → ∃ c u : State,
          c = chargeMeters st 0 s ∧
          u = arbitrate { c with
            stations := s.stations.set st { s.station st with
              hold := none, runSnap := (s.station st).runMeter, waterSnap := (s.station st).waterMeter }
            arbiter := { s.arbiter with grants := s.arbiter.grants.filter fun g => g.station != st } } ∧
          exec (.nextCut st) s = .next { s with
            jobs := c.jobs
            stations := u.stations
            arbiter := { u.arbiter with
              pending := u.arbiter.pending ++ [⟨st, b.level, s.arbiter.stamp⟩], stamp := s.arbiter.stamp + 1 }
            link := { answeredLink s 1 .waitWater (be 1 e.plan ++ be 1 e.index ++ be 1 b.level) with
              notices := u.link.notices, overflow := u.link.overflow } }) ∧
        -- no grant, at any level: what arbitration makes of the new or the standing request
        ∀ v u : State, s.grant st = none → (s.request st = none → s.arbiter.stamp < 4294967295) →
          v = { s with arbiter :=
            if s.request st = none then
              { s.arbiter with
                pending := s.arbiter.pending ++ [⟨st, b.level, s.arbiter.stamp⟩], stamp := s.arbiter.stamp + 1 }
            else
              { s.arbiter with
                pending := s.arbiter.pending.map fun r => if r.station = st then { r with level := b.level } else r } } →
          u = arbitrate v →
          (u.grant st = none → exec (.nextCut st) s = .next { s with
            stations := u.stations
            arbiter := u.arbiter
            link := { answeredLink s 1 .waitWater (be 1 e.plan ++ be 1 e.index ++ be 1 b.level) with
              notices := u.link.notices, overflow := u.link.overflow } }) ∧
          -- one place, and another request wins it
          ∀ r ∈ v.arbiter.pending, r.station ≠ st → s.arbiter.floor < r.level →
            (∀ q ∈ v.arbiter.pending, s.arbiter.floor < q.level →
              q = r ∨ q.level < r.level ∨ (q.level = r.level ∧ r.stamp < q.stamp)) →
            s.arbiter.grants.length + 1 = s.arbiter.capacity → s.plant.clean.accepted ≠ 0 →
            u.grant st = none ∧ u.grant r.station = some ⟨r.station, r.level, r.stamp, false⟩ ∧
              u.arbiter.pending = v.arbiter.pending.filter fun q => q.station != r.station)

/-- R93, R97, R141, R142, R154 to R165: a good cut.  The state `u` after the cut's own effects: the placement and the piece are CUT, the
entry has left the queue, the hold timer runs if the hold condition now holds, and MATERIAL, SAW and WATER are charged to the cut's job
with their notices, and nothing else is touched.  Where the plan keeps other work, that is the answer, but that a grant marked under
the floor is then released and arbitration runs (R102); where it was the plan's last work, the plan closes as SlabClosed says. -/
def Obligations.CutDoneCharges : Prop :=
  ∀ (s : State) (st : Fin 6) (e : CutEntry) (x x' : Plan) (kerf : Nat) (l l' : Layout) (rate : Nat) (y : Placement) (b : Job),
    (s.station st).issued = some e → s.plan e.plan = some x → x.phase = .cutting kerf l rate →
    l.placements[e.index]? = some y → s.job e.piece.job = some b →
    l' = { l with placements := l.placements.set e.index { y with state := some .cut } } →
    x' = { x with phase := .cutting kerf l' rate } →
    ∃ v u : State, v = chargeMeters st e.piece.job (charge e.piece.job .material (y.xe * y.ye) rate s) ∧
      u = { s with
        jobs := u.jobs
        plans := { s.plans with slots := s.plans.slots.set e.plan (some x') }
        stations := s.stations.set st { s.station st with
          queue := (s.station st).queue.erase e
          issued := none
          hold := if s.permit st = true ∧ (s.station st).spindle = false then
              (if (s.station st).holdSetting = 0 then none else some ((s.station st).holdSetting * 5))
            else (s.station st).hold
          runSnap := (s.station st).runMeter
          waterSnap := (s.station st).waterMeter }
        link := { s.link with
          miso := presented s 5
          response := none
          held := false
          notices := v.link.notices
          overflow := v.link.overflow } } ∧
      (∃ c, u.job e.piece.job = some c ∧
        c = { b with
          cost :=
            { material := addProduct b.cost.material (chargeProduct (y.xe * y.ye) rate)
              saw := if (s.station st).runSnap < (s.station st).runMeter then
                  addProduct b.cost.saw
                    (chargeProduct ((s.station st).runMeter - (s.station st).runSnap) (s.station st).machineRate)
                else b.cost.saw
              water := if (s.station st).waterSnap < (s.station st).waterMeter then
                  addProduct b.cost.water
                    (chargeProduct ((s.station st).waterMeter - (s.station st).waterSnap) s.rates.water)
                else b.cost.water
              spoil := b.cost.spoil
              waste := b.cost.waste }
          overBudget := c.overBudget } ∧
        c = meteredJob (s.station st) s.rates.water (chargedJob .material (y.xe * y.ye) rate b) ∧
        (AccountsOk s → c.overBudget = (b.overBudget || decide (0 < b.budget ∧ b.budget ≤ totalCents c.cost)))) ∧
      (∀ j, j ≠ e.piece.job → u.job j = s.job j) ∧
      findPiece e.piece u.jobs = (findPiece e.piece s.jobs).map (fun q => { q with state := .cut, plan := none }) ∧
      (∀ i, i ≠ e.piece → findPiece i u.jobs = findPiece i s.jobs) ∧
      ((∃ i z, i ≠ e.index ∧ l.placements[i]? = some z ∧ (z.state = some .queued ∨ z.state = some .issued)) →
        (∀ g, s.grant st = some g → g.mark = false) →
        exec (.cutDone st e.plan e.index) s = .next { u with link :=
          { u.link with
            response := some ⟨.ok, stationSummary st (u.station st) ++ indication none⟩
            held := waitingFrame s.pending } }) ∧
      ((∃ i z, i ≠ e.index ∧ l.placements[i]? = some z ∧ (z.state = some .queued ∨ z.state = some .issued)) →
        (∃ g, s.grant st = some g ∧ g.mark = true) → ∃ t : State,
          t = arbitrate { u with
            stations := u.stations.set st { u.station st with hold := none }
            arbiter := { u.arbiter with grants := u.arbiter.grants.filter fun g => g.station != st } } ∧
          exec (.cutDone st e.plan e.index) s = .next { t with link :=
            { t.link with
              response := some ⟨.ok, stationSummary st (t.station st) ++ indication none⟩
              held := waitingFrame s.pending } }) ∧
      ∀ k : Slab, (∀ z ∈ l'.placements, z.state ≠ some .queued ∧ z.state ≠ some .issued) → WaterOk s → x.station = st →
        (s.station st).current = some e.plan → findSlab x.serial s.stock = some k →
        0xF00000 ≤ s.stock.nextSerial → s.stock.nextSerial ≤ 0xFFFFFF → s.stock.slabs.length ≤ 512 →
        ∃ (t : State) (r : CloseReport), exec (.cutDone st e.plan e.index) s = .next t ∧
          SlabClosed e.plan st l' rate k false u t r ∧
          t.link.response = some ⟨.ok, stationSummary st (t.station st) ++ indication (some r)⟩ ∧
          t.link.held = waitingFrame s.pending

/-- R166 to R168, R141, R142, R154 to R165: a spoiled cut.  The state `u` after the cut's own effects: the placement is SPOILED, the entry
has left the queue, the hold timer runs if the hold condition now holds, SAW, WATER and SPOIL are charged to the cut's job with their
notices, and then the piece returns to planning with RECUT raised, or is HELD with PIECE_HELD raised at its third spoil; nothing else
is touched.  Where the plan keeps other work, that is the answer, but that a grant marked under the floor is then released and
arbitration runs (R102); where it was the plan's last work, the plan closes as SlabClosed says. -/
def Obligations.CutSpoiledCharges : Prop :=
  ∀ (s : State) (st : Fin 6) (e : CutEntry) (x x' : Plan) (kerf : Nat) (l l' : Layout) (rate : Nat) (y : Placement) (b : Job) (q : Piece),
    (s.station st).issued = some e → s.plan e.plan = some x → x.phase = .cutting kerf l rate →
    l.placements[e.index]? = some y → s.job e.piece.job = some b → findPiece e.piece s.jobs = some q →
    l' = { l with placements := l.placements.set e.index { y with state := some .spoiled } } →
    x' = { x with phase := .cutting kerf l' rate } →
    ∃ v u : State,
      v = raiseNotice (if q.spoil + 1 < 3 then .recut else .pieceHeld) e.piece.job
        (charge e.piece.job .spoil (y.xe * y.ye) rate (chargeMeters st e.piece.job s)) ∧
      u = { s with
        jobs := u.jobs
        plans := { s.plans with slots := s.plans.slots.set e.plan (some x') }
        stations := s.stations.set st { s.station st with
          queue := (s.station st).queue.erase e
          issued := none
          hold := if s.permit st = true ∧ (s.station st).spindle = false then
              (if (s.station st).holdSetting = 0 then none else some ((s.station st).holdSetting * 5))
            else (s.station st).hold
          runSnap := (s.station st).runMeter
          waterSnap := (s.station st).waterMeter }
        link := { s.link with
          miso := presented s 5
          response := none
          held := false
          notices := v.link.notices
          overflow := v.link.overflow } } ∧
      (∃ c, u.job e.piece.job = some c ∧
        c = { b with
          cost :=
            { material := b.cost.material
              saw := if (s.station st).runSnap < (s.station st).runMeter then
                  addProduct b.cost.saw
                    (chargeProduct ((s.station st).runMeter - (s.station st).runSnap) (s.station st).machineRate)
                else b.cost.saw
              water := if (s.station st).waterSnap < (s.station st).waterMeter then
                  addProduct b.cost.water
                    (chargeProduct ((s.station st).waterMeter - (s.station st).waterSnap) s.rates.water)
                else b.cost.water
              spoil := addProduct b.cost.spoil (chargeProduct (y.xe * y.ye) rate)
              waste := b.cost.waste }
          overBudget := c.overBudget } ∧
        c = chargedJob .spoil (y.xe * y.ye) rate (meteredJob (s.station st) s.rates.water b) ∧
        (AccountsOk s → c.overBudget = (b.overBudget || decide (0 < b.budget ∧ b.budget ≤ totalCents c.cost)))) ∧
      (∀ j, j ≠ e.piece.job → u.job j = s.job j) ∧
      findPiece e.piece u.jobs = some { q with
        state := if q.spoil + 1 < 3 then .unplanned else .held, spoil := q.spoil + 1, plan := none } ∧
      (∀ i, i ≠ e.piece → findPiece i u.jobs = findPiece i s.jobs) ∧
      ((∃ i z, i ≠ e.index ∧ l.placements[i]? = some z ∧ (z.state = some .queued ∨ z.state = some .issued)) →
        (∀ g, s.grant st = some g → g.mark = false) →
        exec (.cutSpoiled st e.plan e.index) s = .next { u with link :=
          { u.link with
            response := some ⟨.ok, stationSummary st (u.station st) ++
              (be 1 (if q.spoil + 1 < 3 then 0 else 5) ++ be 1 (q.spoil + 1)) ++ indication none⟩
            held := waitingFrame s.pending } }) ∧
      ((∃ i z, i ≠ e.index ∧ l.placements[i]? = some z ∧ (z.state = some .queued ∨ z.state = some .issued)) →
        (∃ g, s.grant st = some g ∧ g.mark = true) → ∃ t : State,
          t = arbitrate { u with
            stations := u.stations.set st { u.station st with hold := none }
            arbiter := { u.arbiter with grants := u.arbiter.grants.filter fun g => g.station != st } } ∧
          exec (.cutSpoiled st e.plan e.index) s = .next { t with link :=
            { t.link with
              response := some ⟨.ok, stationSummary st (t.station st) ++
                (be 1 (if q.spoil + 1 < 3 then 0 else 5) ++ be 1 (q.spoil + 1)) ++ indication none⟩
              held := waitingFrame s.pending } }) ∧
      ∀ k : Slab, (∀ z ∈ l'.placements, z.state ≠ some .queued ∧ z.state ≠ some .issued) → WaterOk s → x.station = st →
        (s.station st).current = some e.plan → findSlab x.serial s.stock = some k →
        0xF00000 ≤ s.stock.nextSerial → s.stock.nextSerial ≤ 0xFFFFFF → s.stock.slabs.length ≤ 512 →
        ∃ (t : State) (r : CloseReport), exec (.cutSpoiled st e.plan e.index) s = .next t ∧
          SlabClosed e.plan st l' rate k false u t r ∧
          t.link.response = some ⟨.ok, stationSummary st (t.station st) ++
            (be 1 (if q.spoil + 1 < 3 then 0 else 5) ++ be 1 (q.spoil + 1)) ++ indication (some r)⟩ ∧
          t.link.held = waitingFrame s.pending

/-- R169, R170, R155, R161, R163, R164: a slab that breaks.  Before any of its cuts is issued: every placement is returned, the whole
usable area is job 0's WASTE, the slab and the plan are gone, and the station is READY with its next plan and no water.  At any time:
an issued cut is spoiled first (`spoilCut`, statement CutSpoiledCharges), the QUEUED placements are returned with RECUT raised once for
each of their jobs, and the plan closes as SlabClosed says of a break. -/
def Obligations.BreakSlabCloses : Prop :=
  (∀ (s : State) (st : Fin 6) (p : Fin 16) (x : Plan) (kerf : Nat) (l : Layout) (rate : Nat) (b : Slab) (z : Job), WaterOk s →
    (s.station st).mode = .loaded → (s.station st).issued = none → (s.station st).current = some p → s.plan p = some x →
    x.station = st → x.phase = .cutting kerf l rate → (∀ y ∈ l.placements, y.state = some .queued) →
    findSlab x.serial s.stock = some b → 0 < b.usableLen → 0 < b.usableWid → s.job 0 = some z →
    ∃ t c, exec (.breakSlab st) s = .next t ∧ t.plan p = none ∧ (∀ q, q ≠ p → t.plan q = s.plan q) ∧
      findSlab x.serial t.stock = none ∧ (∀ n, n ≠ x.serial → findSlab n t.stock = findSlab n s.stock) ∧
      t.stock.racks = s.stock.racks ∧ t.stock.nextSerial = s.stock.nextSerial ∧
      (t.station st).mode = .ready ∧ (t.station st).current = (s.station st).next ∧ (t.station st).next = none ∧
      (t.station st).issued = none ∧ (t.station st).queue = (s.station st).queue.filter (fun e => e.plan != p) ∧
      t.permit st = false ∧ t.request st = none ∧
      (∀ i, i ∈ l.placements.map (fun y => y.piece) →
        findPiece i t.jobs = (findPiece i s.jobs).map fun q => { q with state := .unplanned, plan := none }) ∧
      (∀ i, i ∉ l.placements.map (fun y => y.piece) → findPiece i t.jobs = findPiece i s.jobs) ∧
      (∀ j, j ≠ 0 → t.job j = (s.job j).map fun d =>
        { d with openCount := d.openCount - l.placements.countP fun y => decide (y.piece.job = j) }) ∧
      t.job 0 = some c ∧ c.cost.waste = addProduct z.cost.waste (chargeProduct (b.usableLen * b.usableWid) rate) ∧
      c.cost.material = z.cost.material ∧ c.cost.spoil = z.cost.spoil ∧
      t.engine = s.engine ∧ t.rates = s.rates ∧ t.plant = s.plant ∧ t.plans.queue = s.plans.queue ∧
      (∃ r : CloseReport, t.link.response = some ⟨.ok, stationSummary st (t.station st) ++ reportBytes r⟩ ∧ r.plan = p ∧
        r.station = st ∧ r.parent = x.serial ∧ r.broke = true ∧ r.outcome = .none ∧ r.remnant = none ∧ r.area = 0 ∧
        r.pool = b.usableLen * b.usableWid ∧ r.sharing = 1)) ∧
  ∀ (s : State) (st : Fin 6) (p : Fin 16) (x : Plan) (kerf : Nat) (l : Layout) (rate : Nat) (b : Slab), WaterOk s →
    (s.station st).mode = .loaded → (s.station st).current = some p → s.plan p = some x → x.station = st →
    x.phase = .cutting kerf l rate → findSlab x.serial s.stock = some b → (∀ e, (s.station st).issued = some e → e.plan = p) →
    ∃ (w u t : State) (l' : Layout) (r : CloseReport),
      w = (match (s.station st).issued with
        | some e => spoilCut st e (takeFrame 3 s)
        | none => takeFrame 3 s) ∧
      l' = { l with placements := (w.placements p).map fun y => if y.state = some .queued then { y with state := some .returned } else y } ∧
      u = { w with
        jobs := u.jobs
        plans := { s.plans with slots := s.plans.slots.set p (some { x with phase := .cutting kerf l' rate }) }
        stations := w.stations.set st { w.station st with queue := (w.station st).queue.filter fun e => e.plan != p }
        link := (((w.placements p).filter fun y => y.state == some .queued).map fun y => y.piece.job).eraseDups.foldl
          (fun k j => postNotice .recut j k) w.link } ∧
      u.jobs.slots = w.jobs.slots ∧
      (∀ i, (∃ y ∈ w.placements p, y.piece = i ∧ y.state = some .queued) →
        findPiece i u.jobs = (findPiece i w.jobs).map fun q => { q with state := .unplanned, plan := none }) ∧
      (∀ i, (¬∃ y ∈ w.placements p, y.piece = i ∧ y.state = some .queued) → findPiece i u.jobs = findPiece i w.jobs) ∧
      exec (.breakSlab st) s = .next t ∧ SlabClosed p st l' rate b true u t r ∧
      t.link.response = some ⟨.ok, stationSummary st (t.station st) ++ reportBytes r⟩ ∧ t.link.held = waitingFrame s.pending

/-- R171 to R175: the cancellation of a job.  The state `u` after its effects on the job, its pieces, the plans and the station queues:
the job is CANCELLING, its pieces but the ISSUED and CUT ones are deleted, its QUEUED placements are VOID and their entries gone, and
every plan before its commitment loses its pieces, a LAID one with its layout.  Then the plans with a voided placement are taken in
ascending order, each as CancelTakes says: `f` gives the states between, `k` the plans unwound and `r` the close reports.  A job with
no QUEUED placement ends with `u`. -/
def Obligations.CancelJobDeletes : Prop :=
  ∀ (s : State) (j : Fin 64) (b : Job), j ≠ 0 → s.job j = some b → b.state = .opened →
    ∃ (u t : State) (ps : List (Fin 16)) (f : Nat → State) (k : Nat → Nat) (r : Nat → Option CloseReport),
      u = { s with
        jobs := u.jobs
        plans := u.plans
        stations := u.stations
        link := { s.link with miso := presented s 3, response := none, held := false } } ∧
      u.job j = some { b with state := .cancelling } ∧ (∀ q, q ≠ j → u.job q = s.job q) ∧
      u.jobs.pieces = s.jobs.pieces.filter (fun x => decide (x.id.job ≠ j ∨ x.state = .issued ∨ x.state = .cut)) ∧
      u.plans.queue = s.plans.queue ∧ (∀ p, s.plan p = none → u.plan p = none) ∧
      (∀ p x, s.plan p = some x →
        (∀ kerf l rate, x.phase = .committed kerf l rate → u.plan p = some { x with
          phase := .committed kerf
            { l with placements := l.placements.map fun y =>
                if y.state = some .queued ∧ y.piece.job = j then { y with state := some .void } else y }
            rate }) ∧
        (∀ kerf l rate, x.phase = .cutting kerf l rate → u.plan p = some { x with
          phase := .cutting kerf
            { l with placements := l.placements.map fun y =>
                if y.state = some .queued ∧ y.piece.job = j then { y with state := some .void } else y }
            rate }) ∧
        (isCommitted x = false → isCutting x = false → (∀ i ∈ x.pieces, i.job ≠ j) → u.plan p = some x) ∧
        (isCommitted x = false → isCutting x = false → (∃ i ∈ x.pieces, i.job = j) →
          u.plan p = some { x with
            pieces := x.pieces.filter fun i => decide (i.job ≠ j)
            phase := match x.phase with
              | .laid _ _ => .draft
              | q => q })) ∧
      (∀ st, u.station st = { s.station st with
        queue := (s.station st).queue.filter fun e => decide (e.piece.job ≠ j ∨ (s.station st).issued = some e) }) ∧
      ps = (List.finRange 16).filter (fun p => (s.placements p).any fun y => decide (y.state = some .queued ∧ y.piece.job = j)) ∧
      f 0 = u ∧ (∀ i p, ps[i]? = some p → CancelTakes p (f i) (f (i + 1)) (k i) (r i)) ∧
      exec (.cancelJob j) s = .next t ∧
      t = { f ps.length with link :=
        { (f ps.length).link with
          response := some ⟨.ok, be 1 j ++ be 1 1 ++ be 2 ((((f ps.length).job j).map fun d => d.openCount).getD 0) ++
            be 1 ((jobPieces j s.jobs).countP fun x => decide (x.state ≠ .issued ∧ x.state ≠ .cut)) ++
            flagByte ((jobPieces j s.jobs).any fun x => x.state == .issued) ++
            be 1 (((List.finRange 16).map fun p =>
              (s.placements p).countP fun y => decide (y.state = some .queued ∧ y.piece.job = j)).sum) ++
            be 1 (redraftedCount j s) ++ be 1 ((List.range ps.length).map k).sum ++
            be 1 ((List.range ps.length).countP fun i => (r i).isSome) ++
            indication ((List.range ps.length).findSome? r)⟩
          held := waitingFrame s.pending } } ∧
      ((∀ p y, y ∈ s.placements p → y.piece.job = j → y.state ≠ some .queued) →
        t = { u with link := answeredLink s 1 .ok (be 1 j ++ be 1 1 ++ be 2 b.openCount ++
          be 1 ((jobPieces j s.jobs).countP fun x => decide (x.state ≠ .issued ∧ x.state ≠ .cut)) ++
          flagByte ((jobPieces j s.jobs).any fun x => x.state == .issued) ++ be 1 0 ++ be 1 (redraftedCount j s) ++ be 1 0 ++
          be 1 0 ++ indication none) })

/-! ## The ticks -/

/-- R94, R96, R109: a sample tick in every station's filter, with the spindle start or stop it accepts. -/
def Obligations.SampleTickFilters : Prop :=
  ∀ (s : State) (spin : BitVec 6), ∃ t, exec (.sampleTick spin) s = .next t ∧
    t = { s with pins := { s.pins with spin := spin }, stations := t.stations } ∧
    ∀ st : Fin 6,
      (spin[st] = (s.station st).spindle → t.station st = { s.station st with spindleRun := 0 }) ∧
      (spin[st] ≠ (s.station st).spindle → (s.station st).spindleRun < 2 →
        t.station st = { s.station st with spindleRun := (s.station st).spindleRun + 1 }) ∧
      ((s.station st).spindle = false → spin[st] = true → 2 ≤ (s.station st).spindleRun →
        t.station st = { s.station st with spindle := true, spindleRun := 0, hold := none }) ∧
      ((s.station st).spindle = true → spin[st] = false → 2 ≤ (s.station st).spindleRun →
        t.station st = { s.station st with
          spindle := false
          spindleRun := 0
          dryTimer := 0
          hold := if s.permit st = true ∧ (s.station st).issued = none then
              (if (s.station st).holdSetting = 0 then none else some ((s.station st).holdSetting * 5))
            else (s.station st).hold })

/-- R95, R96, R109, R110: the meters and timers at a decisecond tick that accepts no new band or turbidity.  That a timer or a meter at
its end only marks its event as due is assumption 2. -/
def Obligations.DecisecondTickMeters : Prop :=
  ∀ (s : State) (sump settling clean : Fin 8) (cloudy : Bool),
    sump = s.plant.sump.accepted → settling = s.plant.settling.accepted → clean = s.plant.clean.accepted →
    cloudy = s.plant.turbidity.accepted →
    ∃ t, exec (.decisecondTick sump settling clean cloudy) s = .next t ∧
      t = { s with
        pins := { s.pins with sump := sump, settling := settling, clean := clean, cloudy := cloudy }
        plant := { s.plant with
          sump := { s.plant.sump with run := 0 }
          settling := { s.plant.settling with run := 0 }
          clean := { s.plant.clean with run := 0 }
          turbidity := { s.plant.turbidity with run := 0 } }
        stations := t.stations } ∧
      ∀ st : Fin 6, ∃ x : Station, x = s.station st ∧
        t.station st = { x with
          runMeter := if x.spindle = true then min 4294967295 (x.runMeter + 1) else x.runMeter
          bladeMeter := if x.spindle = true then min 4294967295 (x.bladeMeter + 1) else x.bladeMeter
          bladeDue := x.bladeDue || decide (x.spindle = true ∧ x.bladeMeter < 4294967295 ∧ x.bladeMeter + 1 = x.life)
          waterMeter := if s.valve st = true ∧ x.waterMeter < 4294967295 ∧ 600 ≤ x.remainder + x.flow then x.waterMeter + 1
            else x.waterMeter
          remainder := if s.valve st = true ∧ x.waterMeter < 4294967295 then
              (if 600 ≤ x.remainder + x.flow then x.remainder + x.flow - 600 else x.remainder + x.flow)
            else x.remainder
          dryTimer := if x.spindle = true ∧ s.permit st = false ∧ x.dryTimer < 30 then x.dryTimer + 1 else x.dryTimer
          dryDue := x.dryDue || decide (x.spindle = true ∧ s.permit st = false ∧ x.dryTimer = 29)
          hold := x.hold.map fun n => n - 1 }

/-- R117, R118, R125, R106: every decisecond tick moves the four filters of the plant by their samples, whatever else it brings about.
A change of one accepted value has the effects of R118 on the state `u` that the meters and timers have left (`tickStations`, statement
DecisecondTickMeters): BAND, SUMP_HIGH, the floor (`reformFloor`, statement SetWaterStores) or the revocation of every grant, and the
cycle tests that read the value (statement PlantTimersRun).  The revocation takes the grants in ascending station order: the meters of a
station with no cut issued are charged to job 0, REVOKED is raised, and a request with the grant's level and stamp stands in the list.
That the filters follow the meters within the tick is assumption 5. -/
def Obligations.PlantFiltersSample : Prop :=
  (∀ (s : State) (sump settling clean : Fin 8) (cloudy : Bool),
    ∃ t, exec (.decisecondTick sump settling clean cloudy) s = .next t ∧
      FilterStep sump s.plant.sump t.plant.sump ∧ FilterStep settling s.plant.settling t.plant.settling ∧
      FilterStep clean s.plant.clean t.plant.clean ∧ FilterStep cloudy s.plant.turbidity t.plant.turbidity) ∧
  (∀ (s : State) (sump settling clean : Fin 8) (cloudy : Bool) (m u w : State),
    m = tickStations (readPins sump settling clean cloudy s) → sump ≠ s.plant.sump.accepted → s.plant.sump.candidate = sump →
    s.plant.sump.run = 2 → settling = s.plant.settling.accepted → clean = s.plant.clean.accepted →
    cloudy = s.plant.turbidity.accepted →
    u = { m with
      plant := { s.plant with
        sump := { s.plant.sump with accepted := sump, run := 0 }
        settling := { s.plant.settling with run := 0 }
        clean := { s.plant.clean with run := 0 }
        turbidity := { s.plant.turbidity with run := 0 } }
      link := if sump = 7 then postNotice .sumpHigh 0 (postNotice .band 0 m.link) else postNotice .band 0 m.link } →
    w = reformFloor u →
    exec (.decisecondTick sump settling clean cloudy) s =
      .next (if s.plant.cycle = .idle ∧ s.plant.started = true then startTest w else w)) ∧
  (∀ (s : State) (sump settling clean : Fin 8) (cloudy : Bool) (m u : State),
    m = tickStations (readPins sump settling clean cloudy s) → settling ≠ s.plant.settling.accepted →
    s.plant.settling.candidate = settling → s.plant.settling.run = 2 → sump = s.plant.sump.accepted →
    clean = s.plant.clean.accepted → cloudy = s.plant.turbidity.accepted →
    u = { m with
      plant := { s.plant with
        sump := { s.plant.sump with run := 0 }
        settling := { s.plant.settling with accepted := settling, run := 0 }
        clean := { s.plant.clean with run := 0 }
        turbidity := { s.plant.turbidity with run := 0 } }
      link := postNotice .band 1 m.link } →
    exec (.decisecondTick sump settling clean cloudy) s =
      .next (if s.plant.cycle = .fill then fillTest u
        else if s.plant.cycle = .decant ∨ s.plant.cycle = .decantWait then decantEndTest u else u)) ∧
  (∀ (s : State) (sump settling clean : Fin 8) (cloudy : Bool) (m u w : State),
    m = tickStations (readPins sump settling clean cloudy s) → clean ≠ s.plant.clean.accepted → s.plant.clean.candidate = clean →
    s.plant.clean.run = 2 → sump = s.plant.sump.accepted → settling = s.plant.settling.accepted →
    cloudy = s.plant.turbidity.accepted →
    u = { m with
      plant := { s.plant with
        sump := { s.plant.sump with run := 0 }
        settling := { s.plant.settling with run := 0 }
        clean := { s.plant.clean with accepted := clean, run := 0 }
        turbidity := { s.plant.turbidity with run := 0 } }
      link := postNotice .band 2 m.link } →
    w = (if clean = 0 then revokeAll u else arbitrate (reformFloor u)) →
    exec (.decisecondTick sump settling clean cloudy) s =
      .next (if s.plant.cycle = .decant ∨ s.plant.cycle = .decantWait then cleanTest w else w)) ∧
  (∀ (s : State) (sump settling clean : Fin 8) (cloudy : Bool) (m u : State),
    m = tickStations (readPins sump settling clean cloudy s) → cloudy ≠ s.plant.turbidity.accepted →
    s.plant.turbidity.candidate = cloudy → s.plant.turbidity.run = 2 → sump = s.plant.sump.accepted →
    settling = s.plant.settling.accepted → clean = s.plant.clean.accepted →
    u = { m with
      plant := { s.plant with
        sump := { s.plant.sump with run := 0 }
        settling := { s.plant.settling with run := 0 }
        clean := { s.plant.clean with run := 0 }
        turbidity := { s.plant.turbidity with accepted := cloudy, run := 0 } } } →
    exec (.decisecondTick sump settling clean cloudy) s =
      .next (if s.plant.cycle = .decant ∨ s.plant.cycle = .decantWait then decantEndTest u else u)) ∧
  ∀ u : State, u.plant.clean.accepted = 0 →
    (u.arbiter.pending.map (fun r => r.station) ++ u.arbiter.grants.map (fun g => g.station)).Nodup →
    ∃ v t : State, revokeAll u = t ∧
      v = (([0, 1, 2, 3, 4, 5] : List (Fin 6)).filter u.permit).foldl (fun (x : State) (st : Fin 6) => raiseNotice .revoked st
        (if (u.station st).issued.isSome then x else chargeMeters st 0 x)) u ∧
      t = { u with jobs := v.jobs, stations := t.stations, arbiter := t.arbiter, link := v.link } ∧
      (∀ st, u.permit st = false → t.station st = u.station st) ∧
      (∀ st, u.permit st = true → t.station st = { u.station st with
        hold := none
        runSnap := if (u.station st).issued = none then (u.station st).runMeter else (u.station st).runSnap
        waterSnap := if (u.station st).issued = none then (u.station st).waterMeter else (u.station st).waterSnap }) ∧
      t.arbiter = { u.arbiter with
        pending := t.arbiter.pending
        grants := []
        floor := max (u.arbiter.table.get 0)
          (max (if u.plant.sump.accepted = 7 then 7 else 0) (if u.link.mode = .loading then 7 else 0)) } ∧
      t.arbiter.pending.Perm (u.arbiter.pending ++ u.arbiter.grants.map fun g => ⟨g.station, g.level, g.stamp⟩) ∧
      ((u.arbiter.pending.Pairwise fun a b => a.stamp < b.stamp) → t.arbiter.pending.Pairwise fun a b => a.stamp ≤ b.stamp)

/-- R96, R84, R109, R105, R97: the events a tick made due are taken once: the dry count and DRY_RUN, BLADE_LIFE, and the grant released
when the hold time has run out: its meters are charged to job 0 with their notices, it leaves the held grants, and arbitration runs,
which may give the place to another station's request (section 6.10).  Nothing else changes.  An event that is not due does not come
about (assumption 2). -/
def Obligations.StationEventsTaken : Prop :=
  ∀ (s : State) (st : Fin 6),
    ((s.station st).dryDue = true → exec (.dryRun st) s = .next { s with
      stations := s.stations.set st { s.station st with dryDue := false, dryCount := min 255 ((s.station st).dryCount + 1) }
      link := postNotice .dryRun st s.link }) ∧
    ((s.station st).dryDue = false → exec (.dryRun st) s = .next s) ∧
    ((s.station st).bladeDue = true → exec (.bladeLife st) s = .next { s with
      stations := s.stations.set st { s.station st with bladeDue := false }
      link := postNotice .bladeLife st s.link }) ∧
    ((s.station st).bladeDue = false → exec (.bladeLife st) s = .next s) ∧
    ((s.station st).hold ≠ some 0 → exec (.holdTimerExpiry st) s = .next s) ∧
    ((s.station st).hold = some 0 → s.permit st = false → exec (.holdTimerExpiry st) s = .next { s with
      stations := s.stations.set st { s.station st with hold := none } }) ∧
    ∀ b, (s.station st).hold = some 0 → s.permit st = true → s.job 0 = some b →
      ∃ c u t : State, c = chargeMeters st 0 s ∧
        u = { s with
          jobs := { s.jobs with slots := s.jobs.slots.set 0 (some (meteredJob (s.station st) s.rates.water b)) }
          stations := s.stations.set st { s.station st with
            hold := none, runSnap := (s.station st).runMeter, waterSnap := (s.station st).waterMeter }
          arbiter := { s.arbiter with grants := s.arbiter.grants.filter fun g => g.station != st }
          link := { s.link with notices := c.link.notices, overflow := c.link.overflow } } ∧
        t = arbitrate u ∧ exec (.holdTimerExpiry st) s = .next t ∧
        t.job 0 = some (meteredJob (s.station st) s.rates.water b) ∧ (∀ j, j ≠ 0 → t.job j = s.job j) ∧
        t.jobs.pieces = s.jobs.pieces ∧
        -- no other request is above the floor: the grant is gone and no other is made
        ((∀ r ∈ s.arbiter.pending, r.level ≤ s.arbiter.floor) → t = u ∧ t.permit st = false ∧ t.valve st = false) ∧
        (WaterOk s → t.station st = u.station st ∧ t.permit st = false ∧ t.valve st = false) ∧
        -- one request is above the floor: it takes the place
        ∀ r ∈ s.arbiter.pending, WaterOk s → s.arbiter.floor < r.level →
          (∀ q ∈ s.arbiter.pending, q = r ∨ q.level ≤ s.arbiter.floor) → s.arbiter.grants.length ≤ s.arbiter.capacity →
          t.grant r.station = some ⟨r.station, r.level, r.stamp, false⟩ ∧
            t.arbiter.pending = (s.arbiter.pending.filter fun q => q.station != r.station) ∧
            t.arbiter.grants.length = s.arbiter.grants.length ∧
            t.link = postNotice .granted r.station u.link

/-! ## Water -/

/-- R112, R113, R101, R102, R104, R105, R107: SET_WATER in both forms: the settings are stored clamped, the floor is formed afresh
(`reformFloor`) and arbitration runs (`arbitrate`).  Arbitration makes no grant with the capacity used, the clean band at 0 or no
request above the floor; else it grants the one of highest level, and of those the earliest stamp, with the effects of R107, and goes
on.  A floor that changes sets the marks anew, releases each marked grant with no cut issued, in ascending station order (assumption
8), charging its station's meters to job 0, and lets arbitration run: stated for a floor with no grant to release, and for one with no
request above it.  A hold setting above 255, which only an ill-formed SET_WATER carries, is stored as given (assumption 17); the levels
in the reports are assumption 18. -/
def Obligations.SetWaterStores : Prop :=
  (∀ (s : State) (st : Fin 6) (flow hold : Nat), ∃ t, exec (.setWaterStation st flow hold) s = .next t ∧
    t = { s with
      stations := s.stations.set st { s.station st with flow := max 10 (min flow 600), holdSetting := hold }
      link := answeredLink s 5 .ok (waterStationBody st t) }) ∧
  (∀ (s : State) (capacity f0 f1 f2 f3 f4 f5 f6 f7 : Nat),
    ∃ v t, v = arbitrate (reformFloor { s with
        arbiter := { s.arbiter with
          capacity := max 1 (min capacity 6)
          table := #v[min f0 7, min f1 7, min f2 7, min f3 7, min f4 7, min f5 7, min f6 7, min f7 7] } }) ∧
      exec (.setWaterArbiter capacity f0 f1 f2 f3 f4 f5 f6 f7) s = .next t ∧
      t = { s with
        jobs := v.jobs
        stations := v.stations
        arbiter := v.arbiter
        link := { answeredLink s 10 .ok (waterArbiterBody t) with notices := v.link.notices, overflow := v.link.overflow } } ∧
      t.arbiter.capacity = max 1 (min capacity 6) ∧
      t.arbiter.table = #v[min f0 7, min f1 7, min f2 7, min f3 7, min f4 7, min f5 7, min f6 7, min f7 7] ∧
      (FloorOk s → FloorOk t) ∧ t.jobs.pieces = s.jobs.pieces ∧ (∀ j, j ≠ 0 → t.job j = s.job j) ∧
      ∀ st, (t.station st).issued = (s.station st).issued ∧ (t.station st).queue = (s.station st).queue ∧
        ((s.station st).issued.isSome = true → s.permit st = true → t.permit st = true)) ∧
  -- R104: arbitration ends
  (∀ u : State, (u.arbiter.capacity ≤ u.arbiter.grants.length ∨ u.plant.clean.accepted = 0 ∨
    ∀ r ∈ u.arbiter.pending, r.level ≤ u.arbiter.floor) → arbitrate u = u) ∧
  -- R104, R107: arbitration makes one grant and goes on
  (∀ (u : State) (r : Request), u.arbiter.grants.length < u.arbiter.capacity → u.plant.clean.accepted ≠ 0 →
    r ∈ u.arbiter.pending → u.arbiter.floor < r.level →
    (∀ q ∈ u.arbiter.pending, u.arbiter.floor < q.level → q = r ∨ q.level < r.level ∨ (q.level = r.level ∧ r.stamp < q.stamp)) →
    arbitrate u = arbitrate { u with
      arbiter := { u.arbiter with
        pending := u.arbiter.pending.filter fun q => q.station != r.station
        grants := u.arbiter.grants.takeWhile (fun g => decide (g.station < r.station)) ++
          ⟨r.station, r.level, r.stamp, false⟩ :: u.arbiter.grants.dropWhile (fun g => decide (g.station < r.station)) }
      stations := u.stations.set r.station { u.station r.station with
        dryTimer := 0
        hold := if (u.station r.station).issued = none ∧ (u.station r.station).spindle = false then
            (if (u.station r.station).holdSetting = 0 then none else some ((u.station r.station).holdSetting * 5))
          else (u.station r.station).hold }
      link := postNotice .granted r.station u.link }) ∧
  -- R101, R102, R105: the floor formed afresh
  ∀ (u : State) (f : Nat), f = max (u.arbiter.table.get u.plant.clean.accepted)
      (max (if u.plant.sump.accepted = 7 then 7 else 0) (if u.link.mode = .loading then 7 else 0)) →
    (f = u.arbiter.floor → reformFloor u = u) ∧
    (f ≠ u.arbiter.floor → (∀ g ∈ u.arbiter.grants, g.level ≤ f → (u.station g.station).issued.isSome = true) →
      reformFloor u = arbitrate { u with arbiter := { u.arbiter with
        floor := f
        grants := u.arbiter.grants.map fun g => { g with mark := decide (g.level ≤ f) } } }) ∧
    (f ≠ u.arbiter.floor → (∀ r ∈ u.arbiter.pending, r.level ≤ f) → (u.arbiter.grants.map fun g => g.station).Nodup →
      ∃ v t : State, reformFloor u = t ∧
        v = (([0, 1, 2, 3, 4, 5] : List (Fin 6)).filter fun st => decide ((u.station st).issued = none) &&
          u.arbiter.grants.any fun g => g.station == st && decide (g.level ≤ f)).foldl (fun (x : State) (st : Fin 6) => chargeMeters st 0 x) u ∧
        t = { u with
          jobs := v.jobs
          stations := t.stations
          arbiter := { u.arbiter with
            floor := f
            grants := (u.arbiter.grants.filter fun g => !(decide (g.level ≤ f) && decide ((u.station g.station).issued = none))).map
              fun g => { g with mark := decide (g.level ≤ f) } }
          link := v.link } ∧
        ∀ st, t.station st = (if (u.station st).issued = none ∧ ∃ g ∈ u.arbiter.grants, g.station = st ∧ g.level ≤ f then
            { u.station st with
              hold := none, runSnap := (u.station st).runMeter, waterSnap := (u.station st).waterMeter }
          else u.station st))

/-- R101: at every step the effective floor remains the largest of its three terms. -/
def Obligations.FloorFollowsSources : Prop :=
  ∀ s t : State, FloorOk s → step s = .next t → FloorOk t

/-- R99, R108: no step leaves a station twice among the requests and grants, or a grant at clean band 0. -/
def Obligations.GrantsStayLawful : Prop :=
  ∀ s t : State, WaterOk s → step s = .next t → WaterOk t

/-! ## The recycling plant -/

/-- R129 to R132: PLANT_START, PLANT_STOP and PLANT_RESET_CYCLE.  The reset option makes the effects of PLANT_RESET_CYCLE first.  A plant
in IDLE is started and makes the start test; one in a batch takes the mode alone; a STOPPED one resumes its remembered phase with its
counter, raising PLANT_PHASE, and makes the tests of that phase (`startTest`, `fillTest`, `timeoutTest`, `settleTest`, `decantTests`:
statement PlantTimersRun). -/
def Obligations.PlantStartStopReset : Prop :=
  (∀ (s : State) (mode : Nat) (m : PlantMode), s.link.mode = .running → plantModeOf mode = some m → s.plant.cycle = .idle →
    s.plant.sump.accepted.val < s.plant.active.fillStart →
    exec (.plantStart mode 0) s = .next { s with
      plant := { s.plant with mode := m, started := true }
      link := answeredLink s 2 .ok (plantReport { s.plant with mode := m, started := true }) }) ∧
  -- R129, R131: with and without the reset option, in every state
  (∀ (s : State) (mode reset : Nat) (m : PlantMode) (r : Bool) (u v : State), s.link.mode = .running → plantModeOf mode = some m →
    flagOf reset = some r →
    u = { s with
      plant := if r then
          { s.plant with
            cycle := .idle
            started := false
            remembered := none
            counter := 0
            active := s.plant.buffered
            mode := m }
        else { s.plant with mode := m }
      link := if r = true ∧ s.plant.cycle ≠ .idle then postNotice .plantPhase 0 s.link else s.link } →
    (u.plant.cycle = .idle → v = startTest { u with plant := { u.plant with started := true } }) →
    (u.plant.cycle ≠ .idle → u.plant.cycle ≠ .stopped → v = u) →
    (u.plant.cycle = .stopped → u.plant.remembered = none → v = u) →
    (∀ c n w, u.plant.cycle = .stopped → u.plant.remembered = some ⟨c, n⟩ →
      w = { u with
        plant := { u.plant with cycle := c, remembered := none, counter := n }
        link := postNotice .plantPhase 0 u.link } →
      (c = .idle → v = startTest { w with plant := { w.plant with started := true } }) ∧
      (c = .fill → v = timeoutTest (fillTest w)) ∧
      (c = .dose ∨ c = .settle → v = settleTest w) ∧
      (c = .decant ∨ c = .decantWait → v = decantTests w) ∧
      (c = .sludge ∨ c = .stopped → v = w)) →
    exec (.plantStart mode reset) s = .next { v with link :=
      { answeredLink s 2 .ok (plantReport v.plant) with notices := v.link.notices, overflow := v.link.overflow } }) ∧
  -- R122, R129: a resting plant whose sump has reached fill_start, with the settling tank short of its target
  (∀ (s : State) (mode : Nat) (m : PlantMode), s.link.mode = .running → plantModeOf mode = some m → s.plant.cycle = .idle →
    s.plant.active.fillStart ≤ s.plant.sump.accepted.val → s.plant.settling.accepted.val < s.plant.active.fillTarget →
    exec (.plantStart mode 0) s = .next { s with
      plant := { s.plant with mode := m, started := true, cycle := .fill, counter := 0 }
      link := postNotice .plantPhase 0
        (answeredLink s 2 .ok (plantReport { s.plant with mode := m, started := true, cycle := .fill, counter := 0 })) }) ∧
  -- R131: a SLUDGE resumed goes on with its countdown
  (∀ (s : State) (mode n : Nat) (m : PlantMode), s.link.mode = .running → plantModeOf mode = some m → s.plant.cycle = .stopped →
    s.plant.remembered = some ⟨.sludge, n⟩ →
    exec (.plantStart mode 0) s = .next { s with
      plant := { s.plant with mode := m, cycle := .sludge, counter := n, remembered := none }
      link := postNotice .plantPhase 0
        (answeredLink s 2 .ok (plantReport { s.plant with mode := m, cycle := .sludge, counter := n, remembered := none })) }) ∧
  (∀ s : State, s.plant.cycle ≠ .stopped → exec .plantStop s = .next { s with
    plant := { s.plant with cycle := .stopped, remembered := some ⟨s.plant.cycle, s.plant.counter⟩ }
    link := postNotice .plantPhase 0 (answeredLink s 0 .ok
      (plantReport { s.plant with cycle := .stopped, remembered := some ⟨s.plant.cycle, s.plant.counter⟩ })) }) ∧
  (∀ s : State, s.plant.cycle = .stopped → exec .plantStop s = .next (answered s 0 .ok (plantReport s.plant))) ∧
  ∀ (s : State) (p : Plant),
    p = { s.plant with cycle := .idle, started := false, remembered := none, counter := 0, active := s.plant.buffered } →
    exec .plantResetCycle s = .next { s with
      plant := p
      link := if s.plant.cycle = .idle then answeredLink s 0 .ok (plantReport p)
        else postNotice .plantPhase 0 (answeredLink s 0 .ok (plantReport p)) }

/-- R127, R128: a setting is clamped into its range.  Written with the buffer mode flag set it reaches the buffered copy only; written
directly it reaches both, and the tests that read it are made at once in the states that R121 to R125 name (the tests: statement
PlantTimersRun); and the flag itself.  That a setting's values travel in two bytes each is assumption 9. -/
def Obligations.PlantSetWrites : Prop :=
  (∀ v : Nat, clampSetting .doseEnd v = max 0 (min v 3600) ∧ clampSetting .settleEnd v = max 60 (min v 14400) ∧
    clampSetting .sludgeTime v = max 5 (min v 600) ∧ clampSetting .fillTimeout v = max 60 (min v 3600) ∧
    clampSetting .fillTarget v = max 0 (min v 7) ∧ clampSetting .fillMin v = max 0 (min v 7) ∧
    clampSetting .fillStart v = max 0 (min v 7) ∧ clampSetting .decantFloor v = max 0 (min v 7)) ∧
  (∀ (s : State) (name value : Nat) (n : SettingName) (p : Plant), settingOf name = some n →
    p.buffered = putSetting s.plant.buffered n (clampSetting n value) →
    (s.plant.bufferMode = true → p = { s.plant with buffered := p.buffered } →
      exec (.plantSet name value) s = .next { s with
        plant := p
        link := answeredLink s 3 .ok (be 1 name ++ be 2 (getSetting s.plant.active n) ++ be 2 (clampSetting n value) ++
          flagByte true ++ be 1 (cycleCode s.plant.cycle)) }) ∧
    (s.plant.bufferMode = false → (s.plant.cycle = .stopped ∨ s.plant.cycle = .sludge) →
      p = { s.plant with
        active := putSetting s.plant.active n (clampSetting n value)
        buffered := p.buffered } →
      exec (.plantSet name value) s = .next { s with
        plant := p
        link := answeredLink s 3 .ok (be 1 name ++ be 2 (clampSetting n value) ++ be 2 (clampSetting n value) ++
          flagByte false ++ be 1 (cycleCode s.plant.cycle)) }) ∧
    ∀ u v : State, s.plant.bufferMode = false →
      u = { s with plant := { s.plant with
        active := putSetting s.plant.active n (clampSetting n value)
        buffered := putSetting s.plant.buffered n (clampSetting n value) } } →
      v = (if n = .fillStart ∧ s.plant.cycle = .idle ∧ s.plant.started = true then startTest u
        else if n = .fillTarget ∧ s.plant.cycle = .fill then fillTest u
        else if n = .fillTimeout ∧ s.plant.cycle = .fill then timeoutTest u
        else if (n = .doseEnd ∨ n = .settleEnd) ∧ (s.plant.cycle = .dose ∨ s.plant.cycle = .settle) then settleTest u
        else if n = .decantFloor ∧ (s.plant.cycle = .decant ∨ s.plant.cycle = .decantWait) then decantEndTest u
        else u) →
      exec (.plantSet name value) s = .next { v with link :=
        { answeredLink s 3 .ok (be 1 name ++ be 2 (clampSetting n value) ++ be 2 (clampSetting n value) ++
            flagByte false ++ be 1 (cycleCode v.plant.cycle)) with
          notices := v.link.notices, overflow := v.link.overflow } }) ∧
  ∀ (s : State) (value : Nat) (f : Bool), flagOf value = some f →
    exec (.plantSetBufferMode value) s = .next { s with
      plant := { s.plant with bufferMode := f }
      link := answeredLink s 3 .ok (flagByte f ++ be 1 (cycleCode s.plant.cycle)) }

/-- R119 to R126: the plant's tests, and the ticks and events that make them.  A tick moves the counter, and the tests of the state that
read it follow at once (R120).  The start test begins a fill; the fill test and the fill timeout end it, or fault; the settle test
chooses among DOSE, SETTLE and the decant stage; the end test and the clean test choose among SLUDGE, DECANT and DECANT_WAIT; and the
sludge countdown ends the batch.  The table's own commands for the ends of the counts find nothing left to do after a tick, and act
where the counter stands at the end (assumption 2).  That a fill fault holds the counter, and the entry to DECANT before the end test of
its entry, are assumption 11.  The output lines follow the state (the Introduction's table): the plant's lines by the cycle state, DECANT
and SLUDGE never active together and TRANSFER with neither; PERMIT by the grant, and VALVE by the grant and either the issued cut or
the spindle (R108). -/
def Obligations.PlantTimersRun : Prop :=
  -- R119, R108: the output lines
  (∀ s : State, s.pins.reset = false →
    (s.outputs.transfer, s.outputs.dose, s.outputs.decant, s.outputs.sludge) = (match s.plant.cycle with
      | .idle => (false, false, false, false)
      | .fill => (true, false, false, false)
      | .dose => (false, true, false, false)
      | .settle => (false, false, false, false)
      | .decant => (false, false, true, false)
      | .decantWait => (false, false, false, false)
      | .sludge => (false, false, false, true)
      | .stopped => (false, false, false, false)) ∧
    (∀ st : Fin 6, s.outputs.permit.get st = true ↔ ∃ g ∈ s.arbiter.grants, g.station = st) ∧
    ∀ st : Fin 6, s.outputs.valve.get st = true ↔
      (∃ g ∈ s.arbiter.grants, g.station = st) ∧ ((s.station st).issued.isSome = true ∨ (s.station st).spindle = true)) ∧
  (∀ s : State, ¬(s.outputs.decant = true ∧ s.outputs.sludge = true) ∧
    (s.outputs.transfer = true → s.outputs.decant = false ∧ s.outputs.sludge = false) ∧
    (WaterOk s → s.plant.clean.accepted = 0 → ∀ st : Fin 6, s.outputs.permit.get st = false ∧ s.outputs.valve.get st = false)) ∧
  -- R121: the start test
  (∀ u : State, (u.plant.sump.accepted.val < u.plant.active.fillStart → startTest u = u) ∧
    (u.plant.active.fillStart ≤ u.plant.sump.accepted.val → startTest u = fillTest { u with
      plant := { u.plant with cycle := .fill, counter := 0 }, link := postNotice .plantPhase 0 u.link })) ∧
  -- R122, R124: the fill test, and the settle test it leads to
  (∀ u : State, (u.plant.settling.accepted.val < u.plant.active.fillTarget → fillTest u = u) ∧
    (u.plant.active.fillTarget ≤ u.plant.settling.accepted.val → fillTest u = settleTest { u with
      plant := { u.plant with counter := 0, active := u.plant.buffered } })) ∧
  -- R123: the fill timeout
  (∀ u : State, (u.plant.cycle ≠ .fill ∨ u.plant.counter < u.plant.active.fillTimeout → timeoutTest u = u) ∧
    (u.plant.cycle = .fill → u.plant.active.fillTimeout ≤ u.plant.counter →
      (u.plant.active.fillMin ≤ u.plant.settling.accepted.val → timeoutTest u = settleTest { u with
        plant := { u.plant with counter := 0, active := u.plant.buffered } }) ∧
      (u.plant.settling.accepted.val < u.plant.active.fillMin → timeoutTest u = { u with
        plant := { u.plant with cycle := .stopped, remembered := some ⟨.idle, 0⟩ }
        link := postNotice .plantPhase 0 (postNotice .plantFault 0 u.link) }))) ∧
  -- R124: the settle test
  (∀ u : State, (u.plant.active.settleEnd ≤ u.plant.counter → settleTest u = decantTests { u with
      plant := { u.plant with cycle := .decant, counter := 0 }, link := postNotice .plantPhase 0 u.link }) ∧
    (u.plant.counter < u.plant.active.settleEnd → u.plant.counter < u.plant.active.doseEnd → settleTest u = { u with
      plant := { u.plant with cycle := .dose }
      link := if u.plant.cycle = .dose then u.link else postNotice .plantPhase 0 u.link }) ∧
    (u.plant.counter < u.plant.active.settleEnd → u.plant.active.doseEnd ≤ u.plant.counter → settleTest u = { u with
      plant := { u.plant with cycle := .settle }
      link := if u.plant.cycle = .settle then u.link else postNotice .plantPhase 0 u.link })) ∧
  -- R125, R126: the end test and the clean test
  (∀ u : State, (u.plant.turbidity.accepted = true ∨ u.plant.settling.accepted.val ≤ u.plant.active.decantFloor →
      decantEndTest u = { u with
        plant := { u.plant with cycle := .sludge, counter := u.plant.active.sludgeTime }
        link := postNotice .plantPhase 0 u.link } ∧ decantTests u = decantEndTest u) ∧
    (u.plant.turbidity.accepted = false → u.plant.active.decantFloor < u.plant.settling.accepted.val →
      decantEndTest u = u ∧ decantTests u = cleanTest u) ∧
    (u.plant.clean.accepted.val ≤ 6 → cleanTest u = { u with
      plant := { u.plant with cycle := .decant }
      link := if u.plant.cycle = .decant then u.link else postNotice .plantPhase 0 u.link }) ∧
    (u.plant.clean.accepted = 7 → cleanTest u = { u with
      plant := { u.plant with cycle := .decantWait }
      link := if u.plant.cycle = .decantWait then u.link else postNotice .plantPhase 0 u.link })) ∧
  -- R120, R126: a tick
  (∀ (s : State) (u : State), u = { s with plant := { s.plant with
      counter := match s.plant.cycle with
        | .idle => s.plant.counter
        | .stopped => s.plant.counter
        | .sludge => s.plant.counter - 1
        | _ => min 65535 (s.plant.counter + 1) } } →
    (¬(s.plant.cycle = .sludge ∧ s.plant.counter ≤ 1) → exec .plantTick s = .next (match s.plant.cycle with
      | .fill => timeoutTest u
      | .dose => settleTest u
      | .settle => settleTest u
      | _ => u)) ∧
    (s.plant.cycle = .sludge → s.plant.counter ≤ 1 → ∃ t, exec .plantTick s = .next t ∧ exec .sludgeEnd u = .next t)) ∧
  -- R123 to R126: the events at the ends of the counts
  (∀ s : State, exec .fillTimeout s = .next (timeoutTest s)) ∧
  (∀ s : State, s.plant.cycle = .fill → s.plant.active.fillTimeout ≤ s.plant.counter →
    s.plant.settling.accepted.val < s.plant.active.fillMin →
    exec .fillTimeout s = .next { s with
      plant := { s.plant with cycle := .stopped, remembered := some ⟨.idle, 0⟩ }
      link := postNotice .plantPhase 0 (postNotice .plantFault 0 s.link) }) ∧
  (∀ s : State, s.plant.cycle = .dose → s.plant.active.doseEnd ≤ s.plant.counter →
    s.plant.counter < s.plant.active.settleEnd →
    exec .doseEnd s = .next { s with
      plant := { s.plant with cycle := .settle }, link := postNotice .plantPhase 0 s.link }) ∧
  (∀ s : State, s.plant.cycle = .dose ∨ s.plant.cycle = .settle → s.plant.active.settleEnd ≤ s.plant.counter →
    exec .settleEnd s = .next (settleTest s) ∧
    (s.plant.turbidity.accepted = false → s.plant.active.decantFloor < s.plant.settling.accepted.val →
      s.plant.clean.accepted.val ≤ 6 →
      exec .settleEnd s = .next { s with
        plant := { s.plant with cycle := .decant, counter := 0 }, link := postNotice .plantPhase 0 s.link })) ∧
  (∀ s : State, s.plant.cycle = .sludge → s.plant.counter = 0 → s.plant.mode = .oneShot →
    exec .sludgeEnd s = .next { s with
      plant := { s.plant with cycle := .idle, started := false, batches := min 65535 (s.plant.batches + 1) }
      link := postNotice .plantPhase 0 s.link }) ∧
  ∀ (s : State) (u : State), s.plant.cycle = .sludge → s.plant.counter = 0 → s.plant.mode = .repeating →
    u = { s with
      plant := { s.plant with cycle := .idle, batches := min 65535 (s.plant.batches + 1) }
      link := postNotice .plantPhase 0 s.link } →
    exec .sludgeEnd s = .next (if s.plant.started = true then startTest u else u)

/-! ## Costs -/

/-- R137, R138, R149: the rates are stored clamped, and CLEAR_OVERHEAD reports job 0's accounts and empties them. -/
def Obligations.RatesAndOverhead : Prop :=
  (∀ (s : State) (code : Fin 32) (rate : Nat), exec (.setMaterialRate code rate) s = .next { s with
    rates := { s.rates with material := s.rates.material.set code (min rate 16777215) }
    link := answeredLink s 5 .ok (be 1 code ++ be 4 (min rate 16777215)) }) ∧
  (∀ (s : State) (rate : Nat), exec (.setWaterRate rate) s = .next { s with
    rates := { s.rates with water := min rate 16777215 }
    link := answeredLink s 4 .ok (be 4 (min rate 16777215)) }) ∧
  (∀ (s : State) (st : Fin 6) (rate : Nat), exec (.setMachineRate st rate) s = .next { s with
    stations := s.stations.set st { s.station st with machineRate := min rate 16777215 }
    link := answeredLink s 5 .ok (be 4 (min rate 16777215) ++ be 1 st) }) ∧
  ∀ (s : State) (b : Job), s.job 0 = some b → exec .clearOverhead s = .next { s with
    jobs := { s.jobs with slots := s.jobs.slots.set 0 (some
      { b with cost := ⟨⟨0, false⟩, ⟨0, false⟩, ⟨0, false⟩, ⟨0, false⟩, ⟨0, false⟩⟩ }) }
    link := answeredLink s 0 .ok (costReport 0 b) }

/-- R140 to R142, R97: a charge adds the exact product to one accumulator of one job, saturating with the clipped flag and CLIPPED, and
the budget watch follows it.  A charge of a station's meters to a job charges SAW and WATER for the counts since the snapshots, each only
above 0, and sets the snapshots to the meters. -/
def Obligations.ChargeAdds : Prop :=
  (∀ (s : State) (j : Fin 64) (c : Category) (quantity rate product : Nat) (b d : Job),
    s.job j = some b → product = min quantity 16777215 * rate →
    d.cost = putAcc b.cost c (if (getAcc b.cost c).value + product ≤ 281474976710655 then
      { getAcc b.cost c with value := (getAcc b.cost c).value + product } else ⟨281474976710655, true⟩) →
    d = { b with
      cost := d.cost
      overBudget := b.overBudget || decide (0 < b.budget ∧ b.budget ≤ totalCents d.cost) } →
    charge j c quantity rate s = { s with
      jobs := { s.jobs with slots := s.jobs.slots.set j (some d) }
      link :=
        if d.overBudget = true ∧ b.overBudget = false then
          (if (getAcc b.cost c).value + product ≤ 281474976710655 then postNotice .budget j s.link
            else postNotice .budget j (postNotice .clipped j s.link))
        else
          (if (getAcc b.cost c).value + product ≤ 281474976710655 then s.link else postNotice .clipped j s.link) }) ∧
  ∀ (s : State) (st : Fin 6) (j : Fin 64) (x : Station) (b : Job), s.job j = some b → x = s.station st →
    ∃ u v : State,
      u = (if x.runSnap < x.runMeter then charge j .saw (x.runMeter - x.runSnap) x.machineRate s else s) ∧
      v = (if x.waterSnap < x.waterMeter then charge j .water (x.waterMeter - x.waterSnap) s.rates.water u else u) ∧
      chargeMeters st j s = { s with
        jobs := { s.jobs with slots := s.jobs.slots.set j (some (meteredJob x s.rates.water b)) }
        stations := s.stations.set st { x with runSnap := x.runMeter, waterSnap := x.waterMeter }
        link := v.link }

/-- R139: at every step the accumulators stay within 48 bits. -/
def Obligations.AccountsStayInRange : Prop :=
  ∀ s t : State, AccountsOk s → step s = .next t → AccountsOk t

/-! ## Closing a slab -/

/-- R160, R161: the basis of a job is the area of its CUT, SPOILED and VOID placements.  The shares of the waste pool sum to it exactly;
with a basis each job's share is its exact proportion rounded down, or one more; the leftover units go one each to the jobs of the
largest bases, the lower job number first among equals; with no basis the whole pool is job 0's. -/
def Obligations.WasteSharesSum : Prop :=
  (∀ (pool : Nat) (l : List Placement),
    ((wasteShares pool l).map fun x => x.2).sum = pool ∧
    (basisSum l = 0 → wasteShares pool l = [(0, pool)]) ∧
    (0 < basisSum l → ∀ j n, (j, n) ∈ wasteShares pool l →
      0 < basis j l ∧ (n = pool * basis j l / basisSum l ∨ n = pool * basis j l / basisSum l + 1))) ∧
  ∀ (l : List Placement),
    (∀ j, basis j l = ((l.filter fun x => decide ((x.state = some .cut ∨ x.state = some .spoiled ∨ x.state = some .void) ∧
      x.piece.job = j)).map fun x => x.xe * x.ye).sum) ∧
    basisSum l = ((List.finRange 64).map fun j => basis j l).sum ∧
    ∃ order : List (Fin 64), order.Perm ((List.finRange 64).filter fun j => decide (0 < basis j l)) ∧
      (order.Pairwise fun i j => basis j l < basis i l ∨ (basis i l = basis j l ∧ i < j)) ∧
      ∀ pool left : Nat, 0 < basisSum l → left = pool - (order.map fun j => pool * basis j l / basisSum l).sum →
        left < order.length ∧
        wasteShares pool l = ((List.finRange 64).filter fun j => decide (0 < basis j l)).map fun j =>
          (j, pool * basis j l / basisSum l + if j ∈ order.take left then 1 else 0)

/-! ## Shop mode -/

/-- R185 to R187: OPEN_SHOP of a part with no water standing, CLOSE_SHOP of a part with no cut issued, and what each mode refuses.
CLOSE_SHOP takes the stations that are not OFFLINE in ascending order (`tookOffline`: a grant's meters charged to job 0, neither grant nor
request left, arbitration), stops the plant and forms the floor.  With no request pending at its start the charges are those of the
grants that stand. -/
def Obligations.OpenAndCloseShop : Prop :=
  (∀ (s : State) (shortMin longMin : Nat), s.link.mode = .loading → s.arbiter.pending = [] → s.arbiter.grants = [] →
    exec (.openShop shortMin longMin) s = .next { s with
      engine := { s.engine with shortMin := max 150 (min shortMin 1000), longMin := max 300 (min longMin 3600) }
      arbiter := { s.arbiter with
        floor := max (s.arbiter.table.get s.plant.clean.accepted) (if s.plant.sump.accepted = 7 then 7 else 0) }
      link := { answeredLink s 4 .ok (be 2 (max 150 (min shortMin 1000)) ++ be 2 (max 300 (min longMin 3600)) ++
        be 1 (cycleCode s.plant.cycle)) with mode := .running } }) ∧
  (∀ (s : State) (b : Job), s.link.mode = .running → WaterOk s → (∀ st, (s.station st).issued = none) →
    (∀ st, (s.station st).mode = .offline → s.permit st = false ∧ s.request st = none) → s.job 0 = some b →
    ∃ w t : State, w = ((List.finRange 6).filter fun st => decide ((s.station st).mode ≠ .offline)).foldl
        (fun (x : State) (st : Fin 6) => tookOffline st x) s ∧
      exec .closeShop s = .next t ∧
      t = { s with
        jobs := w.jobs
        stations := w.stations
        arbiter := { s.arbiter with
          pending := []
          grants := []
          floor := max (s.arbiter.table.get s.plant.clean.accepted) 7 }
        plant := if s.plant.cycle = .stopped then s.plant
          else { s.plant with cycle := .stopped, remembered := some ⟨s.plant.cycle, s.plant.counter⟩ }
        link := { answeredLink s 0 .ok (be 1 ((List.finRange 6).countP fun st => decide ((s.station st).mode ≠ .offline)) ++ be 1 7 ++
              optByte (t.plant.remembered.map fun r => cycleCode r.phase)) with
          mode := .loading
          notices := (if s.plant.cycle = .stopped then w.link else postNotice .plantPhase 0 w.link).notices
          overflow := (if s.plant.cycle = .stopped then w.link else postNotice .plantPhase 0 w.link).overflow } } ∧
      (∀ st, t.station st = { s.station st with
        mode := .offline
        hold := (t.station st).hold
        dryTimer := (t.station st).dryTimer
        runSnap := (t.station st).runSnap
        waterSnap := (t.station st).waterSnap }) ∧
      (∀ st, s.permit st = true → (t.station st).hold = none ∧ (t.station st).runSnap = (s.station st).runMeter ∧
        (t.station st).waterSnap = (s.station st).waterMeter) ∧
      t.jobs.pieces = s.jobs.pieces ∧ (∀ j, j ≠ 0 → t.job j = s.job j) ∧
      (s.arbiter.pending = [] →
        t.job 0 = some (((List.finRange 6).filter s.permit).foldl
          (fun (d : Job) (st : Fin 6) => meteredJob (s.station st) s.rates.water d) b) ∧
        w.link = (((List.finRange 6).filter s.permit).foldl (fun (x : State) (st : Fin 6) => chargeMeters st 0 x) s).link ∧
        ∀ st, t.station st = { s.station st with
          mode := .offline
          hold := if s.permit st then none else (s.station st).hold
          runSnap := if s.permit st then (s.station st).runMeter else (s.station st).runSnap
          waterSnap := if s.permit st then (s.station st).waterMeter else (s.station st).waterSnap })) ∧
  -- R186, R187: what the other mode, and a cut issued, refuse
  (∀ (s : State) (shortMin longMin : Nat), s.link.mode = .running →
    exec (.openShop shortMin longMin) s = .next (answered s 4 .badState [])) ∧
  (∀ s : State, s.link.mode = .loading → exec .closeShop s = .next (answered s 0 .badState [])) ∧
  (∀ (s : State) (st : Fin 6), s.link.mode = .running → (s.station st).issued.isSome = true →
    exec .closeShop s = .next (answered s 0 .busy [])) ∧
  -- R185: what LOADING refuses, after the tag check and the check of the station number
  ∀ s : State, s.link.mode = .loading →
    (∀ (st : Fin 6) (maxThick : Nat), exec (.stationOnline st maxThick) s = .next (answered s 2 .notRunning [])) ∧
    (∀ (st : Fin 6) (serial check : Nat), tagValid serial check = true →
      exec (.loadSlab st serial check) s = .next (answered s 5 .notRunning [])) ∧
    (∀ st : Fin 6, exec (.nextCut st) s = .next (answered s 1 .notRunning [])) ∧
    (∀ mode reset : Nat, exec (.plantStart mode reset) s = .next (answered s 2 .notRunning [])) ∧
    (∀ station serial check : Nat, tagValid serial check = false →
      exec (.loadSlab station serial check) s = .next (answered s 5 .badTag [])) ∧
    ∀ station : Nat, 5 < station →
      (∀ maxThick, exec (.stationOnline station maxThick) s = .next (answered s 2 .badField [])) ∧
      (∀ serial check : Nat, tagValid serial check = true →
        exec (.loadSlab station serial check) s = .next (answered s 5 .badField [])) ∧
      exec (.nextCut station) s = .next (answered s 1 .badField [])
end

