-- ==== Sys2Proof/Laws/State.lean ====
section
/-! SUPPORT. What each named update of the state does to each field: one lemma per field per update, true by `rfl`, and what reading a
slot after writing one gives. -/

namespace Sys2Proof.Machine

variable (s : State)

/-! ## onStock -/

@[simp] theorem onStock_stock (f : Stock → Stock) : (s.onStock f).stock = f s.stock := rfl
@[simp] theorem onStock_jobs (f : Stock → Stock) : (s.onStock f).jobs = s.jobs := rfl
@[simp] theorem onStock_engine (f : Stock → Stock) : (s.onStock f).engine = s.engine := rfl
@[simp] theorem onStock_plans (f : Stock → Stock) : (s.onStock f).plans = s.plans := rfl
@[simp] theorem onStock_stations (f : Stock → Stock) : (s.onStock f).stations = s.stations := rfl
@[simp] theorem onStock_arbiter (f : Stock → Stock) : (s.onStock f).arbiter = s.arbiter := rfl
@[simp] theorem onStock_plant (f : Stock → Stock) : (s.onStock f).plant = s.plant := rfl
@[simp] theorem onStock_rates (f : Stock → Stock) : (s.onStock f).rates = s.rates := rfl
@[simp] theorem onStock_link (f : Stock → Stock) : (s.onStock f).link = s.link := rfl
@[simp] theorem onStock_pins (f : Stock → Stock) : (s.onStock f).pins = s.pins := rfl
@[simp] theorem onStock_pending (f : Stock → Stock) : (s.onStock f).pending = s.pending := rfl

/-! ## onJobs -/

@[simp] theorem onJobs_stock (f : JobTable → JobTable) : (s.onJobs f).stock = s.stock := rfl
@[simp] theorem onJobs_jobs (f : JobTable → JobTable) : (s.onJobs f).jobs = f s.jobs := rfl
@[simp] theorem onJobs_engine (f : JobTable → JobTable) : (s.onJobs f).engine = s.engine := rfl
@[simp] theorem onJobs_plans (f : JobTable → JobTable) : (s.onJobs f).plans = s.plans := rfl
@[simp] theorem onJobs_stations (f : JobTable → JobTable) : (s.onJobs f).stations = s.stations := rfl
@[simp] theorem onJobs_arbiter (f : JobTable → JobTable) : (s.onJobs f).arbiter = s.arbiter := rfl
@[simp] theorem onJobs_plant (f : JobTable → JobTable) : (s.onJobs f).plant = s.plant := rfl
@[simp] theorem onJobs_rates (f : JobTable → JobTable) : (s.onJobs f).rates = s.rates := rfl
@[simp] theorem onJobs_link (f : JobTable → JobTable) : (s.onJobs f).link = s.link := rfl
@[simp] theorem onJobs_pins (f : JobTable → JobTable) : (s.onJobs f).pins = s.pins := rfl
@[simp] theorem onJobs_pending (f : JobTable → JobTable) : (s.onJobs f).pending = s.pending := rfl

/-! ## onEngine -/

@[simp] theorem onEngine_stock (f : Engine → Engine) : (s.onEngine f).stock = s.stock := rfl
@[simp] theorem onEngine_jobs (f : Engine → Engine) : (s.onEngine f).jobs = s.jobs := rfl
@[simp] theorem onEngine_engine (f : Engine → Engine) : (s.onEngine f).engine = f s.engine := rfl
@[simp] theorem onEngine_plans (f : Engine → Engine) : (s.onEngine f).plans = s.plans := rfl
@[simp] theorem onEngine_stations (f : Engine → Engine) : (s.onEngine f).stations = s.stations := rfl
@[simp] theorem onEngine_arbiter (f : Engine → Engine) : (s.onEngine f).arbiter = s.arbiter := rfl
@[simp] theorem onEngine_plant (f : Engine → Engine) : (s.onEngine f).plant = s.plant := rfl
@[simp] theorem onEngine_rates (f : Engine → Engine) : (s.onEngine f).rates = s.rates := rfl
@[simp] theorem onEngine_link (f : Engine → Engine) : (s.onEngine f).link = s.link := rfl
@[simp] theorem onEngine_pins (f : Engine → Engine) : (s.onEngine f).pins = s.pins := rfl
@[simp] theorem onEngine_pending (f : Engine → Engine) : (s.onEngine f).pending = s.pending := rfl

/-! ## onPlans -/

@[simp] theorem onPlans_stock (f : PlanTable → PlanTable) : (s.onPlans f).stock = s.stock := rfl
@[simp] theorem onPlans_jobs (f : PlanTable → PlanTable) : (s.onPlans f).jobs = s.jobs := rfl
@[simp] theorem onPlans_engine (f : PlanTable → PlanTable) : (s.onPlans f).engine = s.engine := rfl
@[simp] theorem onPlans_plans (f : PlanTable → PlanTable) : (s.onPlans f).plans = f s.plans := rfl
@[simp] theorem onPlans_stations (f : PlanTable → PlanTable) : (s.onPlans f).stations = s.stations := rfl
@[simp] theorem onPlans_arbiter (f : PlanTable → PlanTable) : (s.onPlans f).arbiter = s.arbiter := rfl
@[simp] theorem onPlans_plant (f : PlanTable → PlanTable) : (s.onPlans f).plant = s.plant := rfl
@[simp] theorem onPlans_rates (f : PlanTable → PlanTable) : (s.onPlans f).rates = s.rates := rfl
@[simp] theorem onPlans_link (f : PlanTable → PlanTable) : (s.onPlans f).link = s.link := rfl
@[simp] theorem onPlans_pins (f : PlanTable → PlanTable) : (s.onPlans f).pins = s.pins := rfl
@[simp] theorem onPlans_pending (f : PlanTable → PlanTable) : (s.onPlans f).pending = s.pending := rfl

/-! ## onArbiter -/

@[simp] theorem onArbiter_stock (f : Arbiter → Arbiter) : (s.onArbiter f).stock = s.stock := rfl
@[simp] theorem onArbiter_jobs (f : Arbiter → Arbiter) : (s.onArbiter f).jobs = s.jobs := rfl
@[simp] theorem onArbiter_engine (f : Arbiter → Arbiter) : (s.onArbiter f).engine = s.engine := rfl
@[simp] theorem onArbiter_plans (f : Arbiter → Arbiter) : (s.onArbiter f).plans = s.plans := rfl
@[simp] theorem onArbiter_stations (f : Arbiter → Arbiter) : (s.onArbiter f).stations = s.stations := rfl
@[simp] theorem onArbiter_arbiter (f : Arbiter → Arbiter) : (s.onArbiter f).arbiter = f s.arbiter := rfl
@[simp] theorem onArbiter_plant (f : Arbiter → Arbiter) : (s.onArbiter f).plant = s.plant := rfl
@[simp] theorem onArbiter_rates (f : Arbiter → Arbiter) : (s.onArbiter f).rates = s.rates := rfl
@[simp] theorem onArbiter_link (f : Arbiter → Arbiter) : (s.onArbiter f).link = s.link := rfl
@[simp] theorem onArbiter_pins (f : Arbiter → Arbiter) : (s.onArbiter f).pins = s.pins := rfl
@[simp] theorem onArbiter_pending (f : Arbiter → Arbiter) : (s.onArbiter f).pending = s.pending := rfl

/-! ## onPlant -/

@[simp] theorem onPlant_stock (f : Plant → Plant) : (s.onPlant f).stock = s.stock := rfl
@[simp] theorem onPlant_jobs (f : Plant → Plant) : (s.onPlant f).jobs = s.jobs := rfl
@[simp] theorem onPlant_engine (f : Plant → Plant) : (s.onPlant f).engine = s.engine := rfl
@[simp] theorem onPlant_plans (f : Plant → Plant) : (s.onPlant f).plans = s.plans := rfl
@[simp] theorem onPlant_stations (f : Plant → Plant) : (s.onPlant f).stations = s.stations := rfl
@[simp] theorem onPlant_arbiter (f : Plant → Plant) : (s.onPlant f).arbiter = s.arbiter := rfl
@[simp] theorem onPlant_plant (f : Plant → Plant) : (s.onPlant f).plant = f s.plant := rfl
@[simp] theorem onPlant_rates (f : Plant → Plant) : (s.onPlant f).rates = s.rates := rfl
@[simp] theorem onPlant_link (f : Plant → Plant) : (s.onPlant f).link = s.link := rfl
@[simp] theorem onPlant_pins (f : Plant → Plant) : (s.onPlant f).pins = s.pins := rfl
@[simp] theorem onPlant_pending (f : Plant → Plant) : (s.onPlant f).pending = s.pending := rfl

/-! ## onRates -/

@[simp] theorem onRates_stock (f : Rates → Rates) : (s.onRates f).stock = s.stock := rfl
@[simp] theorem onRates_jobs (f : Rates → Rates) : (s.onRates f).jobs = s.jobs := rfl
@[simp] theorem onRates_engine (f : Rates → Rates) : (s.onRates f).engine = s.engine := rfl
@[simp] theorem onRates_plans (f : Rates → Rates) : (s.onRates f).plans = s.plans := rfl
@[simp] theorem onRates_stations (f : Rates → Rates) : (s.onRates f).stations = s.stations := rfl
@[simp] theorem onRates_arbiter (f : Rates → Rates) : (s.onRates f).arbiter = s.arbiter := rfl
@[simp] theorem onRates_plant (f : Rates → Rates) : (s.onRates f).plant = s.plant := rfl
@[simp] theorem onRates_rates (f : Rates → Rates) : (s.onRates f).rates = f s.rates := rfl
@[simp] theorem onRates_link (f : Rates → Rates) : (s.onRates f).link = s.link := rfl
@[simp] theorem onRates_pins (f : Rates → Rates) : (s.onRates f).pins = s.pins := rfl
@[simp] theorem onRates_pending (f : Rates → Rates) : (s.onRates f).pending = s.pending := rfl

/-! ## onLink -/

@[simp] theorem onLink_stock (f : Link → Link) : (s.onLink f).stock = s.stock := rfl
@[simp] theorem onLink_jobs (f : Link → Link) : (s.onLink f).jobs = s.jobs := rfl
@[simp] theorem onLink_engine (f : Link → Link) : (s.onLink f).engine = s.engine := rfl
@[simp] theorem onLink_plans (f : Link → Link) : (s.onLink f).plans = s.plans := rfl
@[simp] theorem onLink_stations (f : Link → Link) : (s.onLink f).stations = s.stations := rfl
@[simp] theorem onLink_arbiter (f : Link → Link) : (s.onLink f).arbiter = s.arbiter := rfl
@[simp] theorem onLink_plant (f : Link → Link) : (s.onLink f).plant = s.plant := rfl
@[simp] theorem onLink_rates (f : Link → Link) : (s.onLink f).rates = s.rates := rfl
@[simp] theorem onLink_link (f : Link → Link) : (s.onLink f).link = f s.link := rfl
@[simp] theorem onLink_pins (f : Link → Link) : (s.onLink f).pins = s.pins := rfl
@[simp] theorem onLink_pending (f : Link → Link) : (s.onLink f).pending = s.pending := rfl

/-! ## onPins -/

@[simp] theorem onPins_stock (f : Pins → Pins) : (s.onPins f).stock = s.stock := rfl
@[simp] theorem onPins_jobs (f : Pins → Pins) : (s.onPins f).jobs = s.jobs := rfl
@[simp] theorem onPins_engine (f : Pins → Pins) : (s.onPins f).engine = s.engine := rfl
@[simp] theorem onPins_plans (f : Pins → Pins) : (s.onPins f).plans = s.plans := rfl
@[simp] theorem onPins_stations (f : Pins → Pins) : (s.onPins f).stations = s.stations := rfl
@[simp] theorem onPins_arbiter (f : Pins → Pins) : (s.onPins f).arbiter = s.arbiter := rfl
@[simp] theorem onPins_plant (f : Pins → Pins) : (s.onPins f).plant = s.plant := rfl
@[simp] theorem onPins_rates (f : Pins → Pins) : (s.onPins f).rates = s.rates := rfl
@[simp] theorem onPins_link (f : Pins → Pins) : (s.onPins f).link = s.link := rfl
@[simp] theorem onPins_pins (f : Pins → Pins) : (s.onPins f).pins = f s.pins := rfl
@[simp] theorem onPins_pending (f : Pins → Pins) : (s.onPins f).pending = s.pending := rfl

/-! ## onStation -/

@[simp] theorem onStation_stock (st : Fin 6) (f : Station → Station) : (s.onStation st f).stock = s.stock := rfl
@[simp] theorem onStation_jobs (st : Fin 6) (f : Station → Station) : (s.onStation st f).jobs = s.jobs := rfl
@[simp] theorem onStation_engine (st : Fin 6) (f : Station → Station) : (s.onStation st f).engine = s.engine := rfl
@[simp] theorem onStation_plans (st : Fin 6) (f : Station → Station) : (s.onStation st f).plans = s.plans := rfl
@[simp] theorem onStation_stations (st : Fin 6) (f : Station → Station) : (s.onStation st f).stations = s.stations.set st (f (s.stations.get st)) := rfl
@[simp] theorem onStation_arbiter (st : Fin 6) (f : Station → Station) : (s.onStation st f).arbiter = s.arbiter := rfl
@[simp] theorem onStation_plant (st : Fin 6) (f : Station → Station) : (s.onStation st f).plant = s.plant := rfl
@[simp] theorem onStation_rates (st : Fin 6) (f : Station → Station) : (s.onStation st f).rates = s.rates := rfl
@[simp] theorem onStation_link (st : Fin 6) (f : Station → Station) : (s.onStation st f).link = s.link := rfl
@[simp] theorem onStation_pins (st : Fin 6) (f : Station → Station) : (s.onStation st f).pins = s.pins := rfl
@[simp] theorem onStation_pending (st : Fin 6) (f : Station → Station) : (s.onStation st f).pending = s.pending := rfl

/-! ## putJob -/

@[simp] theorem putJob_stock (j : Fin 64) (b : Option Job) : (s.putJob j b).stock = s.stock := rfl
@[simp] theorem putJob_jobs (j : Fin 64) (b : Option Job) : (s.putJob j b).jobs = { s.jobs with slots := s.jobs.slots.set j b } := rfl
@[simp] theorem putJob_engine (j : Fin 64) (b : Option Job) : (s.putJob j b).engine = s.engine := rfl
@[simp] theorem putJob_plans (j : Fin 64) (b : Option Job) : (s.putJob j b).plans = s.plans := rfl
@[simp] theorem putJob_stations (j : Fin 64) (b : Option Job) : (s.putJob j b).stations = s.stations := rfl
@[simp] theorem putJob_arbiter (j : Fin 64) (b : Option Job) : (s.putJob j b).arbiter = s.arbiter := rfl
@[simp] theorem putJob_plant (j : Fin 64) (b : Option Job) : (s.putJob j b).plant = s.plant := rfl
@[simp] theorem putJob_rates (j : Fin 64) (b : Option Job) : (s.putJob j b).rates = s.rates := rfl
@[simp] theorem putJob_link (j : Fin 64) (b : Option Job) : (s.putJob j b).link = s.link := rfl
@[simp] theorem putJob_pins (j : Fin 64) (b : Option Job) : (s.putJob j b).pins = s.pins := rfl
@[simp] theorem putJob_pending (j : Fin 64) (b : Option Job) : (s.putJob j b).pending = s.pending := rfl

/-! ## putPlan -/

@[simp] theorem putPlan_stock (p : Fin 16) (x : Option Plan) : (s.putPlan p x).stock = s.stock := rfl
@[simp] theorem putPlan_jobs (p : Fin 16) (x : Option Plan) : (s.putPlan p x).jobs = s.jobs := rfl
@[simp] theorem putPlan_engine (p : Fin 16) (x : Option Plan) : (s.putPlan p x).engine = s.engine := rfl
@[simp] theorem putPlan_plans (p : Fin 16) (x : Option Plan) : (s.putPlan p x).plans = { s.plans with slots := s.plans.slots.set p x } := rfl
@[simp] theorem putPlan_stations (p : Fin 16) (x : Option Plan) : (s.putPlan p x).stations = s.stations := rfl
@[simp] theorem putPlan_arbiter (p : Fin 16) (x : Option Plan) : (s.putPlan p x).arbiter = s.arbiter := rfl
@[simp] theorem putPlan_plant (p : Fin 16) (x : Option Plan) : (s.putPlan p x).plant = s.plant := rfl
@[simp] theorem putPlan_rates (p : Fin 16) (x : Option Plan) : (s.putPlan p x).rates = s.rates := rfl
@[simp] theorem putPlan_link (p : Fin 16) (x : Option Plan) : (s.putPlan p x).link = s.link := rfl
@[simp] theorem putPlan_pins (p : Fin 16) (x : Option Plan) : (s.putPlan p x).pins = s.pins := rfl
@[simp] theorem putPlan_pending (p : Fin 16) (x : Option Plan) : (s.putPlan p x).pending = s.pending := rfl

/-! ## raiseNotice -/

@[simp] theorem raiseNotice_stock (k : NoticeKind) (o : Nat) : (raiseNotice k o s).stock = s.stock := rfl
@[simp] theorem raiseNotice_jobs (k : NoticeKind) (o : Nat) : (raiseNotice k o s).jobs = s.jobs := rfl
@[simp] theorem raiseNotice_engine (k : NoticeKind) (o : Nat) : (raiseNotice k o s).engine = s.engine := rfl
@[simp] theorem raiseNotice_plans (k : NoticeKind) (o : Nat) : (raiseNotice k o s).plans = s.plans := rfl
@[simp] theorem raiseNotice_stations (k : NoticeKind) (o : Nat) : (raiseNotice k o s).stations = s.stations := rfl
@[simp] theorem raiseNotice_arbiter (k : NoticeKind) (o : Nat) : (raiseNotice k o s).arbiter = s.arbiter := rfl
@[simp] theorem raiseNotice_plant (k : NoticeKind) (o : Nat) : (raiseNotice k o s).plant = s.plant := rfl
@[simp] theorem raiseNotice_rates (k : NoticeKind) (o : Nat) : (raiseNotice k o s).rates = s.rates := rfl
@[simp] theorem raiseNotice_link (k : NoticeKind) (o : Nat) : (raiseNotice k o s).link = postNotice k o s.link := rfl
@[simp] theorem raiseNotice_pins (k : NoticeKind) (o : Nat) : (raiseNotice k o s).pins = s.pins := rfl
@[simp] theorem raiseNotice_pending (k : NoticeKind) (o : Nat) : (raiseNotice k o s).pending = s.pending := rfl

/-! ## takeFrame -/

@[simp] theorem takeFrame_stock (n : Nat) : (takeFrame n s).stock = s.stock := rfl
@[simp] theorem takeFrame_jobs (n : Nat) : (takeFrame n s).jobs = s.jobs := rfl
@[simp] theorem takeFrame_engine (n : Nat) : (takeFrame n s).engine = s.engine := rfl
@[simp] theorem takeFrame_plans (n : Nat) : (takeFrame n s).plans = s.plans := rfl
@[simp] theorem takeFrame_stations (n : Nat) : (takeFrame n s).stations = s.stations := rfl
@[simp] theorem takeFrame_arbiter (n : Nat) : (takeFrame n s).arbiter = s.arbiter := rfl
@[simp] theorem takeFrame_plant (n : Nat) : (takeFrame n s).plant = s.plant := rfl
@[simp] theorem takeFrame_rates (n : Nat) : (takeFrame n s).rates = s.rates := rfl
@[simp] theorem takeFrame_link (n : Nat) : (takeFrame n s).link = { s.link with miso := presented s n, response := none, held := false } := rfl
@[simp] theorem takeFrame_pins (n : Nat) : (takeFrame n s).pins = s.pins := rfl
@[simp] theorem takeFrame_pending (n : Nat) : (takeFrame n s).pending = s.pending := rfl

/-! ## putResponse -/

@[simp] theorem putResponse_stock (q : Status) (body : List Byte) : (putResponse q body s).stock = s.stock := rfl
@[simp] theorem putResponse_jobs (q : Status) (body : List Byte) : (putResponse q body s).jobs = s.jobs := rfl
@[simp] theorem putResponse_engine (q : Status) (body : List Byte) : (putResponse q body s).engine = s.engine := rfl
@[simp] theorem putResponse_plans (q : Status) (body : List Byte) : (putResponse q body s).plans = s.plans := rfl
@[simp] theorem putResponse_stations (q : Status) (body : List Byte) : (putResponse q body s).stations = s.stations := rfl
@[simp] theorem putResponse_arbiter (q : Status) (body : List Byte) : (putResponse q body s).arbiter = s.arbiter := rfl
@[simp] theorem putResponse_plant (q : Status) (body : List Byte) : (putResponse q body s).plant = s.plant := rfl
@[simp] theorem putResponse_rates (q : Status) (body : List Byte) : (putResponse q body s).rates = s.rates := rfl
@[simp] theorem putResponse_link (q : Status) (body : List Byte) : (putResponse q body s).link = { s.link with response := some ⟨q, body⟩, held := waitingFrame s.pending } := rfl
@[simp] theorem putResponse_pins (q : Status) (body : List Byte) : (putResponse q body s).pins = s.pins := rfl
@[simp] theorem putResponse_pending (q : Status) (body : List Byte) : (putResponse q body s).pending = s.pending := rfl

/-! ## withQueue -/

@[simp] theorem withQueue_stock (q : List Instr) : (s.withQueue q).stock = s.stock := rfl
@[simp] theorem withQueue_jobs (q : List Instr) : (s.withQueue q).jobs = s.jobs := rfl
@[simp] theorem withQueue_engine (q : List Instr) : (s.withQueue q).engine = s.engine := rfl
@[simp] theorem withQueue_plans (q : List Instr) : (s.withQueue q).plans = s.plans := rfl
@[simp] theorem withQueue_stations (q : List Instr) : (s.withQueue q).stations = s.stations := rfl
@[simp] theorem withQueue_arbiter (q : List Instr) : (s.withQueue q).arbiter = s.arbiter := rfl
@[simp] theorem withQueue_plant (q : List Instr) : (s.withQueue q).plant = s.plant := rfl
@[simp] theorem withQueue_rates (q : List Instr) : (s.withQueue q).rates = s.rates := rfl
@[simp] theorem withQueue_link (q : List Instr) : (s.withQueue q).link = s.link := rfl
@[simp] theorem withQueue_pins (q : List Instr) : (s.withQueue q).pins = s.pins := rfl
@[simp] theorem withQueue_pending (q : List Instr) : (s.withQueue q).pending = q := rfl

/-! ## Reading a slot after writing one -/

@[simp] theorem get_set_self {α : Type} {n : Nat} (v : Vector α n) (i : Fin n) (x : α) : (v.set i x).get i = x := by
  simp [Vector.get_eq_getElem]

theorem get_set_ne {α : Type} {n : Nat} (v : Vector α n) (i j : Fin n) (x : α) (h : j ≠ i) : (v.set i x).get j = v.get j := by
  have : (i : Nat) ≠ j := fun e => h (Fin.ext e.symm)
  simp [Vector.get_eq_getElem, this]

@[simp] theorem station_onStation_self (st : Fin 6) (f : Station → Station) : (s.onStation st f).station st = f (s.station st) := by
  simp [State.station]

theorem station_onStation_ne (st q : Fin 6) (f : Station → Station) (h : q ≠ st) : (s.onStation st f).station q = s.station q := by
  simp [State.station, get_set_ne _ _ _ _ h]

@[simp] theorem job_putJob_self (j : Fin 64) (b : Option Job) : (s.putJob j b).job j = b := by
  simp [State.job]

theorem job_putJob_ne (i j : Fin 64) (b : Option Job) (h : i ≠ j) : (s.putJob j b).job i = s.job i := by
  simp [State.job, get_set_ne _ _ _ _ h]

@[simp] theorem plan_putPlan_self (p : Fin 16) (x : Option Plan) : (s.putPlan p x).plan p = x := by
  simp [State.plan]

theorem plan_putPlan_ne (p q : Fin 16) (x : Option Plan) (h : q ≠ p) : (s.putPlan p x).plan q = s.plan q := by
  simp [State.plan, get_set_ne _ _ _ _ h]

/-! ## Views that a transaction leaves as they are -/

@[simp] theorem station_takeFrame (st : Fin 6) (n : Nat) : (takeFrame n s).station st = s.station st := rfl
@[simp] theorem station_putResponse (st : Fin 6) (q : Status) (body : List Byte) : (putResponse q body s).station st = s.station st := rfl
@[simp] theorem station_raiseNotice (st : Fin 6) (k : NoticeKind) (o : Nat) : (raiseNotice k o s).station st = s.station st := rfl
@[simp] theorem job_takeFrame (j : Fin 64) (n : Nat) : (takeFrame n s).job j = s.job j := rfl
@[simp] theorem job_putResponse (j : Fin 64) (q : Status) (body : List Byte) : (putResponse q body s).job j = s.job j := rfl
@[simp] theorem job_raiseNotice (j : Fin 64) (k : NoticeKind) (o : Nat) : (raiseNotice k o s).job j = s.job j := rfl
@[simp] theorem plan_takeFrame (p : Fin 16) (n : Nat) : (takeFrame n s).plan p = s.plan p := rfl
@[simp] theorem plan_putResponse (p : Fin 16) (q : Status) (body : List Byte) : (putResponse q body s).plan p = s.plan p := rfl
@[simp] theorem plan_raiseNotice (p : Fin 16) (k : NoticeKind) (o : Nat) : (raiseNotice k o s).plan p = s.plan p := rfl
@[simp] theorem grant_takeFrame (st : Fin 6) (n : Nat) : (takeFrame n s).grant st = s.grant st := rfl
@[simp] theorem grant_putResponse (st : Fin 6) (q : Status) (body : List Byte) : (putResponse q body s).grant st = s.grant st := rfl
@[simp] theorem grant_raiseNotice (st : Fin 6) (k : NoticeKind) (o : Nat) : (raiseNotice k o s).grant st = s.grant st := rfl
@[simp] theorem request_takeFrame (st : Fin 6) (n : Nat) : (takeFrame n s).request st = s.request st := rfl
@[simp] theorem request_putResponse (st : Fin 6) (q : Status) (body : List Byte) : (putResponse q body s).request st = s.request st := rfl
@[simp] theorem request_raiseNotice (st : Fin 6) (k : NoticeKind) (o : Nat) : (raiseNotice k o s).request st = s.request st := rfl
@[simp] theorem permit_takeFrame (st : Fin 6) (n : Nat) : (takeFrame n s).permit st = s.permit st := rfl
@[simp] theorem permit_putResponse (st : Fin 6) (q : Status) (body : List Byte) : (putResponse q body s).permit st = s.permit st := rfl
@[simp] theorem permit_raiseNotice (st : Fin 6) (k : NoticeKind) (o : Nat) : (raiseNotice k o s).permit st = s.permit st := rfl
@[simp] theorem valve_takeFrame (st : Fin 6) (n : Nat) : (takeFrame n s).valve st = s.valve st := rfl
@[simp] theorem valve_putResponse (st : Fin 6) (q : Status) (body : List Byte) : (putResponse q body s).valve st = s.valve st := rfl
@[simp] theorem valve_raiseNotice (st : Fin 6) (k : NoticeKind) (o : Nat) : (raiseNotice k o s).valve st = s.valve st := rfl
@[simp] theorem placements_takeFrame (p : Fin 16) (n : Nat) : (takeFrame n s).placements p = s.placements p := rfl
@[simp] theorem placements_putResponse (p : Fin 16) (q : Status) (body : List Byte) : (putResponse q body s).placements p = s.placements p := rfl
@[simp] theorem placements_raiseNotice (p : Fin 16) (k : NoticeKind) (o : Nat) : (raiseNotice k o s).placements p = s.placements p := rfl

end Sys2Proof.Machine
end

