-- ==== Sys2Proof/Laws/Stock.lean ====
section
/-! SUPPORT. What the operations on slab records, racks, pieces and ordered lists do: one lemma for each thing a later proof reads off
the table afterwards. -/

namespace Sys2Proof.Machine

/-! ## Ordered lists -/

theorem insertBy_perm {α : Type} (before : α → α → Bool) (x : α) (l : List α) : (insertBy before x l).Perm (x :: l) := by
  induction l with
  | nil => exact .refl _
  | cons y l ih =>
    simp only [insertBy]
    split
    · exact (ih.cons y).trans (.swap x y l)
    · exact .refl _

theorem sortBy_perm {α : Type} (before : α → α → Bool) (l : List α) : (sortBy before l).Perm l := by
  induction l with
  | nil => exact .refl _
  | cons x l ih => exact (insertBy_perm before x _).trans (ih.cons x)

theorem insertBy_pairwise {α : Type} {before : α → α → Bool} {R : α → α → Prop} (htrans : ∀ a b c, R a b → R b c → R a c)
    (hyes : ∀ a b, before a b = true → R a b) (hno : ∀ a b, before a b = false → R b a) (x : α) {l : List α}
    (h : l.Pairwise R) : (insertBy before x l).Pairwise R := by
  induction l with
  | nil => simp [insertBy]
  | cons y l ih =>
    obtain ⟨hy, hl⟩ := List.pairwise_cons.mp h
    simp only [insertBy]
    split
    · refine List.pairwise_cons.mpr ⟨fun z hz => ?_, ih hl⟩
      rcases List.mem_cons.mp ((insertBy_perm before x l).mem_iff.mp hz) with rfl | hz
      · exact hyes _ _ ‹_›
      · exact hy z hz
    · rename_i hb
      have hxy := hno y x (by simpa using hb)
      refine List.pairwise_cons.mpr ⟨fun z hz => ?_, h⟩
      rcases List.mem_cons.mp hz with rfl | hz
      · exact hxy
      · exact htrans _ _ _ hxy (hy z hz)

theorem sortBy_pairwise {α : Type} {before : α → α → Bool} {R : α → α → Prop} (htrans : ∀ a b c, R a b → R b c → R a c)
    (hyes : ∀ a b, before a b = true → R a b) (hno : ∀ a b, before a b = false → R b a) (l : List α) :
    (sortBy before l).Pairwise R := by
  induction l with
  | nil => exact .nil
  | cons x l ih => exact insertBy_pairwise htrans hyes hno x ih

theorem find?_insertBy_false {α : Type} (before : α → α → Bool) (p : α → Bool) (x : α) (hx : p x = false) (l : List α) :
    (insertBy before x l).find? p = l.find? p := by
  induction l with
  | nil => simp [insertBy, hx]
  | cons y l ih =>
    simp only [insertBy]
    split
    · simp [List.find?_cons, ih]
    · simp [List.find?_cons, hx]

theorem find?_insertBy_true {α : Type} (before : α → α → Bool) (p : α → Bool) (x : α) (hx : p x = true) (l : List α)
    (hl : l.find? p = none) : (insertBy before x l).find? p = some x := by
  induction l with
  | nil => simp [insertBy, hx]
  | cons y l ih =>
    simp only [List.find?_cons] at hl
    simp only [insertBy]
    split at hl
    · cases hl
    · split
      · simp [*]
      · simp [hx]

/-! ## Slab records -/

theorem findSlab_serial {n : Nat} {k : Stock} {x : Slab} (h : findSlab n k = some x) : x.serial = n := by
  simpa using List.find?_some h

theorem findSlab_congr {k k' : Stock} (n : Nat) (h : k'.slabs = k.slabs) : findSlab n k' = findSlab n k := by
  simp [findSlab, h]

theorem findSlab_putSlab_self {n : Nat} {k : Stock} {x y : Slab} (h : findSlab n k = some x) (hy : y.serial = n) :
    findSlab n (putSlab y k) = some y := by
  subst hy
  obtain ⟨slabs, racks, classes, ns⟩ := k
  simp only [findSlab, putSlab] at *
  induction slabs with
  | nil => cases h
  | cons z l ih =>
    simp only [List.map_cons, List.find?_cons] at h ⊢
    by_cases hz : (z.serial == y.serial) = true
    · simp [hz]
    · rw [Bool.not_eq_true] at hz
      simp only [hz, Bool.false_eq_true, if_false] at h ⊢
      exact ih h

theorem findSlab_putSlab_ne {n : Nat} (k : Stock) {y : Slab} (hy : n ≠ y.serial) : findSlab n (putSlab y k) = findSlab n k := by
  obtain ⟨slabs, racks, classes, ns⟩ := k
  have hyn : (y.serial == n) = false := by simpa using fun e => hy e.symm
  simp only [findSlab, putSlab]
  induction slabs with
  | nil => rfl
  | cons z l ih =>
    simp only [List.map_cons, List.find?_cons]
    by_cases hz : (z.serial == y.serial) = true
    · have hzn : (z.serial == n) = false := by
        rw [eq_of_beq hz]; exact hyn
      simp only [hz, if_true, hyn, hzn]
      exact ih
    · rw [Bool.not_eq_true] at hz
      simp only [hz, Bool.false_eq_true, if_false, ih]

theorem findSlab_addSlab_self {k : Stock} {x : Slab} (h : findSlab x.serial k = none) : findSlab x.serial (addSlab x k) = some x :=
  find?_insertBy_true _ _ _ (by simp) _ h

theorem findSlab_addSlab_ne {n : Nat} (k : Stock) {x : Slab} (h : n ≠ x.serial) : findSlab n (addSlab x k) = findSlab n k :=
  find?_insertBy_false _ _ _ (by simpa using fun e => h e.symm) _

theorem findSlab_dropSlab_self (n : Nat) (k : Stock) : findSlab n (dropSlab n k) = none := by
  simp [findSlab, dropSlab]

theorem findSlab_dropSlab_ne {n m : Nat} (k : Stock) (h : n ≠ m) : findSlab n (dropSlab m k) = findSlab n k := by
  simp only [findSlab, dropSlab, List.find?_filter]
  congr 1
  funext x
  by_cases hx : x.serial = n
  · subst hx; simp [h]
  · simp [hx]

@[simp] theorem slabs_joinRack (n : Nat) (r : Fin 32) (k : Stock) : (joinRack n r k).slabs = k.slabs := rfl

@[simp] theorem slabs_leaveRack (x : Slab) (k : Stock) : (leaveRack x k).slabs = k.slabs := by
  unfold leaveRack; split <;> rfl

@[simp] theorem classes_leaveRack (x : Slab) (k : Stock) : (leaveRack x k).classes = k.classes := by
  unfold leaveRack; split <;> rfl

@[simp] theorem nextSerial_leaveRack (x : Slab) (k : Stock) : (leaveRack x k).nextSerial = k.nextSerial := by
  unfold leaveRack; split <;> rfl

theorem rackList_joinRack_self (n : Nat) (r : Fin 32) (k : Stock) : rackList r (joinRack n r k) = n :: rackList r k := by
  simp [rackList, joinRack]

theorem rackList_joinRack_ne {q r : Fin 32} (n : Nat) (k : Stock) (h : q ≠ r) : rackList q (joinRack n r k) = rackList q k := by
  simp [rackList, joinRack, get_set_ne _ _ _ _ h]

theorem rackList_leaveRack_self {x : Slab} {r : Fin 32} (k : Stock) (h : x.place = .rack r) :
    rackList r (leaveRack x k) = (rackList r k).erase x.serial := by
  simp [rackList, leaveRack, h]

theorem rackList_leaveRack_ne {x : Slab} {r : Fin 32} (k : Stock) (h : x.place ≠ .rack r) :
    rackList r (leaveRack x k) = rackList r k := by
  unfold leaveRack
  split
  · rename_i q hq
    have : r ≠ q := fun e => h (e ▸ hq)
    simp [rackList, get_set_ne _ _ _ _ this]
  · rfl

@[simp] theorem rackList_putSlab (x : Slab) (r : Fin 32) (k : Stock) : rackList r (putSlab x k) = rackList r k := rfl

@[simp] theorem rackList_addSlab (x : Slab) (r : Fin 32) (k : Stock) : rackList r (addSlab x k) = rackList r k := rfl

@[simp] theorem rackList_dropSlab (n : Nat) (r : Fin 32) (k : Stock) : rackList r (dropSlab n k) = rackList r k := rfl

/-- Release of a record that is in the table: the record reads AVAILABLE with no plan, and nothing else differs. -/
theorem releaseRecord_of_find {n : Nat} {k : Stock} {x : Slab} (h : findSlab n k = some x) :
    releaseRecord n k = putSlab { x with state := .available, plan := none } k := by
  simp [releaseRecord, h]

/-! ## Pieces -/

theorem findPiece_id {i : PieceId} {t : JobTable} {x : Piece} (h : findPiece i t = some x) : x.id = i := by
  simpa using List.find?_some h

theorem findPiece_congr {t t' : JobTable} (i : PieceId) (h : t'.pieces = t.pieces) : findPiece i t' = findPiece i t := by
  simp [findPiece, h]

/-- A change of the pieces of a set of names reads back as that change on those names, and as nothing on the others. -/
theorem findPiece_modPieces (ids : List PieceId) (f : Piece → Piece) (hf : ∀ x, (f x).id = x.id) (i : PieceId) (t : JobTable) :
    findPiece i (modPieces ids f t) = (findPiece i t).map fun x => if i ∈ ids then f x else x := by
  obtain ⟨slots, pieces⟩ := t
  simp only [findPiece, modPieces]
  induction pieces with
  | nil => rfl
  | cons y l ih =>
    by_cases hy : y.id = i
    · subst hy
      by_cases hm : y.id ∈ ids <;> simp [hm, hf]
    · have : ¬ (if ids.contains y.id then f y else y).id = i := by split <;> simp [hf, hy]
      simp only [List.map_cons, List.find?_cons]
      rw [show ((if ids.contains y.id then f y else y).id == i) = false by simpa using this,
        show (y.id == i) = false by simpa using hy]
      exact ih

@[simp] theorem slots_modPieces (ids : List PieceId) (f : Piece → Piece) (t : JobTable) : (modPieces ids f t).slots = t.slots := rfl

theorem findPiece_enterPiece_self {t : JobTable} {x : Piece} (h : findPiece x.id t = none) :
    findPiece x.id (enterPiece x t) = some x :=
  find?_insertBy_true _ _ _ (by simp) _ h

theorem findPiece_enterPiece_ne {t : JobTable} {x : Piece} {i : PieceId} (h : i ≠ x.id) :
    findPiece i (enterPiece x t) = findPiece i t :=
  find?_insertBy_false _ _ _ (by simpa using fun e => h e.symm) _

theorem findPiece_deletePieces (sel : Piece → Bool) (i : PieceId) (t : JobTable) (h : ∀ x ∈ t.pieces, x.id = i → sel x = false) :
    findPiece i (deletePieces sel t) = findPiece i t := by
  obtain ⟨slots, pieces⟩ := t
  simp only [findPiece, deletePieces] at *
  induction pieces with
  | nil => rfl
  | cons y l ih =>
    have ih := ih fun x hx => h x (List.mem_cons_of_mem y hx)
    by_cases hy : y.id = i
    · have := h y (by simp) hy
      simp [this, hy]
    · cases hs : sel y
      · simpa [hs, hy] using ih
      · simpa [hs, hy] using ih

end Sys2Proof.Machine
end

