-- ==== Sys2Proof/Laws/Ops.lean ====
section
/-! SUPPORT. What each shared operation can do, said once: the notice set, charges, placements and counts, the moves of the Grant
Arbiter, and a station losing a plan.  A later proof cites these and does not unfold the operations. -/

namespace Sys2Proof.Machine

/-! ## Folds -/

/-- A relation that every step of a fold keeps, and that composes, holds from the fold's start to its end. -/
theorem foldl_rel {α β : Type} {R : β → β → Prop} (hr : ∀ b, R b b) (ht : ∀ a b c, R a b → R b c → R a c) (f : β → α → β)
    (hf : ∀ b a, R b (f b a)) (l : List α) (b : β) : R b (l.foldl f b) := by
  induction l generalizing b with
  | nil => exact hr b
  | cons a l ih => exact ht _ _ _ (hf b a) (ih _)

/-! ## Notices -/

@[simp] theorem postNotice_response (k : NoticeKind) (o : Nat) (l : Link) : (postNotice k o l).response = l.response := by
  unfold postNotice; split <;> [rfl; split <;> rfl]

@[simp] theorem postNotice_miso (k : NoticeKind) (o : Nat) (l : Link) : (postNotice k o l).miso = l.miso := by
  unfold postNotice; split <;> [rfl; split <;> rfl]

@[simp] theorem postNotice_held (k : NoticeKind) (o : Nat) (l : Link) : (postNotice k o l).held = l.held := by
  unfold postNotice; split <;> [rfl; split <;> rfl]

@[simp] theorem postNotice_mode (k : NoticeKind) (o : Nat) (l : Link) : (postNotice k o l).mode = l.mode := by
  unfold postNotice; split <;> [rfl; split <;> rfl]

/-- A notice posted on a link whose transaction fields differ gives the same notices. -/
theorem postNotice_with (k : NoticeKind) (o : Nat) (l : Link) (r : Option Response) (m : List Byte) (h : Bool) :
    postNotice k o { l with response := r, miso := m, held := h } = { postNotice k o l with response := r, miso := m, held := h } := by
  unfold postNotice; split <;> [rfl; split <;> rfl]

/-! ## Frames

`LinkKept`: only the notice set and its overflow flag may differ.  `MoneyFrame j`: only the cost and the over-budget flag of job `j`
and the notices may differ.  `StationKept`: only a station's hold timer, dry timer and snapshots may differ.  `WaterFrame`: the sum of
what the arbiter's moves and their charges to job 0 can do. -/

/-- Only the notice set and its overflow flag may differ. -/
structure LinkKept (l m : Link) : Prop where
  response : m.response = l.response
  miso : m.miso = l.miso
  mode : m.mode = l.mode
  held : m.held = l.held

theorem LinkKept.refl (l : Link) : LinkKept l l := ⟨rfl, rfl, rfl, rfl⟩

theorem LinkKept.trans {l m n : Link} (h : LinkKept l m) (g : LinkKept m n) : LinkKept l n :=
  ⟨g.1.trans h.1, g.2.trans h.2, g.3.trans h.3, g.4.trans h.4⟩

theorem postNotice_kept (k : NoticeKind) (o : Nat) (l : Link) : LinkKept l (postNotice k o l) := ⟨by simp, by simp, by simp, by simp⟩

/-- A job that differs at most in its cost record and its over-budget flag. -/
def JobKept (a b : Option Job) : Prop :=
  (a = none ∧ b = none) ∨ ∃ x y, a = some x ∧ b = some y ∧ y = { x with cost := y.cost, overBudget := y.overBudget }

theorem JobKept.refl (a : Option Job) : JobKept a a := by
  cases a with
  | none => exact .inl ⟨rfl, rfl⟩
  | some x => exact .inr ⟨x, x, rfl, rfl, rfl⟩

theorem JobKept.trans {a b c : Option Job} (h : JobKept a b) (g : JobKept b c) : JobKept a c := by
  rcases h with ⟨rfl, rfl⟩ | ⟨x, y, rfl, rfl, hy⟩
  · exact g
  · rcases g with ⟨h1, _⟩ | ⟨y', z, h1, rfl, hz⟩
    · cases h1
    · cases h1
      refine .inr ⟨x, z, rfl, rfl, ?_⟩
      rw [hz, hy]

/-- What a charge to job `j` can do. -/
structure MoneyFrame (j : Fin 64) (s t : State) : Prop where
  state : t = { s with jobs := t.jobs, link := t.link }
  pieces : t.jobs.pieces = s.jobs.pieces
  other : ∀ i, i ≠ j → t.job i = s.job i
  job : JobKept (s.job j) (t.job j)
  link : LinkKept s.link t.link

theorem MoneyFrame.refl (j : Fin 64) (s : State) : MoneyFrame j s s := ⟨rfl, rfl, fun _ _ => rfl, .refl _, .refl _⟩

theorem MoneyFrame.trans {j : Fin 64} {s t u : State} (h : MoneyFrame j s t) (g : MoneyFrame j t u) : MoneyFrame j s u where
  state := by rw [g.state, h.state]
  pieces := g.pieces.trans h.pieces
  other i hi := (g.other i hi).trans (h.other i hi)
  job := h.job.trans g.job
  link := h.link.trans g.link

theorem raiseNotice_money (j : Fin 64) (k : NoticeKind) (o : Nat) (s : State) : MoneyFrame j s (raiseNotice k o s) :=
  ⟨rfl, rfl, fun _ _ => rfl, .refl _, postNotice_kept k o s.link⟩

theorem putJob_money {j : Fin 64} {s : State} {b d : Job} (h : s.job j = some b)
    (hd : d = { b with cost := d.cost, overBudget := d.overBudget }) : MoneyFrame j s (s.putJob j (some d)) where
  state := rfl
  pieces := rfl
  other i hi := job_putJob_ne _ _ _ _ hi
  job := .inr ⟨b, d, h, by simp, hd⟩
  link := .refl _

theorem budgetWatch_money (j : Fin 64) (s : State) : MoneyFrame j s (budgetWatch j s) := by
  unfold budgetWatch
  split
  · rename_i b hb
    split
    · exact (putJob_money hb rfl).trans (raiseNotice_money j _ _ _)
    · exact .refl j s
  · exact .refl j s

/-! ## Charges (R140 to R142, R97) -/

/-- A charge to a job touches that job's cost and over-budget flag and the notices, nothing else. -/
theorem charge_money (j : Fin 64) (c : Category) (q r : Nat) (s : State) : MoneyFrame j s (charge j c q r s) := by
  unfold charge
  split
  · rename_i b hb
    refine MoneyFrame.trans ?_ (budgetWatch_money j _)
    have h1 : MoneyFrame j s (s.putJob j (some { b with cost := putAcc b.cost c (addProduct (getAcc b.cost c)
      (chargeProduct q r)) })) := putJob_money hb rfl
    split
    · exact h1
    · exact h1.trans (raiseNotice_money j _ _ _)
  · exact .refl j s

/-- The budget watch leaves the cost record. -/
theorem budgetWatch_cost {j : Fin 64} {s : State} {b : Job} (h : s.job j = some b) :
    ∃ d, (budgetWatch j s).job j = some d ∧ d = { b with overBudget := d.overBudget } ∧
      d.overBudget = (b.overBudget || decide (0 < b.budget ∧ b.budget ≤ totalCents b.cost)) := by
  unfold budgetWatch
  rw [h]
  dsimp only
  split
  · rename_i hc
    exact ⟨{ b with overBudget := true }, by simp, rfl, by simp [hc.1, hc.2.1]⟩
  · rename_i hc
    refine ⟨b, h, rfl, ?_⟩
    cases ho : b.overBudget
    · simp only [ho, and_true] at hc
      simpa using fun h1 h2 => hc ⟨h1, h2⟩
    · simp

/-- What a charge makes of the charged job. -/
theorem charge_job {j : Fin 64} {s : State} {b : Job} (c : Category) (q r : Nat) (h : s.job j = some b) :
    ∃ d, (charge j c q r s).job j = some d ∧
      d = { b with cost := putAcc b.cost c (addProduct (getAcc b.cost c) (chargeProduct q r)), overBudget := d.overBudget } ∧
      d.overBudget = (b.overBudget || decide (0 < b.budget ∧ b.budget ≤ totalCents d.cost)) := by
  have key : ∀ t : State, t.job j = some { b with cost := putAcc b.cost c (addProduct (getAcc b.cost c) (chargeProduct q r)) } →
      ∃ d, (budgetWatch j t).job j = some d ∧
        d = { b with cost := putAcc b.cost c (addProduct (getAcc b.cost c) (chargeProduct q r)), overBudget := d.overBudget } ∧
        d.overBudget = (b.overBudget || decide (0 < b.budget ∧ b.budget ≤ totalCents d.cost)) := by
    intro t ht
    obtain ⟨d, h1, h2, h3⟩ := budgetWatch_cost ht
    refine ⟨d, h1, h2, ?_⟩
    rw [h3, h2]
  unfold charge
  rw [h]
  dsimp only
  split
  · exact key _ (by simp)
  · exact key _ (by simp)

/-- Charging a station's meters touches the job, the notices and the station's two snapshots. -/
theorem chargeMeters_eq (st : Fin 6) (j : Fin 64) (s : State) :
    ∃ t, MoneyFrame j s t ∧ chargeMeters st j s = t.onStation st snapMeters := by
  unfold chargeMeters
  refine ⟨_, ?_, rfl⟩
  split <;> split
  · exact (charge_money ..).trans (charge_money ..)
  · exact charge_money ..
  · exact charge_money ..
  · exact .refl ..

/-- What charging a station's meters makes of the charged job: SAW, then WATER, each where its meter has moved. -/
theorem chargeMeters_job {st : Fin 6} {j : Fin 64} {s : State} {b : Job} (h : s.job j = some b) :
    ∃ d, (chargeMeters st j s).job j = some d ∧ d = { b with cost := d.cost, overBudget := d.overBudget } ∧
      d.cost = { b.cost with
        saw := if (s.station st).runSnap < (s.station st).runMeter then
            addProduct b.cost.saw (chargeProduct ((s.station st).runMeter - (s.station st).runSnap) (s.station st).machineRate)
          else b.cost.saw
        water := if (s.station st).waterSnap < (s.station st).waterMeter then
            addProduct b.cost.water (chargeProduct ((s.station st).waterMeter - (s.station st).waterSnap) s.rates.water)
          else b.cost.water } := by
  unfold chargeMeters
  by_cases h1 : (s.station st).runSnap < (s.station st).runMeter <;>
    by_cases h2 : (s.station st).waterSnap < (s.station st).waterMeter <;>
      simp only [Nat.sub_pos_iff_lt, h1, h2, if_true, if_false]
  · obtain ⟨d, a1, a2, _⟩ := charge_job .saw ((s.station st).runMeter - (s.station st).runSnap) (s.station st).machineRate h
    obtain ⟨e, b1, b2, _⟩ := charge_job .water ((s.station st).waterMeter - (s.station st).waterSnap) s.rates.water a1
    refine ⟨e, b1, ?_, ?_⟩
    · rw [b2, a2]
    · rw [b2, a2]; rfl
  · obtain ⟨d, a1, a2, _⟩ := charge_job .saw ((s.station st).runMeter - (s.station st).runSnap) (s.station st).machineRate h
    exact ⟨d, a1, by rw [a2], by rw [a2]; rfl⟩
  · obtain ⟨d, a1, a2, _⟩ := charge_job .water ((s.station st).waterMeter - (s.station st).waterSnap) s.rates.water h
    exact ⟨d, a1, by rw [a2], by rw [a2]; rfl⟩
  · exact ⟨b, h, rfl, rfl⟩

/-! ## Jobs' counts (R26) -/

@[simp] theorem job_onStation (j : Fin 64) (st : Fin 6) (f : Station → Station) (s : State) : (s.onStation st f).job j = s.job j := rfl

theorem modJob_state (j : Fin 64) (f : Job → Job) (s : State) : s.modJob j f = { s with jobs := (s.modJob j f).jobs } := by
  unfold State.modJob; split <;> rfl

@[simp] theorem modJob_pieces (j : Fin 64) (f : Job → Job) (s : State) : (s.modJob j f).jobs.pieces = s.jobs.pieces := by
  unfold State.modJob; split <;> rfl

theorem job_modJob (i j : Fin 64) (f : Job → Job) (s : State) :
    (s.modJob j f).job i = if i = j then (s.job i).map f else s.job i := by
  unfold State.modJob
  by_cases h : i = j
  · subst h
    cases hb : s.job i with
    | none => simp [hb]
    | some b => simp
  · cases hb : s.job j with
    | none => simp [h]
    | some b => simp [h, job_putJob_ne _ _ _ _ h]

theorem countPlacements_state (l : List Placement) (s : State) :
    countPlacements l s = { s with jobs := (countPlacements l s).jobs } :=
  foldl_rel (R := fun a b : State => b = { a with jobs := b.jobs }) (fun _ => rfl) (fun a b c h g => by rw [g, h])
    _ (fun _ _ => modJob_state _ _ _) l s

theorem countPlacements_pieces (l : List Placement) (s : State) : (countPlacements l s).jobs.pieces = s.jobs.pieces :=
  foldl_rel (R := fun a b : State => b.jobs.pieces = a.jobs.pieces) (fun _ => rfl) (fun _ _ _ h g => g.trans h)
    _ (fun _ _ => by simp) l s

theorem countPlacements_job (j : Fin 64) (l : List Placement) (s : State) :
    (countPlacements l s).job j = (s.job j).map fun b =>
      { b with openCount := b.openCount + l.countP fun y => decide (y.piece.job = j) } := by
  induction l generalizing s with
  | nil => simp [countPlacements]
  | cons x l ih =>
    have : countPlacements (x :: l) s =
        countPlacements l (s.modJob x.piece.job fun b => { b with openCount := b.openCount + 1 }) := rfl
    rw [this, ih, job_modJob]
    by_cases h : j = x.piece.job
    · subst h
      cases s.job x.piece.job <;> simp
      omega
    · have h' : x.piece.job ≠ j := fun e => h e.symm
      simp [h, h']

theorem uncountPlacements_state (l : List Placement) (s : State) :
    uncountPlacements l s = { s with jobs := (uncountPlacements l s).jobs } :=
  foldl_rel (R := fun a b : State => b = { a with jobs := b.jobs }) (fun _ => rfl) (fun a b c h g => by rw [g, h])
    _ (fun _ _ => modJob_state _ _ _) l s

theorem uncountPlacements_pieces (l : List Placement) (s : State) : (uncountPlacements l s).jobs.pieces = s.jobs.pieces :=
  foldl_rel (R := fun a b : State => b.jobs.pieces = a.jobs.pieces) (fun _ => rfl) (fun _ _ _ h g => g.trans h)
    _ (fun _ _ => by simp) l s

theorem uncountPlacements_job (j : Fin 64) (l : List Placement) (s : State) :
    (uncountPlacements l s).job j = (s.job j).map fun b =>
      { b with openCount := b.openCount - l.countP fun y => decide (y.piece.job = j) } := by
  induction l generalizing s with
  | nil => simp [uncountPlacements]
  | cons x l ih =>
    have : uncountPlacements (x :: l) s =
        uncountPlacements l (s.modJob x.piece.job fun b => { b with openCount := b.openCount - 1 }) := rfl
    rw [this, ih, job_modJob]
    by_cases h : j = x.piece.job
    · subst h
      cases s.job x.piece.job <;> simp
      omega
    · have h' : x.piece.job ≠ j := fun e => h e.symm
      simp [h, h']

/-! ## Plans and placements -/

theorem modPlan_state (p : Fin 16) (f : Plan → Plan) (s : State) : s.modPlan p f = { s with plans := (s.modPlan p f).plans } := by
  unfold State.modPlan; split <;> rfl

theorem plan_modPlan (q p : Fin 16) (f : Plan → Plan) (s : State) :
    (s.modPlan p f).plan q = if q = p then (s.plan q).map f else s.plan q := by
  unfold State.modPlan
  by_cases h : q = p
  · subst h
    cases hb : s.plan q with
    | none => simp [hb]
    | some b => simp
  · cases hb : s.plan p with
    | none => simp [h]
    | some b => simp [h, plan_putPlan_ne _ _ _ _ h]

@[simp] theorem modPlan_queue (p : Fin 16) (f : Plan → Plan) (s : State) : (s.modPlan p f).plans.queue = s.plans.queue := by
  unfold State.modPlan; split <;> rfl

theorem layoutOf_onLayout (f : Layout → Layout) (x : Plan) : layoutOf (onLayout f x) = (layoutOf x).map f := by
  unfold onLayout
  split <;> simp_all [layoutOf]

theorem placementsOf_onPlacements (f : List Placement → List Placement) (hf : f [] = []) (x : Plan) :
    placementsOf (onPlacements f x) = f (placementsOf x) := by
  unfold onPlacements placementsOf
  rw [layoutOf_onLayout]
  cases layoutOf x <;> simp [hf]

/-- The placements that reading a plan after one of them is given a state shows. -/
theorem placements_setPlacement (p q : Fin 16) (i : Nat) (z : PlaceState) (s : State) :
    (setPlacement p i z s).placements q = if q = p then (s.placements q).modify i (withState z) else s.placements q := by
  unfold State.placements setPlacement
  rw [plan_modPlan]
  by_cases h : q = p
  · subst h
    cases s.plan q with
    | none => simp
    | some x => simp [placementsOf_onPlacements]
  · simp [h]

/-! ## The Grant Arbiter (R99 to R107) -/

/-- A station that differs at most in its hold timer, its dry timer and its two snapshots. -/
def StationKept (x y : Station) : Prop :=
  y = { x with hold := y.hold, dryTimer := y.dryTimer, runSnap := y.runSnap, waterSnap := y.waterSnap }

theorem StationKept.refl (x : Station) : StationKept x x := rfl

theorem StationKept.trans {x y z : Station} (h : StationKept x y) (g : StationKept y z) : StationKept x z := by
  unfold StationKept at *
  rw [g, h]

/-- What the arbiter's moves, and the charges to job 0 that they make, can do. -/
structure WaterFrame (s t : State) : Prop where
  state : t = { s with jobs := t.jobs, stations := t.stations, arbiter := t.arbiter, link := t.link }
  pieces : t.jobs.pieces = s.jobs.pieces
  other : ∀ j, j ≠ 0 → t.job j = s.job j
  overhead : JobKept (s.job 0) (t.job 0)
  link : LinkKept s.link t.link
  station : ∀ st, StationKept (s.station st) (t.station st)
  capacity : t.arbiter.capacity = s.arbiter.capacity
  table : t.arbiter.table = s.arbiter.table

theorem WaterFrame.refl (s : State) : WaterFrame s s :=
  ⟨rfl, rfl, fun _ _ => rfl, .refl _, .refl _, fun _ => .refl _, rfl, rfl⟩

theorem WaterFrame.trans {s t u : State} (h : WaterFrame s t) (g : WaterFrame t u) : WaterFrame s u where
  state := by rw [g.state, h.state]
  pieces := g.pieces.trans h.pieces
  other j hj := (g.other j hj).trans (h.other j hj)
  overhead := h.overhead.trans g.overhead
  link := h.link.trans g.link
  station st := (h.station st).trans (g.station st)
  capacity := g.capacity.trans h.capacity
  table := g.table.trans h.table

theorem raiseNotice_water (k : NoticeKind) (o : Nat) (s : State) : WaterFrame s (raiseNotice k o s) :=
  ⟨rfl, rfl, fun _ _ => rfl, .refl _, postNotice_kept k o s.link, fun _ => .refl _, rfl, rfl⟩

theorem onArbiter_water (f : Arbiter → Arbiter) (s : State) (hc : ∀ a, (f a).capacity = a.capacity)
    (ht : ∀ a, (f a).table = a.table) : WaterFrame s (s.onArbiter f) :=
  ⟨rfl, rfl, fun _ _ => rfl, .refl _, .refl _, fun _ => .refl _, hc _, ht _⟩

theorem onStation_water (st : Fin 6) (f : Station → Station) (s : State) (hf : ∀ x, StationKept x (f x)) :
    WaterFrame s (s.onStation st f) where
  state := rfl
  pieces := rfl
  other _ _ := rfl
  overhead := .refl _
  link := .refl _
  station q := by
    by_cases h : q = st
    · subst h; rw [station_onStation_self]; exact hf _
    · rw [station_onStation_ne _ _ _ _ h]; exact .refl _
  capacity := rfl
  table := rfl

theorem MoneyFrame.water {s t : State} (h : MoneyFrame 0 s t) : WaterFrame s t := by
  have hs : t.stations = s.stations := by rw [h.state]
  have ha : t.arbiter = s.arbiter := by rw [h.state]
  refine ⟨?_, h.pieces, h.other, h.job, h.link, fun st => ?_, by rw [ha], by rw [ha]⟩
  · rw [h.state]
  · rw [State.station, State.station, hs]; exact .refl _

theorem startHoldIf_water (st : Fin 6) (s : State) : WaterFrame s (startHoldIf st s) := by
  unfold startHoldIf
  split
  · exact onStation_water st startHold s fun _ => rfl
  · exact .refl s

theorem chargeMeters_water (st : Fin 6) (s : State) : WaterFrame s (chargeMeters st 0 s) := by
  obtain ⟨t, h, e⟩ := chargeMeters_eq st 0 s
  rw [e]
  exact h.water.trans (onStation_water st snapMeters t fun _ => rfl)

theorem makeGrant_water (r : Request) (s : State) : WaterFrame s (makeGrant r s) := by
  unfold makeGrant
  refine WaterFrame.trans ?_ (raiseNotice_water ..)
  refine WaterFrame.trans ?_ (startHoldIf_water ..)
  exact (onArbiter_water (fun a => enterGrant ⟨r.station, r.level, r.stamp, false⟩ (dropRequest r.station a)) s (fun _ => rfl)
    fun _ => rfl).trans (onStation_water r.station (fun x => { x with dryTimer := 0 }) _ fun _ => rfl)

theorem arbitrateUpTo_water (n : Nat) (s : State) : WaterFrame s (arbitrateUpTo n s) := by
  induction n generalizing s with
  | zero => exact .refl s
  | succ n ih =>
    unfold arbitrateUpTo
    split
    · exact (makeGrant_water ..).trans (ih _)
    · exact .refl s

/-- Arbitration touches the arbiter's lists, the hold and dry timers of the stations it grants, and the notices. -/
theorem arbitrate_water (s : State) : WaterFrame s (arbitrate s) := arbitrateUpTo_water _ s

theorem removeGrant_water (st : Fin 6) (s : State) : WaterFrame s (removeGrant st s) :=
  (onArbiter_water (dropGrant st) s (fun _ => rfl) fun _ => rfl).trans (onStation_water st stopHold _ fun _ => rfl)

theorem releaseGrant_water (st : Fin 6) (s : State) : WaterFrame s (releaseGrant st s) :=
  ((chargeMeters_water st s).trans (removeGrant_water st _)).trans (arbitrate_water _)

theorem releaseIfHeld_water (st : Fin 6) (s : State) : WaterFrame s (releaseIfHeld st s) := by
  unfold releaseIfHeld
  split
  · exact releaseGrant_water st s
  · exact .refl s

theorem withdrawRequest_water (st : Fin 6) (s : State) : WaterFrame s (withdrawRequest st s) := by
  unfold withdrawRequest
  split
  · exact (onArbiter_water (dropRequest st) s (fun _ => rfl) fun _ => rfl).trans (arbitrate_water _)
  · exact .refl s

theorem dropWater_water (st : Fin 6) (s : State) : WaterFrame s (dropWater st s) :=
  (releaseIfHeld_water st s).trans (withdrawRequest_water st _)

theorem releaseIfMarked_water (st : Fin 6) (s : State) : WaterFrame s (releaseIfMarked st s) := by
  unfold releaseIfMarked
  split
  · split
    · exact releaseGrant_water st s
    · exact .refl s
  · exact .refl s

theorem releaseMarkedIdle_water (s : State) (st : Fin 6) : WaterFrame s (releaseMarkedIdle s st) := by
  unfold releaseMarkedIdle
  split
  · exact .refl s
  · exact releaseIfMarked_water st s

theorem reformFloor_water (s : State) : WaterFrame s (reformFloor s) := by
  unfold reformFloor
  split
  · exact .refl s
  · refine WaterFrame.trans ?_ (arbitrate_water _)
    refine WaterFrame.trans ?_ (foldl_rel (R := WaterFrame) .refl (fun _ _ _ => .trans) _ releaseMarkedIdle_water _ _)
    exact (onArbiter_water (fun a => { a with floor := floorNow s }) s (fun _ => rfl) fun _ => rfl).trans
      (onArbiter_water markGrants _ (fun _ => rfl) fun _ => rfl)

theorem revokeGrant_water (s : State) (st : Fin 6) : WaterFrame s (revokeGrant s st) := by
  unfold revokeGrant
  split
  · refine WaterFrame.trans ?_ (raiseNotice_water ..)
    refine WaterFrame.trans ?_ (onArbiter_water (enterRequest _) _ (fun _ => rfl) fun _ => rfl)
    refine WaterFrame.trans ?_ (removeGrant_water ..)
    split
    · exact .refl s
    · exact chargeMeters_water st s
  · exact .refl s

theorem revokeAll_water (s : State) : WaterFrame s (revokeAll s) := by
  unfold revokeAll
  refine WaterFrame.trans ?_ (arbitrate_water _)
  refine WaterFrame.trans ?_ (foldl_rel (R := WaterFrame) .refl (fun _ _ _ => .trans) _ revokeGrant_water _ _)
  exact onArbiter_water (fun a => { a with floor := floorNow s }) s (fun _ => rfl) fun _ => rfl

theorem newRequest_keeps (st : Fin 6) (level : Nat) (a : Arbiter) :
    (newRequest st level a).capacity = a.capacity ∧ (newRequest st level a).table = a.table ∧
      (newRequest st level a).floor = a.floor := by
  unfold newRequest
  split <;> exact ⟨rfl, rfl, rfl⟩

/-- The water step of NEXT_CUT touches only what the arbiter's moves touch. -/
theorem waterStep_water (st : Fin 6) (level : Nat) (s : State) : WaterFrame s (waterStep st level s) := by
  have hn : ∀ t : State, WaterFrame t (t.onArbiter (newRequest st level)) :=
    fun t => onArbiter_water _ t (fun a => (newRequest_keeps st level a).1) fun a => (newRequest_keeps st level a).2.1
  unfold waterStep
  split
  · split
    · exact (onArbiter_water (relevelGrant st level) s (fun _ => rfl) fun _ => rfl).trans (arbitrate_water _)
    · exact ((releaseGrant_water st s).trans (hn _)).trans (arbitrate_water _)
  · split
    · exact (onArbiter_water (relevelRequest st level) s (fun _ => rfl) fun _ => rfl).trans (arbitrate_water _)
    · exact (hn s).trans (arbitrate_water _)

/-! ## Arbitration's choices (R104) -/

theorem bestRequest_mem {l : List Request} {r : Request} (h : bestRequest l = some r) : r ∈ l := by
  induction l generalizing r with
  | nil => cases h
  | cons x l ih =>
    simp only [bestRequest] at h
    split at h
    · rename_i q hq
      split at h
      · cases h; exact List.mem_cons_of_mem _ (ih hq)
      · cases h; simp
    · cases h; simp

/-- A request the arbiter grants is pending at a level above the floor, with a grant free and the clean tank not dry. -/
theorem nextGrant_spec {s : State} {r : Request} (h : nextGrant s = some r) :
    r ∈ s.arbiter.pending ∧ s.arbiter.floor < r.level ∧ s.arbiter.grants.length < s.arbiter.capacity ∧
      s.plant.clean.accepted ≠ 0 := by
  unfold nextGrant at h
  split at h
  · rename_i hc
    have := bestRequest_mem h
    simp only [List.mem_filter, grantable, decide_eq_true_eq] at this
    exact ⟨this.1, this.2, hc⟩
  · cases h

theorem arbitrateUpTo_of_none {s : State} (h : nextGrant s = none) (n : Nat) : arbitrateUpTo n s = s := by
  cases n with
  | zero => rfl
  | succ n => simp [arbitrateUpTo, h]

/-- With no request above the floor, arbitration changes nothing. -/
theorem arbitrate_of_low {s : State} (h : ∀ r ∈ s.arbiter.pending, r.level ≤ s.arbiter.floor) : arbitrate s = s := by
  refine arbitrateUpTo_of_none ?_ _
  cases hn : nextGrant s with
  | none => rfl
  | some r =>
    obtain ⟨h1, h2, _⟩ := nextGrant_spec hn
    exact absurd (h r h1) (by omega)

theorem arbitrate_of_empty {s : State} (h : s.arbiter.pending = []) : arbitrate s = s :=
  arbitrate_of_low (by simp [h])

theorem floor_makeGrant (r : Request) (s : State) : (makeGrant r s).arbiter.floor = s.arbiter.floor := by
  simp only [makeGrant, raiseNotice_arbiter, startHoldIf]
  split <;> rfl

theorem floor_arbitrate (s : State) : (arbitrate s).arbiter.floor = s.arbiter.floor := by
  unfold arbitrate
  generalize s.arbiter.pending.length = n
  induction n generalizing s with
  | zero => rfl
  | succ n ih =>
    unfold arbitrateUpTo
    split
    · rw [ih, floor_makeGrant]
    · rfl

/-- Arbitration only moves stations from the requests to the grants. -/
theorem stations_arbitrate (s : State) :
    ((arbitrate s).arbiter.pending.map fun r => r.station).Sublist (s.arbiter.pending.map fun r => r.station) ∧
      ∀ g ∈ s.arbiter.grants, g ∈ (arbitrate s).arbiter.grants := by
  unfold arbitrate
  generalize s.arbiter.pending.length = n
  induction n generalizing s with
  | zero => exact ⟨.refl _, fun _ h => h⟩
  | succ n ih =>
    unfold arbitrateUpTo
    split
    · rename_i r _
      have hp : (makeGrant r s).arbiter.pending = s.arbiter.pending.filter fun q => q.station != r.station := by
        simp only [makeGrant, raiseNotice_arbiter, startHoldIf]
        split <;> rfl
      have hg : (makeGrant r s).arbiter.grants =
          insertBy (fun x y => decide (x.station < y.station)) ⟨r.station, r.level, r.stamp, false⟩ s.arbiter.grants := by
        simp only [makeGrant, raiseNotice_arbiter, startHoldIf]
        split <;> rfl
      obtain ⟨i1, i2⟩ := ih (makeGrant r s)
      refine ⟨i1.trans ?_, fun g h => i2 g ?_⟩
      · rw [hp]; exact List.filter_sublist.map _
      · rw [hg]; exact (insertBy_perm _ _ _).mem_iff.mpr (List.mem_cons_of_mem _ h)
    · exact ⟨.refl _, fun _ h => h⟩

/-! ## A station losing a plan (R82) and a request served (R178 to R181) -/

theorem planLeavesStation_state (st : Fin 6) (p : Fin 16) (s : State) :
    planLeavesStation st p s = { s with
      jobs := (planLeavesStation st p s).jobs
      stations := (planLeavesStation st p s).stations
      arbiter := (planLeavesStation st p s).arbiter
      link := (planLeavesStation st p s).link } := by
  unfold planLeavesStation
  split
  · rw [(dropWater_water st _).state]; rfl
  · rfl

/-- A served request answers a next state, the block's work with the response placed. -/
theorem serve_eq (size : Nat) (work : State → Reply) (s : State) :
    serve size work s = .next (putResponse (work (takeFrame (size + 2) s)).status (work (takeFrame (size + 2) s)).body
      (work (takeFrame (size + 2) s)).state) := rfl

end Sys2Proof.Machine
end

