-- ==== Sys2Proof/Laws/Plant.lean ====
section
/-! SUPPORT. What the Plant Controller's moves can do: the cycle, its counter and settings, and the notices; never a filter, and nothing
outside the plant. -/

namespace Sys2Proof.Machine

/-- What a move of the cycle can do: the four filters stand, and outside the plant only the notices may differ. -/
structure PlantFrame (s t : State) : Prop where
  state : t = { s with plant := t.plant, link := t.link }
  link : LinkKept s.link t.link
  sump : t.plant.sump = s.plant.sump
  settling : t.plant.settling = s.plant.settling
  clean : t.plant.clean = s.plant.clean
  turbidity : t.plant.turbidity = s.plant.turbidity

theorem PlantFrame.refl (s : State) : PlantFrame s s := ⟨rfl, .refl _, rfl, rfl, rfl, rfl⟩

theorem PlantFrame.trans {s t u : State} (h : PlantFrame s t) (g : PlantFrame t u) : PlantFrame s u where
  state := by rw [g.state, h.state]
  link := h.link.trans g.link
  sump := g.sump.trans h.sump
  settling := g.settling.trans h.settling
  clean := g.clean.trans h.clean
  turbidity := g.turbidity.trans h.turbidity

theorem raiseNotice_plantFrame (k : NoticeKind) (o : Nat) (s : State) : PlantFrame s (raiseNotice k o s) :=
  ⟨rfl, postNotice_kept k o s.link, rfl, rfl, rfl, rfl⟩

theorem onPlant_plantFrame (f : Plant → Plant) (s : State) (h1 : (f s.plant).sump = s.plant.sump)
    (h2 : (f s.plant).settling = s.plant.settling) (h3 : (f s.plant).clean = s.plant.clean)
    (h4 : (f s.plant).turbidity = s.plant.turbidity) : PlantFrame s (s.onPlant f) :=
  ⟨rfl, .refl _, h1, h2, h3, h4⟩

theorem enterCycle_plantFrame (c : CycleState) (s : State) : PlantFrame s (enterCycle c s) :=
  (onPlant_plantFrame _ s rfl rfl rfl rfl).trans (raiseNotice_plantFrame ..)

theorem moveCycle_plantFrame (c : CycleState) (s : State) : PlantFrame s (moveCycle c s) := by
  unfold moveCycle
  split
  · exact .refl s
  · exact enterCycle_plantFrame c s

theorem setCounter_plantFrame (n : Nat) (s : State) : PlantFrame s (setCounter n s) := onPlant_plantFrame _ s rfl rfl rfl rfl

theorem enterSludge_plantFrame (s : State) : PlantFrame s (enterSludge s) :=
  (setCounter_plantFrame _ s).trans (enterCycle_plantFrame ..)

theorem decantEndTest_plantFrame (s : State) : PlantFrame s (decantEndTest s) := by
  unfold decantEndTest
  split
  · exact enterSludge_plantFrame s
  · exact .refl s

theorem cleanTest_plantFrame (s : State) : PlantFrame s (cleanTest s) := moveCycle_plantFrame ..

theorem decantTests_plantFrame (s : State) : PlantFrame s (decantTests s) := by
  unfold decantTests
  split
  · exact enterSludge_plantFrame s
  · exact cleanTest_plantFrame s

theorem enterDecant_plantFrame (s : State) : PlantFrame s (enterDecant s) :=
  ((setCounter_plantFrame _ s).trans (enterCycle_plantFrame ..)).trans (decantTests_plantFrame _)

theorem settleTest_plantFrame (s : State) : PlantFrame s (settleTest s) := by
  unfold settleTest
  split
  · exact enterDecant_plantFrame s
  · split <;> exact moveCycle_plantFrame ..

theorem loadSettings_plantFrame (s : State) : PlantFrame s (loadSettings s) := onPlant_plantFrame _ s rfl rfl rfl rfl

theorem enterDoseSettle_plantFrame (s : State) : PlantFrame s (enterDoseSettle s) :=
  ((setCounter_plantFrame _ s).trans (loadSettings_plantFrame _)).trans (settleTest_plantFrame _)

theorem fillTest_plantFrame (s : State) : PlantFrame s (fillTest s) := by
  unfold fillTest
  split
  · exact enterDoseSettle_plantFrame s
  · exact .refl s

theorem enterFill_plantFrame (s : State) : PlantFrame s (enterFill s) :=
  ((setCounter_plantFrame _ s).trans (enterCycle_plantFrame ..)).trans (fillTest_plantFrame _)

theorem startTest_plantFrame (s : State) : PlantFrame s (startTest s) := by
  unfold startTest
  split
  · exact enterFill_plantFrame s
  · exact .refl s

theorem fillFault_plantFrame (s : State) : PlantFrame s (fillFault s) :=
  ((raiseNotice_plantFrame ..).trans (onPlant_plantFrame _ _ rfl rfl rfl rfl)).trans (enterCycle_plantFrame ..)

theorem timeoutTest_plantFrame (s : State) : PlantFrame s (timeoutTest s) := by
  unfold timeoutTest
  split
  · split
    · exact enterDoseSettle_plantFrame s
    · exact fillFault_plantFrame s
  · exact .refl s

theorem endBatch_plantFrame (s : State) : PlantFrame s (endBatch s) := by
  have h : PlantFrame s (enterCycle .idle (s.onPlant fun p =>
      { p with batches := min Config.plantMax (p.batches + 1), counter := 0 })) :=
    (onPlant_plantFrame _ s rfl rfl rfl rfl).trans (enterCycle_plantFrame ..)
  unfold endBatch
  dsimp only
  split
  · split
    · exact h.trans (startTest_plantFrame _)
    · exact h
  · exact h.trans (onPlant_plantFrame _ _ rfl rfl rfl rfl)

theorem stopPlant_plantFrame (s : State) : PlantFrame s (stopPlant s) := by
  unfold stopPlant
  split
  · exact .refl s
  · exact (onPlant_plantFrame _ s rfl rfl rfl rfl).trans (enterCycle_plantFrame ..)

theorem startIdle_plantFrame (s : State) : PlantFrame s (startIdle s) :=
  (onPlant_plantFrame _ s rfl rfl rfl rfl).trans (startTest_plantFrame _)

theorem resumeTests_plantFrame (c : CycleState) (s : State) : PlantFrame s (resumeTests c s) := by
  unfold resumeTests
  split
  · exact startIdle_plantFrame s
  · exact (fillTest_plantFrame s).trans (timeoutTest_plantFrame _)
  · exact settleTest_plantFrame s
  · exact settleTest_plantFrame s
  · exact decantTests_plantFrame s
  · exact decantTests_plantFrame s
  · exact .refl s
  · exact .refl s

theorem resumePlant_plantFrame (r : Remembered) (s : State) : PlantFrame s (resumePlant r s) :=
  ((onPlant_plantFrame _ s rfl rfl rfl rfl).trans (enterCycle_plantFrame ..)).trans (resumeTests_plantFrame ..)

theorem resetCycle_plantFrame (s : State) : PlantFrame s (resetCycle s) :=
  ((moveCycle_plantFrame _ s).trans (onPlant_plantFrame _ _ rfl rfl rfl rfl)).trans (loadSettings_plantFrame _)

theorem startPlant_plantFrame (s : State) : PlantFrame s (startPlant s) := by
  unfold startPlant
  split
  · exact startIdle_plantFrame s
  · split
    · exact resumePlant_plantFrame ..
    · exact .refl s
  · exact .refl s

theorem plantStartEffects_plantFrame (m : PlantMode) (r : Bool) (s : State) : PlantFrame s (plantStartEffects m r s) := by
  unfold plantStartEffects
  refine PlantFrame.trans ?_ (startPlant_plantFrame _)
  refine PlantFrame.trans ?_ (onPlant_plantFrame _ _ rfl rfl rfl rfl)
  split
  · exact resetCycle_plantFrame s
  · exact .refl s

theorem directTests_plantFrame (n : SettingName) (s : State) : PlantFrame s (directTests n s) := by
  unfold directTests
  split
  · split
    · exact startTest_plantFrame s
    · exact .refl s
  · split
    · exact fillTest_plantFrame s
    · exact .refl s
  · exact timeoutTest_plantFrame s
  · split
    · exact settleTest_plantFrame s
    · exact .refl s
  · split
    · exact settleTest_plantFrame s
    · exact .refl s
  · split
    · exact decantEndTest_plantFrame s
    · exact .refl s
  · exact .refl s
  · exact .refl s

/-- PLANT_SET can move the cycle, but touches no filter and nothing outside the plant but the notices. -/
theorem writeSetting_plantFrame (n : SettingName) (v : Nat) (s : State) : PlantFrame s (writeSetting n v s) := by
  unfold writeSetting
  split
  · exact onPlant_plantFrame _ s rfl rfl rfl rfl
  · exact (onPlant_plantFrame _ s rfl rfl rfl rfl).trans (directTests_plantFrame ..)

theorem doseEnd_plantFrame (s : State) : PlantFrame s (doseEnd s) := by
  unfold doseEnd
  split
  · exact settleTest_plantFrame s
  · exact .refl s

theorem settleEnd_plantFrame (s : State) : PlantFrame s (settleEnd s) := by
  unfold settleEnd
  split
  · exact settleTest_plantFrame s
  · exact .refl s

theorem sludgeEnd_plantFrame (s : State) : PlantFrame s (sludgeEnd s) := by
  unfold sludgeEnd
  split
  · exact endBatch_plantFrame s
  · exact .refl s

theorem counterTests_plantFrame (s : State) : PlantFrame s (counterTests s) := by
  unfold counterTests
  split
  · exact timeoutTest_plantFrame s
  · exact settleTest_plantFrame s
  · exact settleTest_plantFrame s
  · exact sludgeEnd_plantFrame s
  · exact .refl s

theorem tickCounter_plantFrame (s : State) : PlantFrame s (s.onPlant tickCounter) := by
  apply onPlant_plantFrame <;> unfold tickCounter <;> split <;> rfl

/-- A plant tick moves the counter and can move the cycle, but touches no filter and nothing outside the plant but the notices. -/
theorem plantTick_plantFrame (s : State) : PlantFrame s (plantTick s) :=
  (tickCounter_plantFrame s).trans (counterTests_plantFrame _)

/-! ## Settings read after they are written (R127, R128) -/

theorem getSetting_putSetting (g : Settings) (n m : SettingName) (v : Nat) :
    getSetting (putSetting g n v) m = if m = n then v else getSetting g m := by
  cases n <;> cases m <;> rfl

end Sys2Proof.Machine
end

