-- ==== Sys2Proof/Laws/Close.lean ====
section
/-! SUPPORT. What the steps of a close and the end of a cut can do. -/

namespace Sys2Proof.Machine

/-- Only the jobs and the notices may differ, and of the jobs only the costs and the over-budget flags. -/
structure CostFrame (s t : State) : Prop where
  state : t = { s with jobs := t.jobs, link := t.link }
  pieces : t.jobs.pieces = s.jobs.pieces
  job : ∀ j, JobKept (s.job j) (t.job j)
  link : LinkKept s.link t.link

theorem CostFrame.refl (s : State) : CostFrame s s := ⟨rfl, rfl, fun _ => .refl _, .refl _⟩

theorem CostFrame.trans {s t u : State} (h : CostFrame s t) (g : CostFrame t u) : CostFrame s u where
  state := by rw [g.state, h.state]
  pieces := g.pieces.trans h.pieces
  job j := (h.job j).trans (g.job j)
  link := h.link.trans g.link

theorem MoneyFrame.cost {j : Fin 64} {s t : State} (h : MoneyFrame j s t) : CostFrame s t where
  state := h.state
  pieces := h.pieces
  job i := by
    by_cases hi : i = j
    · subst hi; exact h.job
    · rw [h.other i hi]; exact .refl _
  link := h.link

/-- The WASTE charges of a close touch only costs, over-budget flags and notices. -/
theorem wasteCharges_cost (rate pool : Nat) (l : List Placement) (s : State) : CostFrame s (wasteCharges rate pool l s) := by
  unfold wasteCharges
  refine CostFrame.trans (foldl_rel (R := CostFrame) .refl (fun _ _ _ => .trans) _ ?_ _ s)
    (foldl_rel (R := CostFrame) .refl (fun _ _ _ => .trans) _ ?_ _ _)
  · exact fun t x => (charge_money ..).cost
  · exact fun t x => (charge_money ..).cost

/-! ## The remnant (R7, R19, R157) -/

theorem createRemnant_state (parent : Slab) (len wid : Nat) (s : State) :
    createRemnant parent len wid s = { s with
      stock := enterRemnant (createdRemnant parent len wid s.stock) s.stock
      link := (createRemnant parent len wid s).link } := by
  unfold createRemnant
  dsimp only
  split <;> rfl

theorem createRemnant_link (parent : Slab) (len wid : Nat) (s : State) : LinkKept s.link (createRemnant parent len wid s).link := by
  unfold createRemnant
  dsimp only
  split
  · exact postNotice_kept ..
  · exact .refl _

/-- Step 2 of a close touches only the Stock Table and the notices. -/
theorem settleRemnant_state (p : Fin 16) (c : Candidate) (parent : Slab) (choice : RemnantChoice) (s : State) :
    settleRemnant p c parent choice s = { s with
      stock := (settleRemnant p c parent choice s).stock, link := (settleRemnant p c parent choice s).link } ∧
      LinkKept s.link (settleRemnant p c parent choice s).link := by
  unfold settleRemnant
  split
  · exact ⟨rfl, .refl _⟩
  · exact ⟨rfl, postNotice_kept ..⟩
  · refine ⟨?_, createRemnant_link ..⟩
    rw [createRemnant_state]

/-- A remnant's rack, where one has room, is of class REMNANT and holds fewer than 16 records. -/
theorem fewest_mem {k : Stock} {l : List (Fin 32)} {r : Fin 32} (h : fewest k l = some r) : r ∈ l := by
  induction l generalizing r with
  | nil => cases h
  | cons x l ih =>
    simp only [fewest] at h
    split at h
    · rename_i q hq
      split at h
      · cases h; exact List.mem_cons_of_mem _ (ih hq)
      · cases h; simp
    · cases h; simp

theorem remnantRack_room {k : Stock} {r : Fin 32} (h : remnantRack k = some r) :
    k.classes.get r = .remnant ∧ (rackList r k).length < 16 := by
  have := fewest_mem h
  simpa [remnantRoom, Config.rackSize] using this

/-! ## The end of a cut (R93, R167) -/

theorem endEntry_state (st : Fin 6) (e : CutEntry) (s : State) :
    endEntry st e s = { s with stations := (endEntry st e s).stations } := by
  unfold endEntry startHoldIf
  split <;> rfl

theorem setPlacement_state (p : Fin 16) (i : Nat) (q : PlaceState) (s : State) :
    setPlacement p i q s = { s with plans := (setPlacement p i q s).plans } := modPlan_state ..

/-- A close check that finds work left on the plan closes nothing. -/
theorem closeCheck_of_unfinished {p : Fin 16} {s : State} (h : (s.placements p).any unfinished = true) :
    closeCheck p s = ⟨s, none⟩ := by
  simp [closeCheck, h]

/-! ## The waste split (R160, R161) -/

theorem sortBy_nodup {α : Type} (before : α → α → Bool) {l : List α} (h : l.Nodup) : (sortBy before l).Nodup :=
  (sortBy_perm before l).nodup_iff.mpr h

theorem sharingJobs_nodup (l : List Placement) : (sharingJobs l).Nodup :=
  (List.nodup_finRange 64).filter _

theorem mem_sharingJobs {l : List Placement} {j : Fin 64} : j ∈ sharingJobs l ↔ 0 < basis j l := by
  simp [sharingJobs]

end Sys2Proof.Machine
end

