-- ==== Sys2Proof/Laws/Link.lean ====
section
/-! SUPPORT. What the transactions without a request, and RESET, can do: they touch the link's own marks, or everything. -/

namespace Sys2Proof.Machine

/-! ## What stands on the data line (R178, R181) -/

theorem presented_of_ready {s : State} {r : Response} (n : Nat) (h : s.link.response = some r) (g : s.link.held = false) :
    presented s n = r.frame.take n ++ List.replicate (n - r.frame.length) 0 := by
  simp [presented, h, g, List.take_append, List.take_replicate]

theorem presented_of_not_ready {s : State} (n : Nat) (h : s.rdy = false) : presented s n = List.replicate n 0 := by
  unfold presented State.rdy at *
  cases hr : s.link.response <;> simp_all

/-! ## Null frames and discarded requests (R179, R181) -/

theorem readResponse_state (n : Nat) (s : State) :
    readResponse n s = { s with link := { s.link with
      miso := (readResponse n s).link.miso, response := (readResponse n s).link.response } } := rfl

theorem discardRequest_of_held {s : State} (n : Nat) (h : s.link.held = true) :
    discardRequest n s = { s with link := { s.link with miso := List.replicate n 0 } } := by
  simp [discardRequest, h, State.onLink]

theorem discardRequest_of_free {s : State} (n : Nat) (h : s.link.held = false) : discardRequest n s = s := by
  simp [discardRequest, h]

/-! ## RESET (R188) -/

theorem outputs_of_reset {s : State} (h : s.pins.reset = true) : s.outputs = Outputs.inactive := by
  simp [State.outputs, h]

/-- Transactions while RESET is held change the data line's record alone. -/
theorem resetTransactions_state (l : List Nat) (s : State) :
    l.foldl (fun u n => resetTransaction n u) s =
      { s with link := { s.link with miso := (l.foldl (fun u n => resetTransaction n u) s).link.miso } } := by
  induction l generalizing s with
  | nil => rfl
  | cons n l ih => rw [List.foldl_cons, ih]; rfl

/-- What stood before RESET was held, but for the levels and the queue, is gone at its release. -/
theorem releaseReset_eq (s : State) :
    releaseReset s = { State.reset with pins := { s.pins with reset := false }, pending := s.pending } := rfl

end Sys2Proof.Machine
end

