-- ==== Sys2Proof/Laws/PerInstr.lean ====
section
/-! SUPPORT. Statements for all commands, one lemma per constructor of `Instr`. -/

namespace Sys2Proof.Laws

/-- R177, R180, R189: a request's kind is one of 1 to 47, its body is at most 62 bytes, and its fields are as wide as the frame check
of its kind, or of its kind and form, reads them. -/
def RequestFrame.Statement (i : Instr) : Prop :=
  ∀ k fs, requestFields i = some (k, fs) → 1 ≤ k ∧ k ≤ 47 ∧ (fs.map Prod.fst).sum ≤ 62 ∧
    (hasForms k = false → fs.map Prod.fst = kindWidths k) ∧
    (hasForms k = true → ∃ b, b < 256 ∧ formWidths k b = some (fs.map Prod.fst) ∧ fs.head? = some (1, b))

theorem RequestFrame.admitSlab (serial check kind material thickness nomLen nomWid head tail near far rack : Nat) :
    RequestFrame.Statement (.admitSlab serial check kind material thickness nomLen nomWid head tail near far rack) := by
  intro k fs h; cases h; exact ⟨Nat.le_of_ble_eq_true rfl, Nat.le_of_ble_eq_true rfl, Nat.le_of_ble_eq_true rfl,
    fun _ => rfl, fun h => absurd h (by decide)⟩

theorem RequestFrame.findSlab (serial check : Nat) :
    RequestFrame.Statement (.findSlab serial check) := by
  intro k fs h; cases h; exact ⟨Nat.le_of_ble_eq_true rfl, Nat.le_of_ble_eq_true rfl, Nat.le_of_ble_eq_true rfl,
    fun _ => rfl, fun h => absurd h (by decide)⟩

theorem RequestFrame.listStock (material minLen minWid selector : Nat) :
    RequestFrame.Statement (.listStock material minLen minWid selector) := by
  intro k fs h; cases h; exact ⟨Nat.le_of_ble_eq_true rfl, Nat.le_of_ble_eq_true rfl, Nat.le_of_ble_eq_true rfl,
    fun _ => rfl, fun h => absurd h (by decide)⟩

theorem RequestFrame.moveSlab (serial check rack : Nat) :
    RequestFrame.Statement (.moveSlab serial check rack) := by
  intro k fs h; cases h; exact ⟨Nat.le_of_ble_eq_true rfl, Nat.le_of_ble_eq_true rfl, Nat.le_of_ble_eq_true rfl,
    fun _ => rfl, fun h => absurd h (by decide)⟩

theorem RequestFrame.holdSlab (serial check : Nat) :
    RequestFrame.Statement (.holdSlab serial check) := by
  intro k fs h; cases h; exact ⟨Nat.le_of_ble_eq_true rfl, Nat.le_of_ble_eq_true rfl, Nat.le_of_ble_eq_true rfl,
    fun _ => rfl, fun h => absurd h (by decide)⟩

theorem RequestFrame.releaseSlab (serial check : Nat) :
    RequestFrame.Statement (.releaseSlab serial check) := by
  intro k fs h; cases h; exact ⟨Nat.le_of_ble_eq_true rfl, Nat.le_of_ble_eq_true rfl, Nat.le_of_ble_eq_true rfl,
    fun _ => rfl, fun h => absurd h (by decide)⟩

theorem RequestFrame.trimSlab (serial check head tail near far : Nat) :
    RequestFrame.Statement (.trimSlab serial check head tail near far) := by
  intro k fs h; cases h; exact ⟨Nat.le_of_ble_eq_true rfl, Nat.le_of_ble_eq_true rfl, Nat.le_of_ble_eq_true rfl,
    fun _ => rfl, fun h => absurd h (by decide)⟩

theorem RequestFrame.retireSlab (serial check : Nat) :
    RequestFrame.Statement (.retireSlab serial check) := by
  intro k fs h; cases h; exact ⟨Nat.le_of_ble_eq_true rfl, Nat.le_of_ble_eq_true rfl, Nat.le_of_ble_eq_true rfl,
    fun _ => rfl, fun h => absurd h (by decide)⟩

theorem RequestFrame.setRackClass (rack cls : Nat) :
    RequestFrame.Statement (.setRackClass rack cls) := by
  intro k fs h; cases h; exact ⟨Nat.le_of_ble_eq_true rfl, Nat.le_of_ble_eq_true rfl, Nat.le_of_ble_eq_true rfl,
    fun _ => rfl, fun h => absurd h (by decide)⟩

theorem RequestFrame.openJob (job level budget hold : Nat) :
    RequestFrame.Statement (.openJob job level budget hold) := by
  intro k fs h; cases h; exact ⟨Nat.le_of_ble_eq_true rfl, Nat.le_of_ble_eq_true rfl, Nat.le_of_ble_eq_true rfl,
    fun _ => rfl, fun h => absurd h (by decide)⟩

theorem RequestFrame.addPiece (job len wid grain : Nat) :
    RequestFrame.Statement (.addPiece job len wid grain) := by
  intro k fs h; cases h; exact ⟨Nat.le_of_ble_eq_true rfl, Nat.le_of_ble_eq_true rfl, Nat.le_of_ble_eq_true rfl,
    fun _ => rfl, fun h => absurd h (by decide)⟩

theorem RequestFrame.deletePiece (job idx : Nat) :
    RequestFrame.Statement (.deletePiece job idx) := by
  intro k fs h; cases h; exact ⟨Nat.le_of_ble_eq_true rfl, Nat.le_of_ble_eq_true rfl, Nat.le_of_ble_eq_true rfl,
    fun _ => rfl, fun h => absurd h (by decide)⟩

theorem RequestFrame.releasePiece (job idx : Nat) :
    RequestFrame.Statement (.releasePiece job idx) := by
  intro k fs h; cases h; exact ⟨Nat.le_of_ble_eq_true rfl, Nat.le_of_ble_eq_true rfl, Nat.le_of_ble_eq_true rfl,
    fun _ => rfl, fun h => absurd h (by decide)⟩

theorem RequestFrame.setJob (job level budget hold : Nat) :
    RequestFrame.Statement (.setJob job level budget hold) := by
  intro k fs h; cases h; exact ⟨Nat.le_of_ble_eq_true rfl, Nat.le_of_ble_eq_true rfl, Nat.le_of_ble_eq_true rfl,
    fun _ => rfl, fun h => absurd h (by decide)⟩

theorem RequestFrame.readJob (job first : Nat) :
    RequestFrame.Statement (.readJob job first) := by
  intro k fs h; cases h; exact ⟨Nat.le_of_ble_eq_true rfl, Nat.le_of_ble_eq_true rfl, Nat.le_of_ble_eq_true rfl,
    fun _ => rfl, fun h => absurd h (by decide)⟩

theorem RequestFrame.closeJob (job : Nat) :
    RequestFrame.Statement (.closeJob job) := by
  intro k fs h; cases h; exact ⟨Nat.le_of_ble_eq_true rfl, Nat.le_of_ble_eq_true rfl, Nat.le_of_ble_eq_true rfl,
    fun _ => rfl, fun h => absurd h (by decide)⟩

theorem RequestFrame.openPlan (serial check station : Nat) :
    RequestFrame.Statement (.openPlan serial check station) := by
  intro k fs h; cases h; exact ⟨Nat.le_of_ble_eq_true rfl, Nat.le_of_ble_eq_true rfl, Nat.le_of_ble_eq_true rfl,
    fun _ => rfl, fun h => absurd h (by decide)⟩

theorem RequestFrame.planAdd (plan job idx : Nat) :
    RequestFrame.Statement (.planAdd plan job idx) := by
  intro k fs h; cases h; exact ⟨Nat.le_of_ble_eq_true rfl, Nat.le_of_ble_eq_true rfl, Nat.le_of_ble_eq_true rfl,
    fun _ => rfl, fun h => absurd h (by decide)⟩

theorem RequestFrame.planRemove (plan job idx : Nat) :
    RequestFrame.Statement (.planRemove plan job idx) := by
  intro k fs h; cases h; exact ⟨Nat.le_of_ble_eq_true rfl, Nat.le_of_ble_eq_true rfl, Nat.le_of_ble_eq_true rfl,
    fun _ => rfl, fun h => absurd h (by decide)⟩

theorem RequestFrame.layout (plan : Nat) :
    RequestFrame.Statement (.layout plan) := by
  intro k fs h; cases h; exact ⟨Nat.le_of_ble_eq_true rfl, Nat.le_of_ble_eq_true rfl, Nat.le_of_ble_eq_true rfl,
    fun _ => rfl, fun h => absurd h (by decide)⟩

theorem RequestFrame.commit (plan : Nat) :
    RequestFrame.Statement (.commit plan) := by
  intro k fs h; cases h; exact ⟨Nat.le_of_ble_eq_true rfl, Nat.le_of_ble_eq_true rfl, Nat.le_of_ble_eq_true rfl,
    fun _ => rfl, fun h => absurd h (by decide)⟩

theorem RequestFrame.abandon (plan : Nat) :
    RequestFrame.Statement (.abandon plan) := by
  intro k fs h; cases h; exact ⟨Nat.le_of_ble_eq_true rfl, Nat.le_of_ble_eq_true rfl, Nat.le_of_ble_eq_true rfl,
    fun _ => rfl, fun h => absurd h (by decide)⟩

theorem RequestFrame.readPlanSummary (plan first : Nat) :
    RequestFrame.Statement (.readPlanSummary plan first) := by
  intro k fs h; cases h; exact ⟨Nat.le_of_ble_eq_true rfl, Nat.le_of_ble_eq_true rfl, Nat.le_of_ble_eq_true rfl,
    fun _ => rfl, fun h => absurd h (by decide)⟩

theorem RequestFrame.readPlanPieces (plan first : Nat) :
    RequestFrame.Statement (.readPlanPieces plan first) := by
  intro k fs h; cases h; exact ⟨Nat.le_of_ble_eq_true rfl, Nat.le_of_ble_eq_true rfl, Nat.le_of_ble_eq_true rfl,
    fun _ => rfl, fun h => absurd h (by decide)⟩

theorem RequestFrame.readPlanStrips (plan first : Nat) :
    RequestFrame.Statement (.readPlanStrips plan first) := by
  intro k fs h; cases h; exact ⟨Nat.le_of_ble_eq_true rfl, Nat.le_of_ble_eq_true rfl, Nat.le_of_ble_eq_true rfl,
    fun _ => rfl, fun h => absurd h (by decide)⟩

theorem RequestFrame.readPlanPlacements (plan first : Nat) :
    RequestFrame.Statement (.readPlanPlacements plan first) := by
  intro k fs h; cases h; exact ⟨Nat.le_of_ble_eq_true rfl, Nat.le_of_ble_eq_true rfl, Nat.le_of_ble_eq_true rfl,
    fun _ => rfl, fun h => absurd h (by decide)⟩

theorem RequestFrame.readPlanUnfit (plan first : Nat) :
    RequestFrame.Statement (.readPlanUnfit plan first) := by
  intro k fs h; cases h; exact ⟨Nat.le_of_ble_eq_true rfl, Nat.le_of_ble_eq_true rfl, Nat.le_of_ble_eq_true rfl,
    fun _ => rfl, fun h => absurd h (by decide)⟩

theorem RequestFrame.stationOnline (station maxThick : Nat) :
    RequestFrame.Statement (.stationOnline station maxThick) := by
  intro k fs h; cases h; exact ⟨Nat.le_of_ble_eq_true rfl, Nat.le_of_ble_eq_true rfl, Nat.le_of_ble_eq_true rfl,
    fun _ => rfl, fun h => absurd h (by decide)⟩

theorem RequestFrame.stationOffline (station : Nat) :
    RequestFrame.Statement (.stationOffline station) := by
  intro k fs h; cases h; exact ⟨Nat.le_of_ble_eq_true rfl, Nat.le_of_ble_eq_true rfl, Nat.le_of_ble_eq_true rfl,
    fun _ => rfl, fun h => absurd h (by decide)⟩

theorem RequestFrame.setBlade (station kerf life : Nat) :
    RequestFrame.Statement (.setBlade station kerf life) := by
  intro k fs h; cases h; exact ⟨Nat.le_of_ble_eq_true rfl, Nat.le_of_ble_eq_true rfl, Nat.le_of_ble_eq_true rfl,
    fun _ => rfl, fun h => absurd h (by decide)⟩

theorem RequestFrame.loadSlab (station serial check : Nat) :
    RequestFrame.Statement (.loadSlab station serial check) := by
  intro k fs h; cases h; exact ⟨Nat.le_of_ble_eq_true rfl, Nat.le_of_ble_eq_true rfl, Nat.le_of_ble_eq_true rfl,
    fun _ => rfl, fun h => absurd h (by decide)⟩

theorem RequestFrame.nextCut (station : Nat) :
    RequestFrame.Statement (.nextCut station) := by
  intro k fs h; cases h; exact ⟨Nat.le_of_ble_eq_true rfl, Nat.le_of_ble_eq_true rfl, Nat.le_of_ble_eq_true rfl,
    fun _ => rfl, fun h => absurd h (by decide)⟩

theorem RequestFrame.cutDone (station plan index : Nat) :
    RequestFrame.Statement (.cutDone station plan index) := by
  intro k fs h; cases h; exact ⟨Nat.le_of_ble_eq_true rfl, Nat.le_of_ble_eq_true rfl, Nat.le_of_ble_eq_true rfl,
    fun _ => rfl, fun h => absurd h (by decide)⟩

theorem RequestFrame.setWaterStation (station flow hold : Nat) :
    RequestFrame.Statement (.setWaterStation station flow hold) := by
  intro k fs h; cases h; exact ⟨Nat.le_of_ble_eq_true rfl, Nat.le_of_ble_eq_true rfl, Nat.le_of_ble_eq_true rfl,
    fun h => absurd h (by decide), fun _ => ⟨0, by decide, rfl, rfl⟩⟩

theorem RequestFrame.setWaterArbiter (capacity f0 f1 f2 f3 f4 f5 f6 f7 : Nat) :
    RequestFrame.Statement (.setWaterArbiter capacity f0 f1 f2 f3 f4 f5 f6 f7) := by
  intro k fs h; cases h; exact ⟨Nat.le_of_ble_eq_true rfl, Nat.le_of_ble_eq_true rfl, Nat.le_of_ble_eq_true rfl,
    fun h => absurd h (by decide), fun _ => ⟨1, by decide, rfl, rfl⟩⟩

theorem RequestFrame.readWaterStation (station : Nat) :
    RequestFrame.Statement (.readWaterStation station) := by
  intro k fs h; cases h; exact ⟨Nat.le_of_ble_eq_true rfl, Nat.le_of_ble_eq_true rfl, Nat.le_of_ble_eq_true rfl,
    fun h => absurd h (by decide), fun _ => ⟨0, by decide, rfl, rfl⟩⟩

theorem RequestFrame.readWaterArbiter : RequestFrame.Statement .readWaterArbiter := by
  intro k fs h; cases h; exact ⟨Nat.le_of_ble_eq_true rfl, Nat.le_of_ble_eq_true rfl, Nat.le_of_ble_eq_true rfl,
    fun h => absurd h (by decide), fun _ => ⟨1, by decide, rfl, rfl⟩⟩

theorem RequestFrame.plantStart (mode reset : Nat) :
    RequestFrame.Statement (.plantStart mode reset) := by
  intro k fs h; cases h; exact ⟨Nat.le_of_ble_eq_true rfl, Nat.le_of_ble_eq_true rfl, Nat.le_of_ble_eq_true rfl,
    fun _ => rfl, fun h => absurd h (by decide)⟩

theorem RequestFrame.plantStop : RequestFrame.Statement .plantStop := by
  intro k fs h; cases h; exact ⟨Nat.le_of_ble_eq_true rfl, Nat.le_of_ble_eq_true rfl, Nat.le_of_ble_eq_true rfl,
    fun _ => rfl, fun h => absurd h (by decide)⟩

theorem RequestFrame.plantResetCycle : RequestFrame.Statement .plantResetCycle := by
  intro k fs h; cases h; exact ⟨Nat.le_of_ble_eq_true rfl, Nat.le_of_ble_eq_true rfl, Nat.le_of_ble_eq_true rfl,
    fun _ => rfl, fun h => absurd h (by decide)⟩

theorem RequestFrame.plantSetBufferMode (value : Nat) :
    RequestFrame.Statement (.plantSetBufferMode value) := by
  intro k fs h; cases h; exact ⟨Nat.le_of_ble_eq_true rfl, Nat.le_of_ble_eq_true rfl, Nat.le_of_ble_eq_true rfl,
    fun _ => rfl, fun h => absurd h (by decide)⟩

theorem RequestFrame.plantSet (name value : Nat) :
    RequestFrame.Statement (.plantSet name value) := by
  intro k fs h; cases h; exact ⟨Nat.le_of_ble_eq_true rfl, Nat.le_of_ble_eq_true rfl, Nat.le_of_ble_eq_true rfl,
    fun _ => rfl, fun h => absurd h (by decide)⟩

theorem RequestFrame.readPlant : RequestFrame.Statement .readPlant := by
  intro k fs h; cases h; exact ⟨Nat.le_of_ble_eq_true rfl, Nat.le_of_ble_eq_true rfl, Nat.le_of_ble_eq_true rfl,
    fun _ => rfl, fun h => absurd h (by decide)⟩

theorem RequestFrame.setMaterialRate (code rate : Nat) :
    RequestFrame.Statement (.setMaterialRate code rate) := by
  intro k fs h; cases h; exact ⟨Nat.le_of_ble_eq_true rfl, Nat.le_of_ble_eq_true rfl, Nat.le_of_ble_eq_true rfl,
    fun _ => rfl, fun h => absurd h (by decide)⟩

theorem RequestFrame.setWaterRate (rate : Nat) :
    RequestFrame.Statement (.setWaterRate rate) := by
  intro k fs h; cases h; exact ⟨Nat.le_of_ble_eq_true rfl, Nat.le_of_ble_eq_true rfl, Nat.le_of_ble_eq_true rfl,
    fun _ => rfl, fun h => absurd h (by decide)⟩

theorem RequestFrame.setMachineRate (station rate : Nat) :
    RequestFrame.Statement (.setMachineRate station rate) := by
  intro k fs h; cases h; exact ⟨Nat.le_of_ble_eq_true rfl, Nat.le_of_ble_eq_true rfl, Nat.le_of_ble_eq_true rfl,
    fun _ => rfl, fun h => absurd h (by decide)⟩

theorem RequestFrame.readCost (job : Nat) :
    RequestFrame.Statement (.readCost job) := by
  intro k fs h; cases h; exact ⟨Nat.le_of_ble_eq_true rfl, Nat.le_of_ble_eq_true rfl, Nat.le_of_ble_eq_true rfl,
    fun _ => rfl, fun h => absurd h (by decide)⟩

theorem RequestFrame.clearOverhead : RequestFrame.Statement .clearOverhead := by
  intro k fs h; cases h; exact ⟨Nat.le_of_ble_eq_true rfl, Nat.le_of_ble_eq_true rfl, Nat.le_of_ble_eq_true rfl,
    fun _ => rfl, fun h => absurd h (by decide)⟩

theorem RequestFrame.cutSpoiled (station plan index : Nat) :
    RequestFrame.Statement (.cutSpoiled station plan index) := by
  intro k fs h; cases h; exact ⟨Nat.le_of_ble_eq_true rfl, Nat.le_of_ble_eq_true rfl, Nat.le_of_ble_eq_true rfl,
    fun _ => rfl, fun h => absurd h (by decide)⟩

theorem RequestFrame.breakSlab (station : Nat) :
    RequestFrame.Statement (.breakSlab station) := by
  intro k fs h; cases h; exact ⟨Nat.le_of_ble_eq_true rfl, Nat.le_of_ble_eq_true rfl, Nat.le_of_ble_eq_true rfl,
    fun _ => rfl, fun h => absurd h (by decide)⟩

theorem RequestFrame.cancelJob (job : Nat) :
    RequestFrame.Statement (.cancelJob job) := by
  intro k fs h; cases h; exact ⟨Nat.le_of_ble_eq_true rfl, Nat.le_of_ble_eq_true rfl, Nat.le_of_ble_eq_true rfl,
    fun _ => rfl, fun h => absurd h (by decide)⟩

theorem RequestFrame.readNotices : RequestFrame.Statement .readNotices := by
  intro k fs h; cases h; exact ⟨Nat.le_of_ble_eq_true rfl, Nat.le_of_ble_eq_true rfl, Nat.le_of_ble_eq_true rfl,
    fun _ => rfl, fun h => absurd h (by decide)⟩

theorem RequestFrame.openShop (shortMin longMin : Nat) :
    RequestFrame.Statement (.openShop shortMin longMin) := by
  intro k fs h; cases h; exact ⟨Nat.le_of_ble_eq_true rfl, Nat.le_of_ble_eq_true rfl, Nat.le_of_ble_eq_true rfl,
    fun _ => rfl, fun h => absurd h (by decide)⟩

theorem RequestFrame.closeShop : RequestFrame.Statement .closeShop := by
  intro k fs h; cases h; exact ⟨Nat.le_of_ble_eq_true rfl, Nat.le_of_ble_eq_true rfl, Nat.le_of_ble_eq_true rfl,
    fun _ => rfl, fun h => absurd h (by decide)⟩

theorem RequestFrame.badFrame (bytes : List Byte) :
    RequestFrame.Statement (.badFrame bytes) := by
  intro k fs h; cases h

theorem RequestFrame.responseRead (clocked : Nat) :
    RequestFrame.Statement (.responseRead clocked) := by
  intro k fs h; cases h

theorem RequestFrame.requestDiscarded (clocked : Nat) :
    RequestFrame.Statement (.requestDiscarded clocked) := by
  intro k fs h; cases h

theorem RequestFrame.reset : RequestFrame.Statement .reset := by
  intro k fs h; cases h

theorem RequestFrame.powerOn : RequestFrame.Statement .powerOn := by
  intro k fs h; cases h

theorem RequestFrame.sampleTick (spin : BitVec 6) :
    RequestFrame.Statement (.sampleTick spin) := by
  intro k fs h; cases h

theorem RequestFrame.decisecondTick (sump settling clean : Fin 8) (cloudy : Bool) :
    RequestFrame.Statement (.decisecondTick sump settling clean cloudy) := by
  intro k fs h; cases h

theorem RequestFrame.dryRun (station : Fin 6) :
    RequestFrame.Statement (.dryRun station) := by
  intro k fs h; cases h

theorem RequestFrame.bladeLife (station : Fin 6) :
    RequestFrame.Statement (.bladeLife station) := by
  intro k fs h; cases h

theorem RequestFrame.holdTimerExpiry (station : Fin 6) :
    RequestFrame.Statement (.holdTimerExpiry station) := by
  intro k fs h; cases h

theorem RequestFrame.plantTick : RequestFrame.Statement .plantTick := by
  intro k fs h; cases h

theorem RequestFrame.fillTimeout : RequestFrame.Statement .fillTimeout := by
  intro k fs h; cases h

theorem RequestFrame.doseEnd : RequestFrame.Statement .doseEnd := by
  intro k fs h; cases h

theorem RequestFrame.settleEnd : RequestFrame.Statement .settleEnd := by
  intro k fs h; cases h

theorem RequestFrame.sludgeEnd : RequestFrame.Statement .sludgeEnd := by
  intro k fs h; cases h

theorem RequestFrame.engineTake : RequestFrame.Statement .engineTake := by
  intro k fs h; cases h

theorem RequestFrame.layoutComplete : RequestFrame.Statement .layoutComplete := by
  intro k fs h; cases h

end Sys2Proof.Laws
end

