-- ==== Sys2Proof/Tests/Slice0.lean ====
section
/-! SUPPORT. Our own tests: ill-formed commands refused, frames written out from chapter 11, the manual's worked cases (their sections are
cited), and for every statement with hypotheses a witness that meets them. -/

namespace Sys2Proof.Tests

open Sys2Proof.Machine

-- The tests are evaluated one after another: in parallel each would hold a thread of its own.
set_option Elab.async false

/-! ## Well-formedness: one ill-formed term for each check -/

/-- A serial of three bytes does not hold 2^24. -/
theorem test_serial_too_wide : WellFormed (.findSlab 0x1000000 0) = false ∧ WellFormed (.findSlab 0xFFFFFF 0) = true := by decide

/-- The constructor for the settings does not name BUFFER_MODE. -/
theorem test_plantSet_not_bufferMode : WellFormed (.plantSet 8 1) = false ∧ WellFormed (.plantSet 7 1) = true := by decide

/-- Bytes that spell a request are no BAD_FRAME. -/
theorem test_badFrame_is_bad : WellFormed (.badFrame [1, 0x24]) = false ∧ WellFormed (.badFrame [1, 0x30]) = true := by decide

/-- A null frame clocks at least one byte. -/
theorem test_responseRead_clocks : WellFormed (.responseRead 0) = false ∧ WellFormed (.responseRead 1) = true := by decide

/-- A discarded request clocks at least one byte. -/
theorem test_requestDiscarded_clocks : WellFormed (.requestDiscarded 0) = false ∧ WellFormed (.requestDiscarded 1) = true := by decide

/-! ## Frames written out from R177, R180 and R189 -/

/-- Stock: ADMIT_SLAB of section 1.9's slab 0x000001, check 0x13, SLAB, material 6, 30 mm, 3050 × 1950, trims 25 25 20 30, rack 9. -/
theorem test_frame_admit : decodeTransaction [0x11, 0x01, 0x00, 0x00, 0x01, 0x13, 0x00, 0x06, 0x1E, 0x0B, 0xEA, 0x07, 0x9E, 0x19, 0x19,
    0x14, 0x1E, 0x09] = .admitSlab 1 0x13 0 6 30 3050 1950 25 25 20 30 9 := by decide

/-- Jobs: OPEN_JOB 7 at level 5, budget 50,000, hold clear. -/
theorem test_frame_openJob : decodeTransaction [0x08, 0x0A, 0x07, 0x05, 0x00, 0x00, 0xC3, 0x50, 0x00] = .openJob 7 5 50000 0 := by decide

/-- Plans: READ_PLAN of plan 3, part PLACEMENTS, from 4. -/
theorem test_frame_readPlan : decodeTransaction [0x04, 0x17, 0x03, 0x03, 0x04] = .readPlanPlacements 3 4 := by decide

/-- Stations: the frame of section 11.5, CUT_DONE for station 2, plan 3, placement 4. -/
theorem test_frame_cutDone : decodeTransaction [0x04, 0x1D, 0x02, 0x03, 0x04] = .cutDone 2 3 4 := by decide

/-- Water: READ_WATER in the ARBITER form has a one-byte body. -/
theorem test_frame_readWater : decodeTransaction [0x02, 0x1F, 0x01] = .readWaterArbiter := by decide

/-- Plant: PLANT_SET of settle_end (ordinal 1) to 900, and of BUFFER_MODE (ordinal 8). -/
theorem test_frame_plantSet : decodeTransaction [0x04, 0x23, 0x01, 0x03, 0x84] = .plantSet 1 900 ∧
    decodeTransaction [0x04, 0x23, 0x08, 0x00, 0x01] = .plantSetBufferMode 1 := by decide

/-- Costs: SET_MATERIAL_RATE of code 6 to 1,180. -/
theorem test_frame_materialRate : decodeTransaction [0x06, 0x25, 0x06, 0x00, 0x00, 0x04, 0x9C] = .setMaterialRate 6 1180 := by decide

/-- Link: OPEN_SHOP 300 600, and a null frame of three bytes. -/
theorem test_frame_openShop : decodeTransaction [0x05, 0x2E, 0x01, 0x2C, 0x02, 0x58] = .openShop 300 600 ∧
    decodeTransaction [0x00, 0x00, 0x00] = .responseRead 3 := by decide

/-! ## The tag check (R3; the serials of sections 1.9 and 1.3) -/

theorem test_tagCheck : tagCheck 0x000001 = 0x13 ∧ tagCheck 0xF00000 = 0x86 := by decide +kernel

/-! ## The layout computation (sections 3.9 to 3.11) -/

/-- The captures of section 3.9. -/
def shared : Captures :=
  ⟨3000, 1900, 4, [⟨⟨7, 0⟩, 2400, 640, .fixed⟩, ⟨⟨7, 1⟩, 560, 640, .fixed⟩, ⟨⟨12, 0⟩, 900, 600, .free⟩, ⟨⟨12, 1⟩, 500, 640, .free⟩,
    ⟨⟨12, 2⟩, 1200, 400, .free⟩], 300, 600⟩

/-- The layout of section 3.9. -/
def sharedLayout : Layout :=
  layoutRecord shared (placeAll shared ⟨[], [], [], 0⟩)

theorem test_layout_shared : sharedLayout =
    ⟨[⟨0, 640, 2968⟩, ⟨644, 600, 2752⟩],
      [⟨⟨7, 0⟩, 1, 0, 0, 2400, 640, false, none⟩, ⟨⟨7, 1⟩, 1, 2404, 0, 560, 640, false, none⟩,
        ⟨⟨12, 0⟩, 2, 0, 644, 900, 600, false, none⟩, ⟨⟨12, 1⟩, 2, 904, 644, 640, 500, true, none⟩,
        ⟨⟨12, 2⟩, 2, 1548, 644, 1200, 400, false, none⟩],
      [], ⟨.top, 3000, 652⟩, 3234400, 18593⟩ := by decide

/-- Section 3.10: unfit pieces, and a TAIL candidate. -/
theorem test_layout_tail :
    (fun l : Layout => (l.placements.map fun x => (x.piece.idx, x.strip, x.x, x.y), l.unfit, l.candidate, l.yieldQ15))
      (layoutRecord ⟨3200, 1800, 5, [⟨⟨21, 0⟩, 1400, 1000, .fixed⟩, ⟨⟨21, 1⟩, 1600, 400, .fixed⟩, ⟨⟨21, 2⟩, 450, 300, .fixed⟩,
          ⟨⟨22, 0⟩, 3400, 500, .free⟩, ⟨⟨22, 1⟩, 2000, 700, .fixed⟩, ⟨⟨22, 2⟩, 520, 600, .free⟩, ⟨⟨22, 3⟩, 1000, 1900, .fixed⟩], 300, 600⟩
        (placeAll ⟨3200, 1800, 5, [⟨⟨21, 0⟩, 1400, 1000, .fixed⟩, ⟨⟨21, 1⟩, 1600, 400, .fixed⟩, ⟨⟨21, 2⟩, 450, 300, .fixed⟩,
          ⟨⟨22, 0⟩, 3400, 500, .free⟩, ⟨⟨22, 1⟩, 2000, 700, .fixed⟩, ⟨⟨22, 2⟩, 520, 600, .free⟩, ⟨⟨22, 3⟩, 1000, 1900, .fixed⟩], 300, 600⟩
          ⟨[], [], [], 0⟩)) =
      ([(0, 1, 0, 0), (2, 1, 1405, 0), (2, 1, 2010, 0), (1, 2, 0, 1005)],
        [⟨⟨22, 0⟩, .tooLarge⟩, ⟨⟨22, 3⟩, .tooLarge⟩, ⟨⟨21, 1⟩, .noRoom⟩], ⟨.tail, 735, 1800⟩, 18471) := by decide

/-! ## Costs (sections 8.8 and 9.7) -/

/-- Section 8.8: 27,656, 3,700 and 92 cents, and the half cent that rounds up. -/
theorem test_cents : centsOf 1812480000 = 27656 ∧ centsOf 242483200 = 3700 ∧ centsOf 6055434 = 92 ∧ centsOf 32768 = 1 ∧
    centsOf 32767 = 0 ∧ centsOf 281474976710655 = 4294967295 := by decide

/-- Section 9.7: the shared slab's waste pool of 509,600 mm² goes to jobs 7 and 12. -/
theorem test_waste_shares : wasteShares 509600 (sharedLayout.placements.map (withState .cut)) = [(7, 298475), (12, 211125)] := by decide

/-! ## States for the witnesses -/

/-- Section 3.9's slab, AVAILABLE at the front of rack 9. -/
def slab : Slab :=
  ⟨1, .slab, 6, 30, 3050, 1950, 25, 25, 20, 30, .available, .rack 9, none, none, 0⟩

/-- The part after reset with one slab record in rack 9. -/
def stocked (x : Slab) : State :=
  State.reset.onStock (enterRecord x 9)

/-- Job 7 of section 8.8: level 5, budget 50,000 cents. -/
def job7 : Job :=
  newJob 5 50000 false

/-- A FIXED piece of job 7. -/
def piece (i len wid : Nat) (q : PieceState) (p : Option (Fin 16)) : Piece :=
  ⟨⟨7, i⟩, len, wid, .fixed, q, p, 0⟩

/-- The slab of section 3.9, job 7, and its two pieces in a state. -/
def drafting (x : Slab) (q : PieceState) (p : Option (Fin 16)) : State :=
  ((stocked x).putJob 7 (some job7)).onJobs fun t => { t with pieces := [piece 0 2400 640 q p, piece 1 560 640 q p] }

/-- The same with a plan in slot 0 on the slab, which the plan has reserved. -/
def planned (q : PieceState) (ph : Phase) : State :=
  (drafting { slab with state := .reserved, plan := some 0 } q (some 0)).putPlan 0 (some ⟨1, 2, [⟨7, 0⟩, ⟨7, 1⟩], false, ph⟩)

/-- The layout of the two pieces, their placements in the states given. -/
def twoCuts (a b : Option PlaceState) : Layout :=
  ⟨[⟨0, 640, 2968⟩], [⟨⟨7, 0⟩, 1, 0, 0, 2400, 640, false, a⟩, ⟨⟨7, 1⟩, 1, 2404, 0, 560, 640, false, b⟩], [],
    ⟨.top, 3000, 1256⟩, 1894400, 10890⟩

/-- A station at work: kerf 4, blade life 40,000, machine rate 131,072, 40 ds run and 4 dl drawn since its last charge. -/
def saw (m : StationMode) (i : Option CutEntry) : Station :=
  { Station.reset with
    mode := m, life := 40000, machineRate := 131072, current := some 0, queue := [⟨0, 0, ⟨7, 0⟩⟩, ⟨0, 1, ⟨7, 1⟩⟩], issued := i
    runMeter := 40, waterMeter := 4 }

/-- RUNNING, with station 2 at work on plan 0 in a phase, a clean band of 5 and the floor that follows. -/
def shop (m : StationMode) (i : Option CutEntry) (q : PieceState) (ph : Phase) : State :=
  ((((planned q ph).onStation 2 fun _ => saw m i).onLink fun l => { l with mode := .running }).onPlant fun p =>
    { p with clean := InputFilter.resting 5 }).onArbiter fun a => { a with floor := 0 }

/-- The same slab ON_SAW and its plan CUTTING. -/
def cutting (i : Option CutEntry) (q : PieceState) (a b : PlaceState) : State :=
  (shop .loaded i q (.cutting 4 (twoCuts (some a) (some b)) 1180)).onStock (placeOnBed { slab with state := .reserved, plan := some 0 } 2)

/-- Station 2 with a grant. -/
def granted (s : State) : State :=
  s.onArbiter fun a => { a with grants := [⟨2, 3, 1, false⟩], stamp := 2 }

/-- Station 2 with a pending request. -/
def asking (s : State) : State :=
  s.onArbiter fun a => { a with pending := [⟨2, 3, 1⟩], stamp := 2 }

/-- A plan of two QUEUED pieces, CUTTING at its station, with the open-placement count that belongs to it: the records agree. -/
def agreeing : State :=
  (cutting none .queued .queued .queued).modJob 7 fun b => { b with openCount := 2 }

/-- A part with one place, held by station 2, whose hold timer has run out; station 0 asks at a level above a floor of 4. -/
def waiting (level : Nat) : State :=
  ((granted (cutting none .queued .queued .queued)).onStation 2 fun x => { x with hold := some 0 }).onArbiter fun a =>
    { a with pending := [⟨0, level, 2⟩], stamp := 3, floor := 4, capacity := 1 }

/-- The state a command answers. -/
def after (i : Instr) (s : State) : State :=
  match exec i s with
  | .next t => t
  | _ => s

/-- The status of the response in the buffer. -/
def status (s : State) : Option Status :=
  s.link.response.map fun r => r.status

/-! ## Worked sequences -/

/-- Section 8.8: the charges of the first cut, 1,850 ds and 462 dl, at the rates 1,180, 131,072 and 13,107. -/
theorem test_first_cut_charges :
    ((after (.cutDone 2 0 0) (((cutting (some ⟨0, 0, ⟨7, 0⟩⟩) .issued .issued .queued).onStation 2 fun x =>
      { x with runMeter := 1850, waterMeter := 462 }).onRates fun r => { r with water := 13107 })).job 7).map (fun b =>
        (b.cost.material.value, b.cost.saw.value, b.cost.water.value, totalCents b.cost)) =
      some (1812480000, 242483200, 6055434, 31448) := by decide +kernel

/-- Section 9.9: a break before the first cut charges job 0 the whole usable area, 102,631 cents. -/
theorem test_break_before_first_cut :
    ((after (.breakSlab 2) ((cutting none .queued .queued .queued).onStation 2 fun x =>
      { x with runMeter := 0, waterMeter := 0 })).job 0).map (fun b => centsOf b.cost.waste.value) = some 102631 := by decide +kernel

/-- R168: the third spoil of a piece holds it. -/
theorem test_third_spoil :
    ((findPiece ⟨7, 0⟩ (after (.cutSpoiled 2 0 0) ((cutting (some ⟨0, 0, ⟨7, 0⟩⟩) .issued .issued .queued).onJobs
      (modPieces [⟨7, 0⟩] fun x => { x with spoil := 2 }))).jobs).map fun x => (x.state, x.spoil, x.plan)) =
      some (.held, 3, none) := by decide +kernel

/-- Section 6.10: a request at the level of the floor waits, one above it is granted. -/
theorem test_level_at_floor_waits :
    status (after (.nextCut 2) ((cutting none .queued .queued .queued).onArbiter fun a => { a with floor := 5 })) = some .waitWater ∧
    status (after (.nextCut 2) ((cutting none .queued .queued .queued).onArbiter fun a => { a with floor := 4 })) = some .ok := by
  decide +kernel

/-- R106: at a clean band of 0 every grant is revoked and waits again. -/
theorem test_dry_tank_revokes :
    (fun s : State => (s.arbiter.grants.length, s.arbiter.pending.map fun r => r.station))
      (after (.decisecondTick 0 0 0 false) ((granted (cutting none .queued .queued .queued)).onPlant fun p =>
        { p with clean := ⟨5, 0, 2⟩ })) = (0, [2]) := by decide +kernel

/-- R84: the blade is worn at 125 % of its life. -/
theorem test_blade_worn :
    status (after (.nextCut 2) ((cutting none .queued .queued .queued).onStation 2 fun x => { x with bladeMeter := 50000 })) =
      some .bladeWorn ∧
    status (after (.nextCut 2) ((cutting none .queued .queued .queued).onStation 2 fun x => { x with bladeMeter := 49999 })) =
      some .ok := by decide +kernel

/-- R110: 120 dl per minute for 5 ds give 1 dl and no remainder. -/
theorem test_water_meter : (fun x : Station => (x.waterMeter, x.remainder)) (waterTick { Station.reset with remainder := 480 }) =
    (1, 0) := by decide +kernel

/-- Section 5.9, "The spindle filter at a start": the start is taken at the fifth sample, and one inactive sample is no stop. -/
theorem test_spindle_filter :
    (fun x : Station => (x.spindle, x.spindleRun))
        ([true, false, true, true].foldl (fun x l => sampleSpindle l x) Station.reset) = (false, 2) ∧
    (fun x : Station => (x.spindle, x.spindleRun))
        ([true, false, true, true, true, false].foldl (fun x l => sampleSpindle l x) Station.reset) = (true, 1) := by decide

/-- Section 7.2, "Sampling a rising tank": band 6 breaks the run, and band 5 is accepted at the eighth sample. -/
theorem test_band_filter :
    [5, 4, 5, 5, 6, 5, 5].foldl (fun f v => sampleFilter v f) (InputFilter.resting (4 : Fin 8)) = ⟨4, 5, 2⟩ ∧
    [5, 4, 5, 5, 6, 5, 5, 5].foldl (fun f v => sampleFilter v f) (InputFilter.resting (4 : Fin 8)) = ⟨5, 5, 0⟩ := by decide

/-- Section 7.7: a fill that times out below fill_min faults. -/
theorem test_fill_fault :
    (fun p : Plant => (p.cycle, p.remembered)) (after .fillTimeout (State.reset.onPlant fun p =>
      { p with cycle := .fill, counter := 900, settling := InputFilter.resting 3 })).plant = (.stopped, some ⟨.idle, 0⟩) := by
  decide +kernel

/-! ## Witnesses: the machine and the link -/

theorem witness_RefusedChangesNothing : isRequest (.findSlab 1 0) = true ∧
    exec (.findSlab 1 0) State.reset = .next (after (.findSlab 1 0) State.reset) ∧
    (after (.findSlab 1 0) State.reset).link.response = some ⟨.badTag, []⟩ ∧ refuses .badTag = true := by
  exact ⟨by decide, rfl, by decide +kernel, by decide⟩

/-- A request with a request frame waiting behind it, and with a tick. -/
theorem witness_RequestIsAnswered : encodeRequest .readPlant = some [1, 0x24] ∧
    exec .readPlant State.reset = .next (after .readPlant State.reset) ∧ waitingFrame [.requestDiscarded 2, .readPlant] = true ∧
    waitingFrame [.plantTick, .readPlant] = false := ⟨by decide, rfl, by decide, by decide⟩

/-- Two transactions while RESET is held, the last of three bytes. -/
theorem witness_ResetCommands : ([2, 3] : List Nat).getLast? = some 3 ∧
    (([2, 3] : List Nat).foldl (fun u n => resetTransaction n u) (assertReset (stocked slab))).link.miso = [0, 0, 0] := by
  decide +kernel

theorem witness_RequestRoundTrip : WellFormed (.setBlade 5 255 0xFFFFFF) = true ∧
    encodeRequest (.setBlade 5 255 0xFFFFFF) = some [6, 0x1A, 5, 255, 255, 255, 255] := by decide +kernel

theorem witness_FrameSpellsOneRequest : readFrame [3, 0x1F, 0, 255] = .request (.readWaterStation 255) := by decide +kernel

/-- Each check of R180: too short, too long, the length byte, an unknown kind on either side, a body of the wrong size; and a form of
the water requests absent, unknown, and of the wrong size; and a
READ_PLAN of no part, of a plan number out of range, of a FREE plan and of one in use. -/
theorem witness_BadFrameAnswered : WellFormed (.badFrame []) = true ∧ WellFormed (.badFrame [1]) = true ∧
    WellFormed (.badFrame (64 :: 0x24 :: List.replicate 63 0)) = true ∧ WellFormed (.badFrame [2, 0x24]) = true ∧
    WellFormed (.badFrame [1, 0]) = true ∧ WellFormed (.badFrame [1, 48]) = true ∧ WellFormed (.badFrame [1, 0x10]) = true ∧
    WellFormed (.badFrame [1, 0x1E]) = true ∧ (WellFormed (.badFrame [2, 0x1F, 2]) = true ∧ formWidths 0x1F 2 = none) ∧
    WellFormed (.badFrame [3, 0x1F, 1, 0]) = true ∧ formWidths 0x1F 1 = some [1] ∧
    WellFormed (.badFrame [4, 0x17, 16, 5, 0]) = true ∧ WellFormed (.badFrame [4, 0x17, 15, 255, 0]) = true ∧
    State.reset.plan 15 = none ∧ WellFormed (.badFrame [4, 0x17, 0, 5, 0]) = true ∧
    ((planned .drafted .draft).plan 0).isSome = true := by decide +kernel

/-- A response of two bytes clocked out in full at 2 bytes and in part at 1; none standing; and a response with a request held. -/
theorem witness_TransactionsWithoutRequest : (Response.mk .ok []).frame.length = 2 ∧
    (after .plantStop State.reset).link.response.isSome = true ∧ (after .plantStop State.reset).link.held = false ∧
    State.reset.link.response = none ∧
    (after .plantStop { State.reset with pending := [.readPlant] }).link.held = true := by decide +kernel

/-- A set with one entry, an empty set, and a full set of 32. -/
def fullNotices : List Notice :=
  (List.range 32).map fun i => ⟨.laid, i, 255⟩

theorem witness_NoticeRaised : (∃ n ∈ fullNotices, n.kind = .laid ∧ n.object = 31) ∧
    (∀ n ∈ fullNotices.take 31, ¬(n.kind = .laid ∧ n.object = 31)) ∧ (fullNotices.take 31).length < 32 ∧
    (∀ n ∈ fullNotices, ¬(n.kind = .laid ∧ n.object = 32)) ∧ 32 ≤ fullNotices.length := by decide +kernel

theorem witness_NoticeSetKeepsForm : NoticesOk { Link.reset with notices := fullNotices } ∧
    ∃ t, step { State.reset with link := { Link.reset with notices := fullNotices }, pending := [.plantStop] } = .next t := by
  refine ⟨?_, _, rfl⟩
  unfold NoticesOk
  decide +kernel

theorem witness_AttnLine : State.reset.link.notices = [] ∧
    (∃ n ∈ (State.reset.onLink fun l => { l with notices := [⟨.laid, 0, 1⟩] }).link.notices, n.kind = .laid ∧ n.object = 0) ∧
    (∃ t, exec .readNotices State.reset = .next t) ∧ (∃ t, exec .reset State.reset = .next t) ∧
    ∃ t, exec .powerOn State.reset = .next t :=
  ⟨rfl, by decide, ⟨_, rfl⟩, ⟨_, rfl⟩, ⟨_, rfl⟩⟩

theorem witness_ResetStockAndJobs : (∃ t, exec .reset (stocked slab) = .next t) ∧ ∃ t, exec .powerOn (stocked slab) = .next t :=
  ⟨⟨_, rfl⟩, ⟨_, rfl⟩⟩

theorem witness_ResetOthers : (∃ t, exec .reset (stocked slab) = .next t) ∧ ∃ t, exec .powerOn (stocked slab) = .next t :=
  ⟨⟨_, rfl⟩, ⟨_, rfl⟩⟩

/-! ## Witnesses: the Stock Table -/

/-- The smallest slab that may be admitted, and the largest usable one. -/
theorem witness_AdmitSlabEnters : tagValid 1 0x13 = true ∧ 1 < 0xF00000 ∧ findSlab 1 State.reset.stock = none ∧
    kindOf 1 = some .remnant ∧ 10 ≤ 10 ∧ 10 ≤ 60 ∧ 300 ≤ 300 ∧ 300 ≤ 3800 ∧ 200 ≤ 200 ∧ 200 ≤ 2300 ∧
    300 ≤ 300 - 0 - 0 ∧ 300 - 0 - 0 ≤ 3600 ∧ 200 ≤ 200 - 0 - 0 ∧ 200 - 0 - 0 ≤ 2100 ∧
    300 ≤ 3800 - 200 - 0 ∧ 3800 - 200 - 0 ≤ 3600 ∧ 200 ≤ 2300 - 0 - 200 ∧ 2300 - 0 - 200 ≤ 2100 ∧
    State.reset.stock.slabs.length < 512 ∧ (rackList 31 State.reset.stock).length < 16 := by decide +kernel

theorem witness_FindSlabReports : tagValid 1 0 = false ∧ (tagValid 1 0x13 = true ∧ findSlab 1 State.reset.stock = none) ∧
    findSlab 1 (stocked slab).stock = some slab := by decide +kernel

theorem witness_ListStockSearches : 31 ≤ 31 ∧ 3600 ≤ 3600 ∧ selectorOf 0 = some none ∧ selectorOf 2 = some (some .remnant) := by
  decide

/-- At the front of its rack, behind another record, and UNRACKED; to its own rack and to another with room. -/
theorem witness_MoveSlabMoves : tagValid 1 0x13 = true ∧ findSlab 1 (stocked slab).stock = some slab ∧ slab.state ≠ .onSaw ∧
    position slab (stocked slab).stock = 0 ∧ slab.place = .rack 9 ∧ slab.place ≠ .rack 10 ∧
    (rackList 10 (stocked slab).stock).length < 16 ∧
    0 < position slab ((stocked slab).onStock (joinRack 2 9)).stock ∧
    position { slab with place := .unracked } (stocked slab).stock = 0 := by decide +kernel

theorem witness_HoldReleaseTrim : tagValid 1 0x13 = true ∧ findSlab 1 (stocked slab).stock = some slab ∧ slab.state = .available ∧
    findSlab 1 (stocked { slab with state := .held }).stock = some { slab with state := .held } ∧
    200 ≤ 200 ∧ 300 ≤ slab.nomLen - 200 - 0 ∧ slab.nomLen - 200 - 0 ≤ 3600 ∧ 200 ≤ slab.nomWid - 0 - 200 ∧
    slab.nomWid - 0 - 200 ≤ 2100 := by decide +kernel

theorem witness_RetireAndClass : tagValid 1 0x13 = true ∧ findSlab 1 (stocked slab).stock = some slab ∧ slab.state = .available ∧
    position slab (stocked slab).stock = 0 ∧ 0 < position slab ((stocked slab).onStock (joinRack 2 9)).stock ∧
    kindOf 0 = some .slab := by decide +kernel

theorem witness_CapacitiesKept : CapacityOk (stocked slab) ∧ ∃ t, step { stocked slab with pending := [.reset] } = .next t := by
  refine ⟨⟨by decide +kernel, by decide +kernel, by decide +kernel, fun p x h => ?_⟩, _, rfl⟩
  have : ∀ p, (stocked slab).plan p = none := by decide +kernel
  simp [this p] at h

/-- A plan being cut at a station, whose records agree. -/
theorem witness_RecordsKept : (CapacityOk agreeing ∧ RecordsOk agreeing) ∧
    ∃ t, step { agreeing with pending := [.nextCut 2] } = .next t := by
  refine ⟨⟨⟨by decide +kernel, by decide +kernel, by decide +kernel, ?_⟩, ⟨⟨?_, ?_, ?_, ?_, ?_, ?_, ?_⟩, ⟨?_, ?_, ?_, ?_, ?_, ?_, ?_, ?_⟩,
    ⟨?_, ?_, ?_, ?_, ?_⟩, ⟨?_, ?_⟩, ⟨?_, ?_, ?_, ?_⟩, ⟨?_, ?_, ?_, ?_, ?_, ?_, ?_⟩⟩⟩, _, rfl⟩
  · intro p x h
    have : ∀ p, ∀ x ∈ agreeing.plan p, x.pieces.length ≤ 32 := by decide +kernel
    exact this p x h
  all_goals decide +kernel

/-! ## Witnesses: the Job Table -/

theorem witness_OpenAndCloseJob : State.reset.job 0 = some Job.overhead ∧ State.reset.job 63 = none ∧ flagOf 1 = some true ∧
    (drafting slab .cut none).job 7 = some job7 ∧ job7.openCount = 0 ∧
    ∀ x ∈ (drafting slab .cut none).jobs.pieces, x.id.job = 7 → x.state = .unplanned ∨ x.state = .cut ∨ x.state = .held := by
  decide +kernel

theorem witness_AddPieceAdds : (7 : Fin 64) ≠ 0 ∧ (drafting slab .cut none).job 7 = some job7 ∧ job7.state = .opened ∧ 50 ≤ 50 ∧
    3600 ≤ 3600 ∧ 2100 ≤ 2100 ∧ grainOf 1 = some .free ∧ (jobPieces 7 (drafting slab .cut none).jobs).length < 48 ∧
    (drafting slab .cut none).jobs.pieces.length < 1024 := by decide +kernel

theorem witness_DeleteAndReleasePiece : (drafting slab .held none).job 7 = some job7 ∧
    findPiece ⟨7, 0⟩ (drafting slab .held none).jobs = some (piece 0 2400 640 .held none) ∧ job7.state = .opened ∧
    findPiece ⟨7, 1⟩ (drafting slab .unplanned none).jobs = some (piece 1 560 640 .unplanned none) := by decide +kernel

/-- A budget the total has reached exactly, one it has not, and no budget. -/
theorem witness_SetJobReplaces : (7 : Fin 64) ≠ 0 ∧ (drafting slab .cut none).job 7 = some job7 ∧ flagOf 0 = some false ∧
    false = decide (0 < 0 ∧ 0 ≤ totalCents job7.cost) ∧ false = decide (0 < 1 ∧ 1 ≤ totalCents job7.cost) ∧
    true = decide (0 < 2 ∧ 2 ≤ totalCents { CostRecord.zero with saw := ⟨131072, false⟩ }) := by decide +kernel

theorem witness_ReadsReport : State.reset.job 0 = some Job.overhead ∧ 47 ≤ 47 ∧ 31 ≤ 31 ∧
    (planned .drafted (.laid 4 (twoCuts none none))).plan 0 = some ⟨1, 2, [⟨7, 0⟩, ⟨7, 1⟩], false, .laid 4 (twoCuts none none)⟩ ∧
    layoutOf ⟨1, 2, [⟨7, 0⟩, ⟨7, 1⟩], false, .laid 4 (twoCuts none none)⟩ = some (twoCuts none none) := by decide +kernel

theorem witness_OverheadStaysFixed : OverheadOk (drafting slab .cut none) ∧
    ∃ t, step { drafting slab .cut none with pending := [.closeJob 7] } = .next t := by
  refine ⟨⟨⟨Job.overhead, by decide +kernel, by decide +kernel⟩, by decide +kernel⟩, _, rfl⟩

/-! ## Witnesses: plans -/

theorem witness_OpenPlanReserves : tagValid 1 0x13 = true ∧ findSlab 1 (stocked slab).stock = some slab ∧ slab.state = .available ∧
    slab.thickness ≤ ((stocked slab).station 5).maxThick ∧ (stocked slab).plan 0 = none ∧
    ((planned .drafted .draft).plan 1 = none ∧ ∀ q, q < (1 : Fin 16) → ((planned .drafted .draft).plan q).isSome = true) := by
  decide +kernel

/-- A plan without its second piece, which is still UNPLANNED: the one may be removed and the other added. -/
def halfDraft (ph : Phase) : State :=
  (drafting { slab with state := .reserved, plan := some 0 } .unplanned none).putPlan 0 (some ⟨1, 2, [⟨7, 0⟩], false, ph⟩)

theorem witness_PlanAddAndRemove : (halfDraft .draft).plan 0 = some ⟨1, 2, [⟨7, 0⟩], false, .draft⟩ ∧
    (halfDraft (.laid 4 (twoCuts none none))).plan 0 = some ⟨1, 2, [⟨7, 0⟩], false, .laid 4 (twoCuts none none)⟩ ∧
    (halfDraft .draft).job 7 = some job7 ∧ findPiece ⟨7, 1⟩ (halfDraft .draft).jobs = some (piece 1 560 640 .unplanned none) ∧
    findPiece ⟨7, 0⟩ (halfDraft .draft).jobs = some (piece 0 2400 640 .unplanned none) ∧ job7.state = .opened ∧
    [(⟨7, 0⟩ : PieceId)].length < 32 ∧ (⟨7, 0⟩ : PieceId) ∈ [(⟨7, 0⟩ : PieceId)] := by decide +kernel

/-- The plan of `planned`, in a phase. -/
def plan0 (ph : Phase) : Plan :=
  ⟨1, 2, [⟨7, 0⟩, ⟨7, 1⟩], false, ph⟩

/-- A plan waiting at the head of the layout queue. -/
def waitingLayout : State :=
  (planned .drafted (.laying none)).onPlans fun t => { t with queue := [0] }

theorem witness_LayoutAndTake : (planned .drafted .draft).plan 0 = some (plan0 .draft) ∧
    (planned .drafted (.laid 4 (twoCuts none none))).plan 0 = some (plan0 (.laid 4 (twoCuts none none))) ∧
    waitingLayout.engine.current = none ∧ waitingLayout.plans.queue = [0] ∧ waitingLayout.plan 0 = some (plan0 (.laying none)) ∧
    findSlab 1 waitingLayout.stock = some { slab with state := .reserved, plan := some 0 } ∧
    State.reset.plans.queue = [] := by decide +kernel

/-- The engine at work on plan 0, which is in a phase. -/
def laying (ph : Phase) : State :=
  (planned .drafted ph).onEngine fun e => { e with current := some ⟨0, 0, { shared with pieces := shared.pieces.take 2 }, Work.empty⟩ }

/-- The plan as captured, the plan changed since, the plan no longer named by the computation, and the idle engine. -/
theorem witness_LayoutCompletes : State.reset.engine.current = none ∧
    (laying (.laying (some 0))).plan 0 = some (plan0 (.laying (some 0))) ∧ (0 : Fin 16) ∉ (laying (.laying (some 0))).plans.queue ∧
    (plan0 (.laying (some 0))).pieces = (fun l : Layout => l.placements.map (fun y => y.piece) ++ l.unfit.map fun y => y.piece)
      (layoutRecord { shared with pieces := shared.pieces.take 2 } (placeAll { shared with pieces := shared.pieces.take 2 } Work.empty)) ∧
    (⟨12, 0⟩ : PieceId) ∉ (plan0 (.laying (some 0))).pieces ∧
    (⟨12, 0⟩ : PieceId) ∈ (fun l : Layout => l.placements.map (fun y => y.piece) ++ l.unfit.map fun y => y.piece) sharedLayout ∧
    (laying (.laying none)).plan 0 = some (plan0 (.laying none)) ∧ (Phase.laying none : Phase) ≠ .laying (some 0) := by decide +kernel

/-- A LAID plan whose station is READY with both roles free, and with its current role taken. -/
theorem witness_CommitTakesEffect :
    (fun s : State => s.plan 0 = some (plan0 (.laid 4 (twoCuts none none))) ∧ (twoCuts none none).placements ≠ [] ∧
      (s.station 2).mode ≠ .offline ∧ (s.station 2).current = none ∧ (s.station 2).kerf ≤ 4 ∧
      findSlab 1 s.stock = some { slab with state := .reserved, plan := some 0 })
        ((planned .drafted (.laid 4 (twoCuts none none))).onStation 2 fun _ => { saw .ready none with current := none, queue := [] }) ∧
      (saw .ready none).current ≠ none ∧ (saw .ready none).next = none := by decide +kernel

theorem witness_AbandonUnwinds : (planned .drafted .draft).plan 0 = some (plan0 .draft) ∧
    isCommitted (plan0 (.laying (some 0))) = false ∧ isCutting (plan0 (.laid 4 (twoCuts none none))) = false ∧
    findSlab 1 (planned .drafted .draft).stock = some { slab with state := .reserved, plan := some 0 } ∧
    (fun s : State => s.plan 0 = some (plan0 (.committed 4 (twoCuts (some .queued) (some .queued)) 1180)) ∧
      (s.station 2).current = some 0 ∧ (s.station 2).next = none ∧ s.grant 2 = none ∧ s.request 2 = none ∧
      findSlab 1 s.stock = some { slab with state := .reserved, plan := some 0 })
        (shop .ready none .queued (.committed 4 (twoCuts (some .queued) (some .queued)) 1180)) ∧
    { saw .loaded none with current := some 1, next := some 0 }.current ≠ { saw .loaded none with current := some 1, next := some 0 }.next := by
  decide +kernel

/-- A COMMITTED current plan whose station holds a grant, and one whose station has a request pending. -/
theorem witness_AbandonUnwindsWater :
    (fun s : State => WaterOk (granted s) ∧ WaterOk (asking s) ∧ (granted s).permit 2 = true ∧ ((asking s).request 2).isSome = true ∧
      s.plan 0 = some (plan0 (.committed 4 (twoCuts (some .queued) (some .queued)) 1180)) ∧ (s.station 2).current = some 0 ∧
      findSlab 1 s.stock = some { slab with state := .reserved, plan := some 0 })
        (shop .ready none .queued (.committed 4 (twoCuts (some .queued) (some .queued)) 1180)) :=
  ⟨⟨by decide +kernel, by decide +kernel⟩, ⟨by decide +kernel, by decide +kernel⟩, by decide +kernel⟩

/-! ## Witnesses: layouts -/

theorem witness_LayoutIsSound : sharedLayout = layoutRecord shared (placeAll shared ⟨[], [], [], 0⟩) ∧
    sharedLayout.placements.length = 5 := ⟨rfl, by decide +kernel⟩

/-- Layouts with a TOP candidate, with a TAIL candidate, and with no placement. -/
theorem witness_LayoutAccountsForPieces : sharedLayout.candidate.kind = .top ∧
    (layoutRecord ⟨3000, 1900, 4, [⟨⟨7, 0⟩, 2000, 1800, .fixed⟩], 300, 600⟩
      (placeAll ⟨3000, 1900, 4, [⟨⟨7, 0⟩, 2000, 1800, .fixed⟩], 300, 600⟩ ⟨[], [], [], 0⟩)).candidate = ⟨.tail, 996, 1900⟩ ∧
    (layoutRecord ⟨3000, 1900, 4, [⟨⟨7, 0⟩, 3001, 1800, .fixed⟩], 300, 600⟩
      (placeAll ⟨3000, 1900, 4, [⟨⟨7, 0⟩, 3001, 1800, .fixed⟩], 300, 600⟩ ⟨[], [], [], 0⟩)).placements = [] := by decide +kernel

/-- A FIXED piece, and a FREE one that fits along the slab and one that does not; pieces too large along and across; a strip with room,
one too low and one full; room for a new strip, none across the slab, and none beyond 8; and placements in strips 1 and 8. -/
theorem witness_LayoutSteps : (CapPiece.mk ⟨7, 0⟩ 400 700 .free).grain = .free ∧ max 400 700 ≤ 700 ∧ 699 < max 400 700 ∧
    shared.ul < (Oriented.mk ⟨7, 0⟩ 3001 100 false).xe ∧ shared.uw < (Oriented.mk ⟨7, 0⟩ 100 1901 false).ye ∧
    (fun (w : Work) (o : Oriented) => o.xe ≤ shared.ul ∧ o.ye ≤ shared.uw ∧ w.strips[2]? = some ⟨804, 640, 0⟩ ∧ o.ye ≤ 640 ∧
      0 + o.xe ≤ shared.ul ∧ ∀ x ∈ w.strips.take 2, x.height < o.ye ∨ shared.ul < x.cursor + o.xe)
        ⟨[⟨0, 639, 0⟩, ⟨643, 700, 2441⟩, ⟨804, 640, 0⟩], [], [], 1448⟩ ⟨⟨7, 0⟩, 560, 640, false⟩ ∧
    (1260 + 640 ≤ shared.uw ∧ shared.uw < 1261 + 640) ∧ 8 ≤ (List.replicate 8 (Strip.mk 0 100 3000)).length ∧
    (∀ x ∈ [1, 8], 1 ≤ x ∧ x ≤ 8) := by decide +kernel

/-- Two rectangles that qualify, the TOP one larger, equal and smaller; one alone; and neither. -/
theorem witness_LayoutCandidate : MeetsMinimums shared ⟨.top, 3000, 300⟩ ∧ ¬MeetsMinimums shared ⟨.top, 3000, 299⟩ ∧
    MeetsMinimums shared ⟨.tail, 300, 1900⟩ ∧ ¬MeetsMinimums shared ⟨.tail, 0, 1900⟩ ∧ 300 * 1900 ≤ 3000 * 300 ∧
    1900 * 300 ≤ 300 * 1900 ∧ 3000 * 300 < 500 * 1900 := by
  unfold MeetsMinimums
  decide +kernel

/-! ## Witnesses: stations -/

/-- The part in RUNNING mode, after reset. -/
def running : State :=
  State.reset.onLink fun l => { l with mode := .running }

/-- An OFFLINE station with no plan, and one whose current plan is CUTTING; a READY station with no plan; and a blade no wider than the
kerf of the station's committed plan. -/
theorem witness_StationSettings : (running.link.mode = .running ∧ (running.station 0).mode = .offline ∧ 10 ≤ 10 ∧ 60 ≤ 60 ∧
      (running.station 0).current = none) ∧
    (fun s : State => s.link.mode = .running ∧ (s.station 2).mode = .offline ∧ (s.station 2).current = some 0 ∧
      s.plan 0 = some (plan0 (.cutting 4 (twoCuts (some .cut) (some .queued)) 1180)) ∧
      isCutting (plan0 (.cutting 4 (twoCuts (some .cut) (some .queued)) 1180)) = true)
        (shop .offline none .queued (.cutting 4 (twoCuts (some .cut) (some .queued)) 1180)) ∧
    (fun s : State => WaterOk s ∧ (s.station 2).mode = .ready ∧ (s.station 2).current = none ∧ (s.station 2).issued = none ∧
      s.permit 2 = true) (granted (running.onStation 2 fun x => { x with mode := .ready }) |>.onPlant fun p =>
        { p with clean := InputFilter.resting 5 }) ∧
    (fun s : State => (s.station 2).issued = none ∧ ∀ p x k, ((s.station 2).current = some p ∨ (s.station 2).next = some p) →
      s.plan p = some x → kerfOf x = some k → 4 ≤ k)
        (shop .ready none .queued (.committed 4 (twoCuts (some .queued) (some .queued)) 1180)) := by
  refine ⟨by decide +kernel, by decide +kernel, ⟨⟨by decide +kernel, by decide +kernel⟩, by decide +kernel⟩, by decide +kernel, ?_⟩
  intro p x k hp hx hk
  have hc : ((shop .ready none .queued (.committed 4 (twoCuts (some .queued) (some .queued)) 1180)).station 2).current = some 0 := by
    decide +kernel
  have hn : ((shop .ready none .queued (.committed 4 (twoCuts (some .queued) (some .queued)) 1180)).station 2).next = none := by
    decide +kernel
  have h0 : (shop .ready none .queued (.committed 4 (twoCuts (some .queued) (some .queued)) 1180)).plan 0 =
      some (plan0 (.committed 4 (twoCuts (some .queued) (some .queued)) 1180)) := by decide +kernel
  rw [hc, hn] at hp
  obtain rfl : p = 0 := by simpa [eq_comm] using hp
  rw [h0] at hx
  cases hx
  simp [kerfOf, plan0] at hk
  omega

theorem witness_LoadSlabLoads :
    (fun s : State => tagValid 1 0x13 = true ∧ s.link.mode = .running ∧ (s.station 2).mode = .ready ∧ (s.station 2).current = some 0 ∧
      s.plan 0 = some (plan0 (.committed 4 (twoCuts (some .queued) (some .queued)) 1180)) ∧
      findSlab 1 s.stock = some { slab with state := .reserved, plan := some 0 } ∧ slab.thickness ≤ (s.station 2).maxThick ∧
      position { slab with state := .reserved, plan := some 0 } s.stock = 0)
        (shop .ready none .queued (.committed 4 (twoCuts (some .queued) (some .queued)) 1180)) := by decide +kernel

/-- Station 2 holds a grant, and the first entry of its queue is QUEUED. -/
theorem witness_NextCutIssues :
    (fun s : State => s.link.mode = .running ∧ (s.station 2).mode = .loaded ∧ (s.station 2).issued = none ∧
      (s.station 2).bladeMeter * 4 < (s.station 2).life * 5 ∧ (s.station 2).current = some 0 ∧
      (s.station 2).queue = [] ++ ⟨0, 0, ⟨7, 0⟩⟩ :: [⟨0, 1, ⟨7, 1⟩⟩] ∧ entryState ⟨0, 0, ⟨7, 0⟩⟩ s = some .queued ∧
      s.job 7 = some job7 ∧ heldForDispatch job7 = false ∧ s.grant 2 = some ⟨2, 3, 1, false⟩ ∧ s.arbiter.floor < job7.level ∧
      (∀ r ∈ s.arbiter.pending, r.level ≤ s.arbiter.floor) ∧
      s.plan 0 = some (plan0 (.cutting 4 (twoCuts (some .queued) (some .queued)) 1180)) ∧
      (twoCuts (some .queued) (some .queued)).placements[0]? = some ⟨⟨7, 0⟩, 1, 0, 0, 2400, 640, false, some .queued⟩)
        (granted (cutting none .queued .queued .queued)) := by decide +kernel

/-- A grant held above the floor with another station's request above it: the capacity used; and no water. -/
theorem witness_NextCutHoldsPlace :
    (fun s : State => s.grant 2 = some ⟨2, 3, 1, false⟩ ∧ s.arbiter.floor < job7.level ∧ s.arbiter.capacity ≤ s.arbiter.grants.length ∧
      ¬∀ r ∈ s.arbiter.pending, r.level ≤ s.arbiter.floor) (waiting 5) ∧
    (fun s : State => s.grant 2 = some ⟨2, 3, 1, false⟩ ∧ s.arbiter.floor < job7.level ∧ s.plant.clean.accepted = 0)
      ((waiting 5).onPlant fun p => { p with clean := InputFilter.resting 0 }) := by decide +kernel

/-- No grant, a place free and water in the tank: with no request, and with the station's own request that the floor kept waiting. -/
theorem witness_NextCutGrants :
    (fun s : State => s.grant 2 = none ∧ s.request 2 = none ∧ s.arbiter.stamp < 4294967295 ∧ s.arbiter.floor < job7.level ∧
      s.arbiter.grants.length < s.arbiter.capacity ∧ s.plant.clean.accepted ≠ 0 ∧
      (∀ r ∈ s.arbiter.pending, r.station ≠ 2 → r.level ≤ s.arbiter.floor) ∧ WaterOk s ∧
      s.job 0 = some Job.overhead)
        (cutting none .queued .queued .queued) ∧
    (fun s : State => s.grant 2 = none ∧ s.request 2 = some ⟨2, 3, 1⟩ ∧ s.arbiter.floor < job7.level ∧
      s.arbiter.grants.length < s.arbiter.capacity ∧ s.plant.clean.accepted ≠ 0 ∧
      (∀ r ∈ s.arbiter.pending, r.station ≠ 2 → r.level ≤ s.arbiter.floor) ∧ WaterOk s)
        ((asking (cutting none .queued .queued .queued)).onArbiter fun a => { a with floor := 4 }) := by
  refine ⟨⟨by decide +kernel, by decide +kernel, by decide +kernel, by decide +kernel, by decide +kernel, by decide +kernel,
    by decide +kernel, ⟨by decide +kernel, by decide +kernel⟩, by decide +kernel⟩, by decide +kernel, by decide +kernel, by decide +kernel,
    by decide +kernel, by decide +kernel, by decide +kernel, ⟨by decide +kernel, by decide +kernel⟩⟩

/-- A cut issued; a worn blade; a job held; and no grant, at the level of the floor. -/
theorem witness_NextCutOtherAnswers : (cutting none .queued .queued .queued).link.mode = .running ∧
    ((cutting none .queued .queued .queued).station 2).mode = .loaded ∧
    ((cutting (some ⟨0, 0, ⟨7, 0⟩⟩) .issued .issued .queued).station 2).issued = some ⟨0, 0, ⟨7, 0⟩⟩ ∧
    (fun x : Station => x.issued = none ∧ x.life * 5 ≤ x.bladeMeter * 4) { saw .loaded none with bladeMeter := 50000 } ∧
    (fun s : State => (∀ d ∈ (s.station 2).queue, d.plan ≠ 0 ∨ entryState d s ≠ some .queued ∨ s.heldJob d.piece.job = true) ∧
      s.request 2 = none ∧ (s.station 2).issued = none ∧ (s.station 2).bladeMeter * 4 < (s.station 2).life * 5 ∧
      (s.station 2).current = some 0)
        ((cutting none .queued .queued .queued).putJob 7 (some { job7 with level := 0 })) ∧
    (fun s : State => (s.station 2).queue = [] ++ ⟨0, 0, ⟨7, 0⟩⟩ :: [⟨0, 1, ⟨7, 1⟩⟩] ∧ entryState ⟨0, 0, ⟨7, 0⟩⟩ s = some .queued ∧
      s.job 7 = some job7 ∧ heldForDispatch job7 = false ∧ s.grant 2 = none ∧ s.request 2 = none ∧ job7.level ≤ s.arbiter.floor ∧
      (∀ r ∈ s.arbiter.pending, r.level ≤ s.arbiter.floor) ∧ s.arbiter.stamp < 4294967295)
        ((cutting none .queued .queued .queued).onArbiter fun a => { a with floor := 5 }) := by decide +kernel

/-- Every entry's job held, with a request pending; and at the level of the floor: the last stamp, a pending request and a grant. -/
theorem witness_NextCutRequests :
    (fun s : State => (∀ d ∈ (s.station 2).queue, d.plan ≠ 0 ∨ entryState d s ≠ some .queued ∨ s.heldJob d.piece.job = true) ∧
      (s.request 2).isSome = true) (asking ((cutting none .queued .queued .queued).putJob 7 (some { job7 with level := 0 }))) ∧
    (fun s : State => s.grant 2 = none ∧ s.request 2 = none ∧ s.arbiter.stamp = 4294967295 ∧ job7.level ≤ s.arbiter.floor ∧
      ∀ r ∈ s.arbiter.pending, r.level ≤ s.arbiter.floor)
        ((cutting none .queued .queued .queued).onArbiter fun a =>
          { a with floor := 5, pending := [⟨0, 5, 4294967294⟩], stamp := 4294967295 }) ∧
    (fun s : State => s.grant 2 = none ∧ (s.request 2).isSome = true ∧ job7.level ≤ s.arbiter.floor ∧
      ∀ r ∈ s.arbiter.pending, r.level ≤ s.arbiter.floor)
        ((asking (cutting none .queued .queued .queued)).onArbiter fun a => { a with floor := 5 }) ∧
    (fun s : State => (s.grant 2).isSome = true ∧ s.arbiter.stamp < 4294967295 ∧ job7.level ≤ s.arbiter.floor ∧
      ∀ r ∈ s.arbiter.pending, r.level ≤ s.arbiter.floor)
        ((granted (cutting none .queued .queued .queued)).onArbiter fun a => { a with floor := 5 }) := by decide +kernel

/-- A level above the floor without a grant: the capacity used, and no water; and a grant at the floor with another request above it. -/
theorem witness_NextCutWaits :
    (fun s : State => s.arbiter.floor < job7.level ∧ s.arbiter.capacity ≤ s.arbiter.grants.length ∧ s.grant 2 = none ∧
      s.request 2 = none ∧ s.arbiter.stamp < 4294967295)
        ((cutting none .queued .queued .queued).onArbiter fun a => { a with grants := [⟨0, 3, 1, false⟩], stamp := 2, capacity := 1 }) ∧
    (fun s : State => s.arbiter.floor < job7.level ∧ s.arbiter.capacity ≤ s.arbiter.grants.length ∧ s.grant 2 = none ∧
      (s.request 2).isSome = true)
        ((asking (cutting none .queued .queued .queued)).onArbiter fun a => { a with grants := [⟨0, 3, 0, false⟩], capacity := 1 }) ∧
    (fun s : State => s.plant.clean.accepted = 0 ∧ s.arbiter.floor < job7.level ∧ s.grant 2 = none ∧ s.request 2 = none)
      ((cutting none .queued .queued .queued).onPlant fun p => { p with clean := InputFilter.resting 0 }) ∧
    (fun s : State => (s.grant 2).isSome = true ∧ s.arbiter.stamp < 4294967295 ∧ job7.level ≤ s.arbiter.floor ∧ WaterOk s ∧
      ∃ r ∈ s.arbiter.pending, s.arbiter.floor < r.level) ((waiting 6).onArbiter fun a => { a with floor := 5 }) :=
  ⟨by decide +kernel, by decide +kernel, by decide +kernel, by decide +kernel, by decide +kernel, by decide +kernel,
    ⟨by decide +kernel, by decide +kernel⟩, ⟨⟨0, 6, 2⟩, by decide +kernel⟩⟩

/-- One place free, and station 0's request at a higher level than station 2's new one, or of the same level and older than its
standing one: it takes the place, and station 2 has no grant. -/
theorem witness_NextCutLosesPlace :
    (fun v : State => (∀ q ∈ v.arbiter.pending, v.arbiter.floor < q.level →
        q = ⟨0, 6, 1⟩ ∨ q.level < 6 ∨ (q.level = 6 ∧ 1 < q.stamp)) ∧ v.arbiter.grants.length + 1 = v.arbiter.capacity ∧
        v.plant.clean.accepted ≠ 0 ∧ (arbitrate v).grant 2 = none)
      ((cutting none .queued .queued .queued).onArbiter fun a => { a with pending := [⟨0, 6, 1⟩, ⟨2, 5, 2⟩], stamp := 3, capacity := 1 }) ∧
    (fun v : State => (∀ q ∈ v.arbiter.pending, v.arbiter.floor < q.level →
        q = ⟨0, 5, 1⟩ ∨ q.level < 5 ∨ (q.level = 5 ∧ 1 < q.stamp)) ∧ v.arbiter.grants.length + 1 = v.arbiter.capacity ∧
        (arbitrate v).grant 2 = none)
      ((cutting none .queued .queued .queued).onArbiter fun a => { a with pending := [⟨2, 5, 2⟩, ⟨0, 5, 1⟩], stamp := 3, capacity := 1 }) := by
  decide +kernel

/-- R103, R104: with the one place taken, a NEXT_CUT above the floor waits. -/
theorem test_capacity_used_waits :
    status (after (.nextCut 2) ((cutting none .queued .queued .queued).onArbiter fun a =>
      { a with grants := [⟨0, 3, 1, false⟩], stamp := 2, capacity := 1 })) = some .waitWater := by decide +kernel

/-- Placement 0 is issued and placement 1 is still QUEUED; with and without a grant. -/
theorem witness_CutDoneCharges :
    (fun s : State => (s.station 2).issued = some ⟨0, 0, ⟨7, 0⟩⟩ ∧
      s.plan 0 = some (plan0 (.cutting 4 (twoCuts (some .issued) (some .queued)) 1180)) ∧
      (twoCuts (some .issued) (some .queued)).placements[0]? = some ⟨⟨7, 0⟩, 1, 0, 0, 2400, 640, false, some .issued⟩ ∧
      (twoCuts (some .issued) (some .queued)).placements[1]? = some ⟨⟨7, 1⟩, 1, 2404, 0, 560, 640, false, some .queued⟩ ∧
      s.job 7 = some job7 ∧ s.grant 2 = some ⟨2, 3, 1, false⟩)
        (granted (cutting (some ⟨0, 0, ⟨7, 0⟩⟩) .issued .issued .queued)) ∧
    (cutting (some ⟨0, 0, ⟨7, 0⟩⟩) .issued .issued .queued).grant 2 = none := by decide +kernel

/-- A marked grant with other work in the plan; and the plan's last cut, the other placement CUT or VOID. -/
theorem witness_CutDoneCloses :
    (fun s : State => ∃ g, s.grant 2 = some g ∧ g.mark = true)
      ((cutting (some ⟨0, 0, ⟨7, 0⟩⟩) .issued .issued .queued).onArbiter fun a => { a with grants := [⟨2, 3, 1, true⟩] }) ∧
    (∀ z ∈ (twoCuts (some .cut) (some .void)).placements, z.state ≠ some .queued ∧ z.state ≠ some .issued) ∧
    (∀ z ∈ (twoCuts (some .spoiled) (some .cut)).placements, z.state ≠ some .queued ∧ z.state ≠ some .issued) ∧
    (fun s : State => WaterOk s ∧ (s.station 2).current = some 0 ∧
      findSlab 1 s.stock = some { slab with state := .onSaw, place := .bed 2, plan := some 0 } ∧ 0xF00000 ≤ s.stock.nextSerial ∧
      s.stock.nextSerial ≤ 0xFFFFFF ∧ s.stock.slabs.length ≤ 512)
        (granted (cutting (some ⟨0, 0, ⟨7, 0⟩⟩) .issued .issued .cut)) := by
  exact ⟨⟨⟨2, 3, 1, true⟩, by decide +kernel⟩, by decide +kernel, by decide +kernel, ⟨by decide +kernel, by decide +kernel⟩,
    by decide +kernel⟩

/-- A candidate the close keeps, discards for its generation, and does not have. -/
theorem witness_SlabClosed : CandidateKept false (twoCuts none none).candidate slab (stocked slab).stock ∧
    CandidateLost false (twoCuts none none).candidate { slab with gen := 3 } (stocked slab).stock ∧
    ¬CandidateKept true (twoCuts none none).candidate slab (stocked slab).stock := by
  unfold CandidateKept CandidateLost
  decide +kernel

theorem witness_CutSpoiledCharges :
    (fun s : State => (s.station 2).issued = some ⟨0, 0, ⟨7, 0⟩⟩ ∧
      s.plan 0 = some (plan0 (.cutting 4 (twoCuts (some .issued) (some .queued)) 1180)) ∧ s.job 7 = some job7 ∧
      findPiece ⟨7, 0⟩ s.jobs = some (piece 0 2400 640 .issued (some 0)) ∧ s.grant 2 = some ⟨2, 3, 1, false⟩)
        (granted (cutting (some ⟨0, 0, ⟨7, 0⟩⟩) .issued .issued .queued)) := by decide +kernel

theorem witness_BreakSlabCloses :
    (fun s : State => WaterOk s ∧ (s.station 2).mode = .loaded ∧ (s.station 2).issued = none ∧ (s.station 2).current = some 0 ∧
      s.plan 0 = some (plan0 (.cutting 4 (twoCuts (some .queued) (some .queued)) 1180)) ∧
      (∀ y ∈ (twoCuts (some .queued) (some .queued)).placements, y.state = some .queued) ∧
      findSlab 1 s.stock = some { slab with state := .onSaw, place := .bed 2, plan := some 0 } ∧
      0 < slab.usableLen ∧ 0 < slab.usableWid ∧ s.job 0 = some Job.overhead)
        (granted (cutting none .queued .queued .queued)) := by
  exact ⟨⟨by decide +kernel, by decide +kernel⟩, by decide +kernel⟩

/-- A break with a cut issued and another QUEUED. -/
theorem witness_BreakSlabAtWork :
    (fun s : State => WaterOk s ∧ (s.station 2).mode = .loaded ∧ (s.station 2).current = some 0 ∧
      s.plan 0 = some (plan0 (.cutting 4 (twoCuts (some .issued) (some .queued)) 1180)) ∧
      findSlab 1 s.stock = some { slab with state := .onSaw, place := .bed 2, plan := some 0 } ∧
      (s.station 2).issued = some ⟨0, 0, ⟨7, 0⟩⟩ ∧ ∀ e, (s.station 2).issued = some e → e.plan = 0)
        (granted (cutting (some ⟨0, 0, ⟨7, 0⟩⟩) .issued .issued .queued)) := by
  refine ⟨⟨by decide +kernel, by decide +kernel⟩, by decide +kernel, by decide +kernel, by decide +kernel, by decide +kernel,
    by decide +kernel, fun e h => ?_⟩
  have : ((granted (cutting (some ⟨0, 0, ⟨7, 0⟩⟩) .issued .issued .queued)).station 2).issued = some ⟨0, 0, ⟨7, 0⟩⟩ := by decide +kernel
  rw [this] at h
  cases h
  rfl

/-- A job drafted into a plan, with nothing QUEUED. -/
theorem witness_CancelJobDeletes : (7 : Fin 64) ≠ 0 ∧ (planned .drafted .draft).job 7 = some job7 ∧ job7.state = .opened ∧
    ∀ p x y, (planned .drafted .draft).plan p = some x → y ∈ placementsOf x → y.piece.job = 7 → y.state ≠ some .queued := by
  refine ⟨by decide, by decide +kernel, by decide, fun p x y hx hy => ?_⟩
  have : ∀ p, (planned .drafted .draft).placements p = [] := by decide +kernel
  have := this p
  simp only [State.placements, hx] at this
  simp [this] at hy

/-- A COMMITTED plan all of whose placements are VOID, and one with a placement left; a CUTTING plan with none open, and one with a
QUEUED placement. -/
theorem witness_CancelTakes :
    (fun s : State => s.plan 0 = some (plan0 (.committed 4 (twoCuts (some .void) (some .void)) 1180)) ∧
      (∀ z ∈ (twoCuts (some .void) (some .void)).placements, z.state = some .void) ∧
      findSlab 1 s.stock = some { slab with state := .reserved, plan := some 0 } ∧ WaterOk s)
        (shop .ready none .queued (.committed 4 (twoCuts (some .void) (some .void)) 1180)) ∧
    (∃ z ∈ (twoCuts (some .void) (some .queued)).placements, z.state ≠ some .void) ∧
    (fun s : State => s.plan 0 = some (plan0 (.cutting 4 (twoCuts (some .cut) (some .void)) 1180)) ∧
      (∀ z ∈ (twoCuts (some .cut) (some .void)).placements, z.state ≠ some .queued ∧ z.state ≠ some .issued) ∧
      findSlab 1 s.stock = some { slab with state := .onSaw, place := .bed 2, plan := some 0 } ∧ WaterOk s ∧
      (s.station 2).current = some 0 ∧ 0xF00000 ≤ s.stock.nextSerial ∧ s.stock.nextSerial ≤ 0xFFFFFF ∧ s.stock.slabs.length ≤ 512)
        (cutting none .cut .cut .void) ∧
    (∃ z ∈ (twoCuts (some .void) (some .queued)).placements, z.state = some .queued ∨ z.state = some .issued) := by
  exact ⟨⟨by decide +kernel, by decide +kernel, by decide +kernel, ⟨by decide +kernel, by decide +kernel⟩⟩, by decide +kernel,
    ⟨by decide +kernel, by decide +kernel, by decide +kernel, ⟨by decide +kernel, by decide +kernel⟩, by decide +kernel⟩, by decide +kernel⟩

/-! ## Witnesses: the ticks -/

/-- A sample equal to the accepted level, a differing one below the third, and the third on either side. -/
theorem witness_SampleTickFilters : (0#6)[(0 : Fin 6)] = (running.station 0).spindle ∧
    (1#6)[(0 : Fin 6)] ≠ (running.station 0).spindle ∧ (running.station 0).spindleRun < 2 ∧
    (fun x : Station => x.spindle = false ∧ 2 ≤ x.spindleRun) { Station.reset with spindleRun := 2 } ∧
    (fun x : Station => x.spindle = true ∧ (0#6)[(0 : Fin 6)] = false ∧ 2 ≤ x.spindleRun)
      { Station.reset with spindle := true, spindleRun := 2 } := by decide +kernel

theorem witness_DecisecondTickMeters : (0 : Fin 8) = State.reset.plant.sump.accepted ∧ (0 : Fin 8) = State.reset.plant.settling.accepted ∧
    (0 : Fin 8) = State.reset.plant.clean.accepted ∧ false = State.reset.plant.turbidity.accepted := by decide

/-- A DRY_RUN and a BLADE_LIFE due and not due, a hold timer still running, and one that has run out with no grant. -/
theorem witness_StationEventsTaken : ((running.onStation 2 fun x => { x with dryDue := true, bladeDue := true }).station 2).dryDue = true ∧
    ((running.onStation 2 fun x => { x with dryDue := true, bladeDue := true }).station 2).bladeDue = true ∧
    (running.station 2).dryDue = false ∧ (running.station 2).bladeDue = false ∧ (running.station 2).hold ≠ some 0 ∧
    ((running.onStation 2 fun x => { x with hold := some 1 }).station 2).hold ≠ some 0 ∧
    (fun s : State => (s.station 2).hold = some 0 ∧ s.permit 2 = false) (running.onStation 2 fun x => { x with hold := some 0 }) := by
  decide +kernel

/-- A hold timer run out under a grant: with another station's request at the level of the floor, and with one above it. -/
theorem witness_HoldExpires :
    (fun s : State => (s.station 2).hold = some 0 ∧ s.permit 2 = true ∧ s.job 0 = some Job.overhead ∧
      (∀ r ∈ s.arbiter.pending, r.level ≤ s.arbiter.floor) ∧ WaterOk s) (waiting 4) ∧
    (fun s : State => (s.station 2).hold = some 0 ∧ s.permit 2 = true ∧ ⟨0, 5, 2⟩ ∈ s.arbiter.pending ∧ WaterOk s ∧ s.arbiter.floor < 5 ∧
      (∀ q ∈ s.arbiter.pending, q = ⟨0, 5, 2⟩ ∨ q.level ≤ s.arbiter.floor) ∧ s.arbiter.grants.length ≤ s.arbiter.capacity)
        (waiting 5) :=
  ⟨⟨by decide +kernel, by decide +kernel, by decide +kernel, by decide +kernel, by decide +kernel, by decide +kernel⟩,
    by decide +kernel, by decide +kernel, by decide +kernel, ⟨by decide +kernel, by decide +kernel⟩, by decide +kernel,
    by decide +kernel, by decide +kernel⟩

/-- Section 6.10: the one place goes from the station whose hold timer ran out to the station that waits. -/
theorem test_expiry_gives_place :
    (fun s : State => s.arbiter.grants.map fun g => (g.station, g.level, g.stamp)) (after (.holdTimerExpiry 2) (waiting 5)) = [(0, 5, 2)] ∧
    (after (.holdTimerExpiry 2) (waiting 4)).arbiter.grants = [] := by decide +kernel

/-- Each of the four filters at the third differing sample, the others at rest; and an empty clean tank with a grant held. -/
theorem witness_PlantFiltersSample :
    (fun p : Plant => (7 : Fin 8) ≠ p.sump.accepted ∧ p.sump.candidate = 7 ∧ p.sump.run = 2 ∧ 0 = p.settling.accepted ∧
      0 = p.clean.accepted ∧ false = p.turbidity.accepted) { Plant.reset with sump := ⟨0, 7, 2⟩ } ∧
    (fun p : Plant => (6 : Fin 8) ≠ p.settling.accepted ∧ p.settling.candidate = 6 ∧ p.settling.run = 2 ∧ 0 = p.sump.accepted)
      { Plant.reset with settling := ⟨0, 6, 2⟩ } ∧
    (fun p : Plant => (0 : Fin 8) ≠ p.clean.accepted ∧ p.clean.candidate = 0 ∧ p.clean.run = 2) { Plant.reset with clean := ⟨5, 0, 2⟩ } ∧
    (fun p : Plant => true ≠ p.turbidity.accepted ∧ p.turbidity.candidate = true ∧ p.turbidity.run = 2)
      { Plant.reset with turbidity := ⟨false, true, 2⟩ } ∧
    (fun u : State => u.plant.clean.accepted = 0 ∧ u.permit 2 = true ∧ u.permit 1 = false ∧
      (u.arbiter.pending.map (fun r => r.station) ++ u.arbiter.grants.map (fun g => g.station)).Nodup ∧
      u.arbiter.pending.Pairwise fun a b => a.stamp < b.stamp)
        (granted (running.onStation 2 fun x => { x with mode := .ready })) := by decide +kernel

/-! ## Witnesses: water -/

theorem witness_SetWaterStores : FloorOk State.reset ∧
    (fun s : State => (s.station 2).issued.isSome = true ∧ s.permit 2 = true)
      (granted (cutting (some ⟨0, 0, ⟨7, 0⟩⟩) .issued .issued .queued)) := by
  refine ⟨?_, by decide +kernel⟩
  unfold FloorOk
  decide +kernel

/-- Arbitration at its end: the capacity used, the clean band at 0, the request at the floor; and a request to grant. -/
theorem witness_Arbitration :
    (fun u : State => { u.arbiter with capacity := 1 }.capacity ≤ u.arbiter.grants.length) (granted running) ∧
    running.plant.clean.accepted = 0 ∧
    (fun u : State => ∀ r ∈ u.arbiter.pending, r.level ≤ u.arbiter.floor)
      ((asking (cutting none .queued .queued .queued)).onArbiter fun a => { a with floor := 3 }) ∧
    (fun u : State => u.arbiter.grants.length < u.arbiter.capacity ∧ u.plant.clean.accepted ≠ 0 ∧ ⟨2, 3, 1⟩ ∈ u.arbiter.pending ∧
      u.arbiter.floor < 3 ∧ ∀ q ∈ u.arbiter.pending, u.arbiter.floor < q.level →
        q = ⟨2, 3, 1⟩ ∨ q.level < 3 ∨ (q.level = 3 ∧ 1 < q.stamp))
          ((asking (cutting none .queued .queued .queued)).onArbiter fun a => { a with pending := [⟨2, 3, 1⟩, ⟨0, 3, 2⟩, ⟨1, 2, 0⟩] }) := by
  decide +kernel

/-- A floor that stands, and one that rises to the level of a grant with no cut issued. -/
theorem witness_FloorFormed :
    (fun u : State => max (u.arbiter.table.get u.plant.clean.accepted)
      (max (if u.plant.sump.accepted = 7 then 7 else 0) (if u.link.mode = .loading then 7 else 0)) = u.arbiter.floor)
        (cutting none .queued .queued .queued) ∧
    (fun u : State => 7 = max (u.arbiter.table.get u.plant.clean.accepted)
        (max (if u.plant.sump.accepted = 7 then 7 else 0) (if u.link.mode = .loading then 7 else 0)) ∧ 7 ≠ u.arbiter.floor ∧
      (∀ r ∈ u.arbiter.pending, r.level ≤ 7) ∧ (u.arbiter.grants.map fun g => g.station).Nodup ∧ (u.station 2).issued = none)
        ((granted (cutting none .queued .queued .queued)).onPlant fun p => { p with sump := InputFilter.resting 7 }) ∧
    (fun u : State => ∀ g ∈ u.arbiter.grants, g.level ≤ 7 → (u.station g.station).issued.isSome = true)
      (granted (cutting (some ⟨0, 0, ⟨7, 0⟩⟩) .issued .issued .queued)) := by decide +kernel

theorem witness_FloorFollowsSources : FloorOk (cutting none .queued .queued .queued) ∧
    ∃ t, step { cutting none .queued .queued .queued with pending := [.decisecondTick 7 0 0 false] } = .next t := by
  refine ⟨?_, _, rfl⟩
  unfold FloorOk
  decide +kernel

theorem witness_GrantsStayLawful : WaterOk (granted (cutting none .queued .queued .queued)) ∧
    ∃ t, step { granted (cutting none .queued .queued .queued) with pending := [.nextCut 2] } = .next t :=
  ⟨⟨by decide +kernel, by decide +kernel⟩, _, rfl⟩

/-! ## Witnesses: the plant -/

theorem witness_PlantStartStopReset : running.link.mode = .running ∧ plantModeOf 1 = some .oneShot ∧ running.plant.cycle = .idle ∧
    running.plant.sump.accepted.val < running.plant.active.fillStart ∧
    (running.onPlant fun p => { p with cycle := .stopped }).plant.cycle = .stopped := by decide +kernel

/-- Without and with reset: an IDLE plant, one in a batch, a STOPPED one with nothing and with each phase remembered; a sump that has
reached fill_start. -/
theorem witness_PlantStarts : flagOf 0 = some false ∧ flagOf 1 = some true ∧ plantModeOf 0 = some .repeating ∧
    (fun p : Plant => p.cycle ≠ .idle ∧ p.cycle ≠ .stopped) { Plant.reset with cycle := .fill } ∧
    (fun p : Plant => p.cycle = .stopped ∧ p.remembered = none) { Plant.reset with cycle := .stopped } ∧
    (∀ c ∈ [CycleState.idle, .fill, .dose, .settle, .decant, .decantWait, .sludge],
      (fun p : Plant => p.cycle = .stopped ∧ p.remembered = some ⟨c, 5⟩) { Plant.reset with cycle := .stopped, remembered := some ⟨c, 5⟩ }) ∧
    (fun p : Plant => p.cycle = .idle ∧ p.active.fillStart ≤ p.sump.accepted.val ∧ p.settling.accepted.val < p.active.fillTarget)
      { Plant.reset with sump := InputFilter.resting 5 } := by decide +kernel

theorem witness_PlantSetWrites : settingOf 7 = some .decantFloor ∧ State.reset.plant.bufferMode = false ∧
    (State.reset.onPlant fun p => { p with bufferMode := true }).plant.bufferMode = true ∧
    (State.reset.onPlant fun p => { p with cycle := .sludge }).plant.cycle = .sludge ∧ flagOf 1 = some true := by decide +kernel

theorem witness_PlantTimersRun :
    (fun p : Plant => p.cycle = .fill ∧ p.active.fillTimeout ≤ p.counter ∧ p.settling.accepted.val < p.active.fillMin)
      { Plant.reset with cycle := .fill, counter := 900, settling := InputFilter.resting 3 } ∧
    (fun p : Plant => p.cycle = .dose ∧ p.active.doseEnd ≤ p.counter ∧ p.counter < p.active.settleEnd)
      { Plant.reset with cycle := .dose, counter := 120 } ∧
    (fun p : Plant => p.cycle = .settle ∧ p.active.settleEnd ≤ p.counter ∧ p.turbidity.accepted = false ∧
      p.active.decantFloor < p.settling.accepted.val ∧ p.clean.accepted.val ≤ 6)
        { Plant.reset with cycle := .settle, counter := 1800, settling := InputFilter.resting 3, clean := InputFilter.resting 6 } ∧
    (fun p : Plant => p.cycle = .sludge ∧ p.counter = 0 ∧ p.mode = .oneShot) { Plant.reset with cycle := .sludge, mode := .oneShot } := by
  decide +kernel

/-- The lines are driven with RESET inactive; and no grant stands at a clean band of 0. -/
theorem witness_Lines : State.reset.pins.reset = false ∧ WaterOk State.reset ∧ State.reset.plant.clean.accepted = 0 :=
  ⟨by decide +kernel, ⟨by decide +kernel, by decide +kernel⟩, by decide +kernel⟩

/-- R119, R108: a decanting plant drives DECANT alone; a grant with no cut and no spindle opens no valve. -/
theorem test_lines : (fun o : Outputs => (o.transfer, o.dose, o.decant, o.sludge, o.permit.get 2, o.valve.get 2))
    ((granted (cutting none .queued .queued .queued)).onPlant fun p => { p with cycle := .decant }).outputs =
      (false, false, true, false, true, false) := by decide +kernel

/-- Both sides of each test of the cycle, at its boundary. -/
theorem witness_PlantTests :
    (fun p : Plant => p.sump.accepted.val < p.active.fillStart) { Plant.reset with sump := InputFilter.resting 4 } ∧
    (fun p : Plant => p.active.fillStart ≤ p.sump.accepted.val) { Plant.reset with sump := InputFilter.resting 5 } ∧
    (fun p : Plant => p.settling.accepted.val < p.active.fillTarget) { Plant.reset with settling := InputFilter.resting 5 } ∧
    (fun p : Plant => p.active.fillTarget ≤ p.settling.accepted.val) { Plant.reset with settling := InputFilter.resting 6 } ∧
    (fun p : Plant => p.cycle = .fill ∧ p.counter < p.active.fillTimeout) { Plant.reset with cycle := .fill, counter := 899 } ∧
    (fun p : Plant => p.cycle = .fill ∧ p.active.fillTimeout ≤ p.counter ∧ p.active.fillMin ≤ p.settling.accepted.val)
      { Plant.reset with cycle := .fill, counter := 900, settling := InputFilter.resting 4 } ∧
    (fun p : Plant => p.counter < p.active.settleEnd ∧ p.counter < p.active.doseEnd) { Plant.reset with counter := 119 } ∧
    (fun p : Plant => p.counter < p.active.settleEnd ∧ p.active.doseEnd ≤ p.counter) { Plant.reset with counter := 120 } ∧
    (fun p : Plant => p.active.settleEnd ≤ p.counter) { Plant.reset with counter := 1800 } ∧
    (fun p : Plant => p.settling.accepted.val ≤ p.active.decantFloor) { Plant.reset with settling := InputFilter.resting 2 } ∧
    (fun p : Plant => p.turbidity.accepted = false ∧ p.active.decantFloor < p.settling.accepted.val)
      { Plant.reset with settling := InputFilter.resting 3 } ∧
    (fun p : Plant => p.clean.accepted.val ≤ 6) { Plant.reset with clean := InputFilter.resting 6 } ∧
    (fun p : Plant => p.clean.accepted = 7) { Plant.reset with clean := InputFilter.resting 7 } ∧
    (fun p : Plant => p.cycle = .sludge ∧ p.counter = 0 ∧ p.mode = .repeating) { Plant.reset with cycle := .sludge } ∧
    (fun p : Plant => p.cycle = .sludge ∧ p.counter ≤ 1) { Plant.reset with cycle := .sludge, counter := 1 } ∧
    (fun p : Plant => ¬(p.cycle = .sludge ∧ p.counter ≤ 1)) { Plant.reset with cycle := .sludge, counter := 2 } := by
  decide +kernel

/-- R120, R126: the last second of SLUDGE ends the batch within its tick. -/
theorem test_tick_ends_batch :
    (fun p : Plant => (p.cycle, p.batches)) (after .plantTick (State.reset.onPlant fun p =>
      { p with cycle := .sludge, counter := 1 })).plant = (.idle, 1) := by decide +kernel

/-! ## Witnesses: costs, closes, shop mode -/

theorem witness_RatesAndOverhead : State.reset.job 0 = some Job.overhead := by decide +kernel

/-- A charge that reaches the largest accumulator exactly, and one that would pass it by one. -/
theorem witness_ChargeAdds : (drafting slab .cut none).job 7 = some job7 ∧
    (getAcc { CostRecord.zero with saw := ⟨281474976710654, false⟩ } .saw).value + min 1 16777215 * 1 ≤ 281474976710655 ∧
    ¬(getAcc { CostRecord.zero with saw := ⟨281474976710655, false⟩ } .saw).value + min 1 16777215 * 1 ≤ 281474976710655 := by
  decide +kernel

theorem witness_AccountsStayInRange : AccountsOk (stocked slab) ∧ ∃ t, step { stocked slab with pending := [.clearOverhead] } = .next t := by
  refine ⟨fun j b c h => ?_, _, rfl⟩
  have : ∀ j, (stocked slab).job j = none ∨ (stocked slab).job j = some Job.overhead := by decide +kernel
  rcases this j with h' | h' <;> rw [h'] at h <;> cases h
  cases c <;> decide

theorem witness_WasteSharesSum : basisSum [] = 0 ∧ 0 < basisSum (sharedLayout.placements.map (withState .cut)) ∧
    (7, 298475) ∈ wasteShares 509600 (sharedLayout.placements.map (withState .cut)) := by decide +kernel

/-- Section 9.7: the order of the leftover units by basis, and a pool that leaves one. -/
theorem witness_WasteLeftover : 0 < basisSum (sharedLayout.placements.map (withState .cut)) ∧
    leftoverOrder (sharedLayout.placements.map (withState .cut)) = [7, 12] ∧
    leftover 509600 (sharedLayout.placements.map (withState .cut)) = 1 := by decide +kernel

/-- The part in LOADING mode with no water standing; and one in RUNNING mode with a LOADED station that holds a grant, without and with
another station's request. -/
theorem witness_OpenAndCloseShop : State.reset.link.mode = .loading ∧ State.reset.arbiter.pending = [] ∧
    State.reset.arbiter.grants = [] ∧
    (fun s : State => s.link.mode = .running ∧ WaterOk s ∧ (∀ st, (s.station st).issued = none) ∧
      (∀ st, (s.station st).mode = .offline → s.permit st = false ∧ s.request st = none) ∧ s.job 0 = some Job.overhead ∧
      s.arbiter.pending = []) (granted (cutting none .queued .queued .queued)) ∧
    (fun s : State => s.link.mode = .running ∧ WaterOk s ∧ (∀ st, (s.station st).issued = none) ∧
      (∀ st, (s.station st).mode = .offline → s.permit st = false ∧ s.request st = none) ∧ s.job 0 = some Job.overhead)
        ((waiting 5).onStation 0 fun x => { x with mode := .ready }) :=
  ⟨by decide +kernel, by decide +kernel, by decide +kernel,
    ⟨by decide +kernel, ⟨by decide +kernel, by decide +kernel⟩, by decide +kernel, by decide +kernel, by decide +kernel, by decide +kernel⟩,
    by decide +kernel, ⟨by decide +kernel, by decide +kernel⟩, by decide +kernel, by decide +kernel, by decide +kernel⟩

/-- What each mode and an issued cut refuse: the modes, the cut, a tag that fails and one that passes. -/
theorem witness_ShopRefuses : running.link.mode = .running ∧ State.reset.link.mode = .loading ∧
    (fun s : State => s.link.mode = .running ∧ (s.station 2).issued.isSome = true)
      (cutting (some ⟨0, 0, ⟨7, 0⟩⟩) .issued .issued .queued) ∧
    tagValid 1 0x13 = true ∧ tagValid 1 0x14 = false ∧ 5 < 6 := by decide +kernel

/-- R187, R97: CLOSE_SHOP charges job 0 the 40 ds and 4 dl of the station whose grant it releases. -/
theorem test_close_charges :
    ((after .closeShop ((granted (cutting none .queued .queued .queued)).onRates fun r => { r with water := 13107 })).job 0).map (fun b =>
      (b.cost.saw.value, b.cost.water.value)) = some (5242880, 52428) := by decide +kernel

end Sys2Proof.Tests
end

section
/-! The Stock Table's requests, OPEN_PLAN, LOAD_SLAB and the reset values: what a request served leaves behind, and the statements
of chapter 1. -/

namespace Sys2Proof.Machine

/-! ## A request served -/

/-- A request leaves its block's work with the response placed. -/
theorem serve_of_work {size : Nat} {work : State → Reply} {s : State} {r : Reply} (h : work (takeFrame (size + 2) s) = r) :
    serve size work s = .next (putResponse r.status r.body r.state) := by
  rw [serve_eq, h]

/-- A request whose block answers without an effect only leaves its answer on the link. -/
theorem serve_of_answer {size : Nat} {work : State → Reply} {s : State} {status : Status} {body : List Byte}
    (h : work (takeFrame (size + 2) s) = ⟨takeFrame (size + 2) s, status, body⟩) :
    serve size work s = .next (answered s size status body) :=
  serve_of_work h

/-- A request whose block changes the Stock Table alone leaves that change and its answer. -/
theorem serve_of_onStock {size : Nat} {work : State → Reply} {s : State} {status : Status} {body : List Byte} {f : Stock → Stock}
    (h : work (takeFrame (size + 2) s) = ⟨(takeFrame (size + 2) s).onStock f, status, body⟩) :
    serve size work s = .next { s with stock := f s.stock, link := answeredLink s size status body } :=
  serve_of_work h

/-! ## The checks of a tag (R3) -/

theorem withRecord_of_badTag {serial check : Nat} (k : Slab → Reply) (s : State) (h : tagValid serial check = false) :
    withRecord serial check k s = refuse s .badTag := by
  simp [withRecord, h]

theorem withRecord_of_absent {serial check : Nat} (k : Slab → Reply) {s : State} (h : tagValid serial check = true)
    (hx : findSlab serial s.stock = none) : withRecord serial check k s = refuse s .notFound := by
  simp [withRecord, h, hx]

theorem withRecord_of_find {serial check : Nat} (k : Slab → Reply) {s : State} {x : Slab} (h : tagValid serial check = true)
    (hx : findSlab serial s.stock = some x) : withRecord serial check k s = k x := by
  simp [withRecord, h, hx]

/-! ## One record replaced, entered or removed -/

/-- Writing the record that carries a serial replaces that record and no other. -/
theorem putSlab_replaced {k : Stock} {x : Slab} (y : Slab) (hx : findSlab y.serial k = some x) : RecordReplaced k (putSlab y k) y :=
  ⟨findSlab_putSlab_self hx rfl, fun _ hn => findSlab_putSlab_ne k hn, rfl, rfl, rfl⟩

theorem findSlab_joinRack (n m : Nat) (r : Fin 32) (k : Stock) : findSlab n (joinRack m r k) = findSlab n k :=
  findSlab_congr n rfl

theorem findSlab_leaveRack (n : Nat) (x : Slab) (k : Stock) : findSlab n (leaveRack x k) = findSlab n k :=
  findSlab_congr n (slabs_leaveRack x k)

/-- R9: an entered record is the only record changed. -/
theorem enterRecord_only {k : Stock} (x : Slab) (r : Fin 32) (h : findSlab x.serial k = none) :
    OnlyRecord k (enterRecord x r k) x.serial (some x) := by
  refine ⟨?_, fun n hn => ?_, rfl, rfl⟩
  · exact (findSlab_joinRack ..).trans (findSlab_addSlab_self h)
  · exact (findSlab_joinRack ..).trans (findSlab_addSlab_ne k hn)

/-- R13: a moved record is the only record changed. -/
theorem moveRecord_only {k : Stock} {x : Slab} (r : Fin 32) (h : findSlab x.serial k = some x) :
    OnlyRecord k (moveRecord x r k) x.serial (some { x with place := .rack r }) := by
  have hleft : ∀ n, findSlab n (joinRack x.serial r (leaveRack x k)) = findSlab n k := fun n =>
    (findSlab_joinRack ..).trans (findSlab_leaveRack ..)
  refine ⟨findSlab_putSlab_self ((hleft _).trans h) rfl, fun n hn => ?_, classes_leaveRack x k, nextSerial_leaveRack x k⟩
  exact (findSlab_putSlab_ne (y := { x with place := .rack r }) _ hn).trans (hleft n)

theorem rackList_moveRecord_self {k : Stock} {x : Slab} {r : Fin 32} (h : x.place ≠ .rack r) :
    rackList r (moveRecord x r k) = x.serial :: rackList r k := by
  rw [moveRecord, rackList_putSlab, rackList_joinRack_self, rackList_leaveRack_ne k h]

theorem rackList_moveRecord_ne {k : Stock} {x : Slab} {r q : Fin 32} (h : q ≠ r) :
    rackList q (moveRecord x r k) = rackList q (leaveRack x k) := by
  rw [moveRecord, rackList_putSlab, rackList_joinRack_ne _ _ h]

theorem leaveRack_left (x : Slab) (k : Stock) : LeftRack k (leaveRack x k) x :=
  ⟨fun _ h => rackList_leaveRack_self k h, fun _ h => rackList_leaveRack_ne k h⟩

/-- R16: a removed record is gone, and no other record differs. -/
theorem removeRecord_only (x : Slab) (k : Stock) : OnlyRecord k (removeRecord x k) x.serial none :=
  ⟨findSlab_dropSlab_self .., fun _ hn => (findSlab_dropSlab_ne _ hn).trans (findSlab_leaveRack ..), classes_leaveRack x k,
    nextSerial_leaveRack x k⟩

/-- R18: a record placed on a bed is the only record changed. -/
theorem placeOnBed_only {k : Stock} {x : Slab} (st : Fin 6) (h : findSlab x.serial k = some x) :
    OnlyRecord k (placeOnBed x st k) x.serial (some { x with place := .bed st, state := .onSaw }) :=
  ⟨findSlab_putSlab_self ((findSlab_leaveRack ..).trans h) rfl,
    fun _ hn => (findSlab_putSlab_ne (y := { x with place := .bed st, state := .onSaw }) _ hn).trans (findSlab_leaveRack ..),
    classes_leaveRack x k, nextSerial_leaveRack x k⟩

theorem kindCode_of_kindOf {n : Nat} {k : SlabKind} (h : kindOf n = some k) : kindCode k = n := by
  unfold kindOf at h
  split at h <;> cases h <;> rfl

/-! ## The statements -/

/-- Settles O14: the reset values read off, and RESET and power-on bring both tables to them. -/
theorem resetStockAndJobs : Obligations.ResetStockAndJobs := by
  refine ⟨rfl, by decide, by decide, rfl, by decide, ⟨Job.overhead, rfl, rfl, rfl, rfl, rfl, rfl, rfl, ?_⟩, rfl, ?_, ?_⟩
  · intro c; cases c <;> rfl
  · intro s t h; cases h; exact ⟨rfl, rfl⟩
  · intro s t h; cases h; exact ⟨rfl, rfl⟩

/-- Settles O18: the three outcomes of the tag check, none with an effect. -/
theorem findSlabReports : Obligations.FindSlabReports := by
  intro s serial check
  refine ⟨fun h => ?_, fun h hx => ?_, fun x h hx => ?_⟩
  · exact serve_of_answer (withRecord_of_badTag _ _ h)
  · exact serve_of_answer (withRecord_of_absent _ h hx)
  · exact serve_of_answer (withRecord_of_find _ h hx)

/-- The checks of an admission pass for a record whose fields are in range. -/
theorem admitReply_of_ok {s : State} {serial check kind thickness nomLen nomWid head tail near far : Nat} {k : SlabKind}
    {material rack : Fin 32} (htag : tagValid serial check = true) (hser : serial < 0xF00000)
    (hnew : findSlab serial s.stock = none) (hkind : kindOf kind = some k)
    (hfields : admitFieldsOk kind material thickness nomLen nomWid head tail near far rack = true)
    (hroom : s.stock.slabs.length < 512) (hrack : (rackList rack s.stock).length < 16) :
    admitReply serial check kind material thickness nomLen nomWid head tail near far rack s =
      okRecord (newRecord serial k material thickness nomLen nomWid head tail near far rack)
        (s.onStock (enterRecord (newRecord serial k material thickness nomLen nomWid head tail near far rack) rack)) := by
  have hrange : inRange Config.firstRemnantSerial Config.lastRemnantSerial serial = false := by
    have : ¬ Config.firstRemnantSerial ≤ serial := by simp only [Config.firstRemnantSerial]; omega
    simp [inRange, this]
  have hlen : ¬ Config.maxSlabs ≤ s.stock.slabs.length := by simp only [Config.maxSlabs]; omega
  have hrl : ¬ Config.rackSize ≤ (rackList rack s.stock).length := by simp only [Config.rackSize]; omega
  simp [admitReply, htag, hrange, hnew, hfields, hlen, hrl, hkind]

/-- Settles O17: the six checks pass, and the entered record is the only change. -/
theorem admitSlabEnters : Obligations.AdmitSlabEnters := by
  intro s serial check kind k material thickness nomLen nomWid head tail near far rack htag hser hnew hkind h1 h2 h3 h4 h5 h6 h7 h8
    h9 h10 h11 h12 h13 h14 hroom hrack
  have hfields : admitFieldsOk kind material thickness nomLen nomWid head tail near far rack = true := by
    simp [admitFieldsOk, geometryOk, inRange, usable, *]
    omega
  let x := newRecord serial k material thickness nomLen nomWid head tail near far rack
  refine ⟨enterRecord x rack s.stock, ?_, enterRecord_only x rack hnew, rackList_joinRack_self .., fun r hr => ?_⟩
  · exact serve_of_onStock (admitReply_of_ok (s := takeFrame 18 s) htag hser hnew hkind hfields hroom hrack)
  · exact rackList_joinRack_ne _ _ hr

/-- R12: the answer of a stock search counts the list and sends its first twelve serials. -/
theorem stockListBody_eq (l : List Slab) :
    stockListBody l = be 2 l.length ++ be 1 (min 12 l.length) ++ (l.take 12).flatMap fun x => be 3 x.serial := by
  simp [stockListBody, countedList, Config.listStockMax]

theorem stockMatch_eq (material minLen minWid : Nat) (kind : Option SlabKind) (x : Slab) :
    stockMatch material minLen minWid kind x = decide (x.state = .available ∧ x.material.val = material ∧
      (kind = none ∨ kind = some x.kind) ∧
      ((minLen ≤ x.usableLen ∧ minWid ≤ x.usableWid) ∨ (minWid ≤ x.usableLen ∧ minLen ≤ x.usableWid))) := by
  rw [Bool.eq_iff_iff]
  simp [stockMatch, covers, and_assoc]

/-- R12: the records of an answer ascend by usable area, and by serial among equal areas. -/
theorem stockSearch_pairwise (material minLen minWid : Nat) (kind : Option SlabKind) (k : Stock) :
    (stockSearch material minLen minWid kind k).Pairwise fun x y =>
      x.usableArea < y.usableArea ∨ (x.usableArea = y.usableArea ∧ x.serial ≤ y.serial) := by
  refine sortBy_pairwise (fun a b c => ?_) (fun a b => ?_) (fun a b => ?_) _
  · omega
  · simp only [smallerFirst, Bool.or_eq_true, Bool.and_eq_true, decide_eq_true_eq, beq_iff_eq]
    omega
  · simp only [smallerFirst, Bool.or_eq_false_iff, Bool.and_eq_false_iff, decide_eq_false_iff_not, beq_eq_false_iff_ne]
    omega

/-- Settles O19: the arrangement is the sorted list of the matching records. -/
theorem listStockSearches : Obligations.ListStockSearches := by
  intro s material minLen minWid selector kind h1 h2 h3 hsel
  refine ⟨stockSearch material minLen minWid kind s.stock, ?_, ?_, stockSearch_pairwise ..⟩
  · rw [← stockListBody_eq]
    have hrange : ¬(31 < material ∨ 3600 < minLen ∨ 3600 < minWid) := by omega
    exact serve_of_answer (by simp [listStockReply, hrange, hsel])
  · refine (sortBy_perm _ _).trans (.of_eq (List.filter_congr fun x _ => stockMatch_eq ..))

/-- Settles O20: the three outcomes of a move, by the record's position and place. -/
theorem moveSlabMoves : Obligations.MoveSlabMoves := by
  intro s serial check x rack htag hx hsaw
  obtain rfl := findSlab_serial hx
  have hrack : ¬ 31 < rack.val := by omega
  refine ⟨fun hpos => ?_, fun hpos hplace => ?_, fun hpos hplace hroom => ?_⟩
  · refine serve_of_answer ((withRecord_of_find (s := takeFrame 7 s) _ htag hx).trans ?_)
    simp [moveReply, hrack, hsaw, hpos]
  · refine serve_of_answer ((withRecord_of_find (s := takeFrame 7 s) _ htag hx).trans ?_)
    simp [moveReply, hrack, hsaw, hpos, hplace, okRecord]
  · have hfull : ¬ Config.rackSize ≤ (rackList rack s.stock).length := by simp only [Config.rackSize]; omega
    refine ⟨moveRecord x rack s.stock, ?_, moveRecord_only rack hx, rackList_moveRecord_self hplace, fun r hne => ?_⟩
    · refine serve_of_onStock (f := moveRecord x rack) ((withRecord_of_find (s := takeFrame 7 s) _ htag hx).trans ?_)
      simp [moveReply, hrack, hsaw, hpos, hplace, okRecord, hfull]
    · rw [rackList_moveRecord_ne hne]
      exact ⟨(leaveRack_left x s.stock).1 r, (leaveRack_left x s.stock).2 r⟩

/-- Settles O21: each of the three requests writes one record in its place. -/
theorem holdReleaseTrim : Obligations.HoldReleaseTrim := by
  intro s serial check x htag hx
  obtain rfl := findSlab_serial hx
  refine ⟨fun hst => ⟨_, ?_, putSlab_replaced _ hx⟩, fun hst => ⟨_, ?_, putSlab_replaced _ hx⟩, ?_⟩
  · refine serve_of_onStock (f := putSlab { x with state := .held }) ((withRecord_of_find (s := takeFrame 6 s) _ htag hx).trans ?_)
    simp [changeState, hst, okRecord]
  · refine serve_of_onStock (f := putSlab { x with state := .available }) ((withRecord_of_find (s := takeFrame 6 s) _ htag hx).trans ?_)
    simp [changeState, hst, okRecord]
  · intro head tail near far hst h1 h2 h3 h4 h5 h6 h7 h8
    refine ⟨_, ?_, putSlab_replaced { x with head := head, tail := tail, near := near, far := far } hx⟩
    refine serve_of_onStock (f := putSlab { x with head := head, tail := tail, near := near, far := far })
      ((withRecord_of_find (s := takeFrame 10 s) _ htag hx).trans ?_)
    have hfree : unclaimed x = true := by simpa [unclaimed] using hst
    have hgeo : geometryOk x.nomLen x.nomWid head tail near far = true := by simp [geometryOk, inRange, usable, *]
    simp [trimReply, hfree, hgeo, okRecord]

/-- Settles O22: retirement by the record's position, and the class of one rack. -/
theorem retireAndClass : Obligations.RetireAndClass := by
  refine ⟨fun s serial check x htag hx hst => ?_, fun s rack cls c hc => ?_⟩
  · obtain rfl := findSlab_serial hx
    have hfree : unclaimed x = true := by simpa [unclaimed] using hst
    refine ⟨fun hpos => ?_, fun hpos => ⟨removeRecord x s.stock, ?_, removeRecord_only x s.stock, ?_⟩⟩
    · refine serve_of_answer ((withRecord_of_find (s := takeFrame 6 s) _ htag hx).trans ?_)
      simp [retireReply, hfree, hpos]
    · refine serve_of_onStock (f := removeRecord x) ((withRecord_of_find (s := takeFrame 6 s) _ htag hx).trans ?_)
      simp [retireReply, hfree, hpos]
    · exact leaveRack_left x s.stock
  · have hrack : ¬ 31 < rack.val := by omega
    refine (serve_of_onStock (f := setClass rack c) (body := rackBody rack (setClass rack c s.stock)) (status := .ok) ?_).trans ?_
    · simp [rackClassReply, hrack, hc]
    · simp [rackBody, setClass, rackList, kindCode_of_kindOf hc]

/-! ## OPEN_PLAN and LOAD_SLAB -/

/-- R61: a slot that is FREE with none FREE below it is the one OPEN_PLAN takes. -/
theorem freePlan_of_lowest {t : PlanTable} {p : Fin 16} (h : t.slots.get p = none) (hlow : ∀ q, q < p → (t.slots.get q).isSome = true) :
    freePlan t = some p := by
  have hsome : (freePlan t).isSome = true := by
    simp only [freePlan, List.find?_isSome]
    exact ⟨p, List.mem_finRange p, by simp [h]⟩
  obtain ⟨q, hq⟩ := Option.isSome_iff_exists.mp hsome
  obtain ⟨hnone, l, r, hsplit, hl⟩ := List.find?_eq_some_iff_append.mp hq
  rw [hq]
  congr 1
  have hpair : (l ++ q :: r).Pairwise (· < ·) := hsplit ▸ List.pairwise_lt_finRange 16
  have hmem : p ∈ l ++ q :: r := hsplit ▸ List.mem_finRange p
  rcases lt_trichotomy p q with hlt | heq | hgt
  · rcases List.mem_append.mp hmem with hp | hp
    · exact absurd (hl p hp) (by simp [h])
    · rcases List.mem_cons.mp hp with rfl | hp
      · rfl
      · exact absurd (List.rel_of_pairwise_cons (List.pairwise_append.mp hpair).2.1 hp) (by omega)
  · exact heq.symm
  · have := hlow q hgt
    simp_all

/-- Settles O30: the lowest FREE slot holds the new plan, and the reserved record is the only record changed. -/
theorem openPlanReserves : Obligations.OpenPlanReserves := by
  intro s serial check st b p htag hb hst hthick hp hlow
  obtain rfl := findSlab_serial hb
  have hstation : ¬ 5 < st.val := by omega
  have hfree : freePlan s.plans = some p := freePlan_of_lowest hp hlow
  have hthick' : ¬ (s.station st).maxThick < b.thickness := by omega
  let y := newPlan b.serial st
  let u := ((takeFrame 7 s).onStock (putSlab (reserve p b))).putPlan p (some y)
  have hwork : openPlanReply b.serial check st (takeFrame 7 s) = okPlan p y u := by
    simp [openPlanReply, htag, hstation, hb, hst, hthick', hfree, u, y]
  exact ⟨putResponse .ok (planSummary p y u) u, serve_of_work hwork, rfl, putSlab_replaced (reserve p b) hb⟩

/-- R86: with the current plan's slab named, unobstructed and not too thick, LOAD_SLAB loads it. -/
theorem loadReply_of_ok {s : State} {st : Fin 6} {p : Fin 16} {x : Plan} {b : Slab} (hmode : (s.station st).mode = .ready)
    (hcur : (s.station st).current = some p) (hx : s.plan p = some x) (hb : findSlab x.serial s.stock = some b)
    (hthick : b.thickness ≤ (s.station st).maxThick) (hpos : position b s.stock = 0) :
    loadReply x.serial st s = okStation st (loadPlan p b st s) := by
  have hthick' : ¬ (s.station st).maxThick < b.thickness := by omega
  simp [loadReply, loadChecks, hmode, hcur, hx, hb, hthick', hpos]

/-- Settles O39: the checks of R86 pass, the slab is on the bed, the plan CUTTING and the station LOADED. -/
theorem loadSlabLoads : Obligations.LoadSlabLoads := by
  intro s st serial check p x b kerf l rate htag hrun hmode hcur hx hser hphase hb hthick hpos
  obtain rfl := hser
  have hbs := findSlab_serial hb
  have hstation : ¬ 5 < st.val := by omega
  have hrun' : (takeFrame 7 s).link.mode ≠ .loading := fun h => nomatch hrun.symm.trans h
  have hreply : loadReply x.serial st (takeFrame 7 s) = okStation st (loadPlan p b st (takeFrame 7 s)) :=
    loadReply_of_ok (s := takeFrame 7 s) hmode hcur hx hb hthick hpos
  have hload : loadPlan p b st (takeFrame 7 s) = (((takeFrame 7 s).onStock (placeOnBed b st)).putPlan p
      (some { x with phase := .cutting kerf l rate })).onStation st fun x => { x with mode := .loaded } := by
    have hx' : ((takeFrame 7 s).onStock (placeOnBed b st)).plan p = some x := hx
    simp [loadPlan, State.modPlan, hx', startCutting, hphase]
  have hloaded : (loadPlan p b st (takeFrame 7 s)).station st = { s.station st with mode := .loaded } := by
    rw [hload, station_onStation_self]; rfl
  have hwork : okStation st (loadPlan p b st (takeFrame 7 s)) =
      ⟨loadPlan p b st (takeFrame 7 s), .ok, stationSummary st { s.station st with mode := .loaded }⟩ := by
    rw [okStation, hloaded]
  refine ⟨placeOnBed b st s.stock, ?_, ?_, ?_⟩
  · have hserve : exec (.loadSlab st x.serial check) s = .next (putResponse .ok
        (stationSummary st { s.station st with mode := .loaded }) (loadPlan p b st (takeFrame 7 s))) := by
      rw [show exec (.loadSlab st x.serial check) s = execLoadSlab st x.serial check s from rfl, execLoadSlab, serve_eq]
      simp only [Nat.reduceAdd, htag, withStation, hstation, whenRunning, hrun', if_false, Bool.not_true, Bool.false_eq_true,
        Fin.ofNat_val_eq_self, hreply, hwork]
    rw [hserve, hload]
    rfl
  · rw [← hbs] at hb ⊢
    exact placeOnBed_only st hb
  · exact leaveRack_left b s.stock

end Sys2Proof.Machine
end

section
/-! The agreement of the records of different blocks (`RecordsOk`), said again in the form in which a step's proof uses it: what a
lookup of one slab or piece gives, one plan at a time, one station at a time. -/

namespace Sys2Proof.Machine

/-! ## Slab records -/

/-- R1: in an ascending table the record found for a serial is the one that carries it. -/
theorem findSlab_iff_mem {k : Stock} (h : k.slabs.Pairwise fun x y => x.serial < y.serial) {n : Nat} {x : Slab} :
    findSlab n k = some x ↔ x ∈ k.slabs ∧ x.serial = n := by
  unfold findSlab
  generalize k.slabs = l at h
  induction l with
  | nil => simp
  | cons y l ih =>
    obtain ⟨hy, hl⟩ := List.pairwise_cons.mp h
    have hlt : ∀ z ∈ l, z.serial ≠ y.serial := fun z hz => (hy z hz).ne'
    by_cases hn : y.serial = n
    · subst hn
      simp only [List.find?_cons, beq_self_eq_true, Option.some.injEq, List.mem_cons]
      constructor
      · rintro rfl; exact ⟨.inl rfl, rfl⟩
      · rintro ⟨rfl | hx, hs⟩
        · rfl
        · exact absurd hs (hlt x hx)
    · simp only [List.find?_cons, show (y.serial == n) = false by simpa using hn, ih hl, List.mem_cons]
      constructor
      · rintro ⟨hx, hs⟩; exact ⟨.inr hx, hs⟩
      · rintro ⟨rfl | hx, hs⟩
        · exact absurd hs hn
        · exact ⟨hx, hs⟩

/-- R4, R17, R18: a record agrees with the plan it names: RESERVED before its slab is loaded, ON_SAW on its station's bed while the plan
is CUTTING, and AVAILABLE or HELD with no plan. -/
structure SlabFits (s : State) (x : Slab) : Prop where
  free : x.plan = none → (x.state = .available ∨ x.state = .held) ∧ ∀ st, x.place ≠ .bed st
  named : ∀ p, x.plan = some p → ∃ y, s.plan p = some y ∧ y.serial = x.serial ∧
    (isCutting y = false → x.state = .reserved ∧ ∀ st, x.place ≠ .bed st) ∧
    (isCutting y = true → x.state = .onSaw ∧ x.place = .bed y.station)

/-- `StockOk`, by what a lookup of one serial gives. -/
structure StockReads (s : State) : Prop where
  ascending : s.stock.slabs.Pairwise fun x y => x.serial < y.serial
  counter : 0xF00000 ≤ s.stock.nextSerial ∧ s.stock.nextSerial ≤ 0xFFFFFF
  once : ∀ r, (rackList r s.stock).Nodup
  lists : ∀ r n, n ∈ rackList r s.stock ↔ ∃ x, findSlab n s.stock = some x ∧ x.place = .rack r
  fits : ∀ n x, findSlab n s.stock = some x → SlabFits s x
  claimed : ∀ p y, s.plan p = some y → ∃ x, findSlab y.serial s.stock = some x ∧ x.plan = some p

theorem stockOk_iff {s : State} : StockOk s ↔ StockReads s := by
  constructor
  · intro h
    refine ⟨h.ascending, h.counter, fun r => (h.listed r).1, fun r n => ⟨fun hn => ?_, ?_⟩, fun n x hx => ?_, fun p y hy => ?_⟩
    · obtain ⟨x, hx, hs, hp⟩ := (h.listed r).2 n hn
      exact ⟨x, (findSlab_iff_mem h.ascending).mpr ⟨hx, hs⟩, hp⟩
    · rintro ⟨x, hx, hp⟩
      obtain ⟨hm, rfl⟩ := (findSlab_iff_mem h.ascending).mp hx
      exact h.racked x hm r hp
    · have hm := ((findSlab_iff_mem h.ascending).mp hx).1
      refine ⟨h.free x hm, fun p hp => ?_⟩
      obtain ⟨y, hy, hrest⟩ := h.named x hm p (by simp [hp])
      exact ⟨y, by simpa using hy, hrest⟩
    · obtain ⟨x, hm, hs, hp⟩ := h.claimed p y (by simp [hy])
      exact ⟨x, (findSlab_iff_mem h.ascending).mpr ⟨hm, hs⟩, hp⟩
  · intro h
    have found : ∀ x ∈ s.stock.slabs, findSlab x.serial s.stock = some x := fun x hm =>
      (findSlab_iff_mem h.ascending).mpr ⟨hm, rfl⟩
    refine ⟨h.ascending, h.counter, fun x hm r hp => (h.lists r _).mpr ⟨x, found x hm, hp⟩, fun r => ⟨h.once r, fun n hn => ?_⟩,
      fun x hm => (h.fits _ x (found x hm)).free, fun x hm p hp => ?_, fun p y hy => ?_⟩
    · obtain ⟨x, hx, hp⟩ := (h.lists r n).mp hn
      obtain ⟨hm, hs⟩ := (findSlab_iff_mem h.ascending).mp hx
      exact ⟨x, hm, hs, hp⟩
    · obtain ⟨y, hy, hrest⟩ := (h.fits _ x (found x hm)).named p (by simpa using hp)
      exact ⟨y, by simp [hy], hrest⟩
    · obtain ⟨x, hx, hp⟩ := h.claimed p y (by simpa using hy)
      obtain ⟨hm, hs⟩ := (findSlab_iff_mem h.ascending).mp hx
      exact ⟨x, hm, hs, hp⟩

/-! ## Plans, one at a time -/

/-- The placements of a plan record while it is COMMITTED or CUTTING. -/
def committedOf (o : Option Plan) : List Placement :=
  match o with
  | some x => if isCommittedOrCutting x then placementsOf x else []
  | none => []

theorem committedPlacements_eq (s : State) (p : Fin 16) : committedPlacements s p = committedOf (s.plan p) := by
  unfold committedPlacements committedOf
  rfl

@[simp] theorem committedOf_none : committedOf none = [] := rfl

theorem committedOf_of_before {x : Plan} (h : beforeCommit x = true) : committedOf (some x) = [] := by
  have : isCommittedOrCutting x = false := by simpa [beforeCommit] using h
  simp [committedOf, this]

theorem committedOf_of_after {x : Plan} (h : isCommittedOrCutting x = true) : committedOf (some x) = placementsOf x := by
  simp [committedOf, h]

/-- What `PlansOk` says of one plan slot. -/
structure PlanOk (o : Option Plan) : Prop where
  set : ∀ y, o = some y → y.pieces.Nodup
  distinct : ((committedOf o).map fun z => z.piece).Nodup
  laid : ∀ y, o = some y → beforeCommit y = true → ∀ l, layoutOf y = some l →
    y.pieces.Perm (l.placements.map (fun z => z.piece) ++ l.unfit.map fun u => u.piece)
  committed : ∀ y, o = some y → isCommitted y = true → ∀ z ∈ placementsOf y, z.state = some .queued ∨ z.state = some .void
  cutting : ∀ y, o = some y → isCutting y = true → ∀ z ∈ placementsOf y, z.state ≠ none

theorem plansOk_iff {s : State} : PlansOk s ↔ ∀ p, PlanOk (s.plan p) := by
  constructor
  · intro h p
    refine ⟨fun y hy => h.sets p y (by simp [hy]), ?_, fun y hy hb l hl => h.laid p y (by simp [hy]) hb l (by simp [hl]),
      fun y hy => h.committed p y (by simp [hy]), fun y hy => h.cutting p y (by simp [hy])⟩
    simpa [committedPlacements_eq] using h.distinct p
  · intro h
    refine ⟨fun p y hy => (h p).set y (by simpa using hy), fun p => ?_,
      fun p y hy hb l hl => (h p).laid y (by simpa using hy) hb l (by simpa using hl),
      fun p y hy => (h p).committed y (by simpa using hy), fun p y hy => (h p).cutting y (by simpa using hy)⟩
    simpa [committedPlacements_eq] using (h p).distinct

theorem planOk_none : PlanOk none := by
  constructor <;> simp

/-! ## Pieces -/

/-- R24: a plan slot holds the piece named `i` in the state `q`: DRAFTED in the piece set of a plan not yet committed, QUEUED or ISSUED
in a placement of that state. -/
def PlanHolds (o : Option Plan) (q : PieceState) (i : PieceId) : Prop :=
  match q with
  | .drafted => ∃ y, o = some y ∧ beforeCommit y = true ∧ i ∈ y.pieces
  | .queued => ∃ z ∈ committedOf o, z.piece = i ∧ z.state = some .queued
  | .issued => ∃ z ∈ committedOf o, z.piece = i ∧ z.state = some .issued
  | _ => False

/-- The piece named `i` has the state `q` and the plan number `p`. -/
def PieceIs (t : JobTable) (q : PieceState) (p : Fin 16) (i : PieceId) : Prop :=
  ∃ x, findPiece i t = some x ∧ x.state = q ∧ x.plan = some p

/-- R23: in an ascending table the piece found for a name is the one that carries it. -/
theorem findPiece_iff_mem {t : JobTable} (h : t.pieces.Pairwise fun x y => pieceBefore x y = true) {i : PieceId} {x : Piece} :
    findPiece i t = some x ↔ x ∈ t.pieces ∧ x.id = i := by
  unfold findPiece
  generalize t.pieces = l at h
  induction l with
  | nil => simp
  | cons y l ih =>
    obtain ⟨hy, hl⟩ := List.pairwise_cons.mp h
    have hlt : ∀ z ∈ l, z.id ≠ y.id := fun z hz he => by
      have := hy z hz
      simp [pieceBefore, he] at this
    by_cases hn : y.id = i
    · subst hn
      simp only [List.find?_cons, beq_self_eq_true, Option.some.injEq, List.mem_cons]
      constructor
      · rintro rfl; exact ⟨.inl rfl, rfl⟩
      · rintro ⟨rfl | hx, hs⟩
        · rfl
        · exact absurd hs (hlt x hx)
    · simp only [List.find?_cons, show (y.id == i) = false by simpa using hn, ih hl, List.mem_cons]
      constructor
      · rintro ⟨hx, hs⟩; exact ⟨.inr hx, hs⟩
      · rintro ⟨rfl | hx, hs⟩
        · exact absurd hs hn
        · exact ⟨hx, hs⟩

/-- `PiecesOk`, by what a lookup of one name gives. -/
structure PiecesRead (s : State) : Prop where
  ascending : s.jobs.pieces.Pairwise fun x y => pieceBefore x y = true
  owned : ∀ i x, findPiece i s.jobs = some x → i.idx ≤ 47 ∧ (s.job i.job).isSome = true
  unclaimed : ∀ i x, findPiece i s.jobs = some x → x.plan = none → inWork x = false
  held : ∀ q p i, PlanHolds (s.plan p) q i ↔ PieceIs s.jobs q p i

theorem piecesOk_iff {s : State} : PiecesOk s ↔ PiecesRead s := by
  constructor
  · intro h
    have found : ∀ {i x}, findPiece i s.jobs = some x ↔ x ∈ s.jobs.pieces ∧ x.id = i := findPiece_iff_mem h.ascending
    refine ⟨h.ascending, fun i x hx => ?_, fun i x hx hn => ?_, fun q p i => ?_⟩
    · obtain ⟨hm, rfl⟩ := found.mp hx
      exact h.owned x hm
    · have := (h.unclaimed x (found.mp hx).1).mpr hn
      rcases this with hs | hs | hs <;> simp [inWork, hs]
    · have named : ∀ x ∈ s.jobs.pieces, ∀ p, x.plan = some p → inWork x = true := fun x hm p hp => by
        have hiff := h.unclaimed x hm
        have hno : ¬(x.state = .unplanned ∨ x.state = .cut ∨ x.state = .held) := fun h' => by
          rw [hiff.mp h'] at hp; cases hp
        cases hst : x.state <;> simp_all [inWork]
      cases q with
      | drafted =>
        constructor
        · rintro ⟨y, hy, hb, hi⟩
          obtain ⟨x, hm, hid, hst, hp⟩ := h.inSet p y (by simp [hy]) hb i hi
          exact ⟨x, found.mpr ⟨hm, hid⟩, hst, hp⟩
        · rintro ⟨x, hx, hst, hp⟩
          obtain ⟨hm, rfl⟩ := found.mp hx
          obtain ⟨p', hp', y, hy, hb, hi⟩ := h.drafted x hm hst
          obtain rfl : p' = p := by rw [hp] at hp'; simpa using hp'.symm
          exact ⟨y, by simpa using hy, hb, hi⟩
      | queued =>
        constructor
        · rintro ⟨z, hz, rfl, hst⟩
          obtain ⟨x, hm, hid, hst, hp⟩ := (h.placed p z (by rwa [committedPlacements_eq])).1 hst
          exact ⟨x, found.mpr ⟨hm, hid⟩, hst, hp⟩
        · rintro ⟨x, hx, hst, hp⟩
          obtain ⟨hm, rfl⟩ := found.mp hx
          obtain ⟨p', hp', z, hz, hid, hzs⟩ := h.queued x hm hst
          obtain rfl : p' = p := by rw [hp] at hp'; simpa using hp'.symm
          exact ⟨z, by rwa [← committedPlacements_eq], hid, hzs⟩
      | issued =>
        constructor
        · rintro ⟨z, hz, rfl, hst⟩
          obtain ⟨x, hm, hid, hst, hp⟩ := (h.placed p z (by rwa [committedPlacements_eq])).2 hst
          exact ⟨x, found.mpr ⟨hm, hid⟩, hst, hp⟩
        · rintro ⟨x, hx, hst, hp⟩
          obtain ⟨hm, rfl⟩ := found.mp hx
          obtain ⟨p', hp', z, hz, hid, hzs⟩ := h.issued x hm hst
          obtain rfl : p' = p := by rw [hp] at hp'; simpa using hp'.symm
          exact ⟨z, by rwa [← committedPlacements_eq], hid, hzs⟩
      | unplanned | cut | held =>
        refine ⟨False.elim, ?_⟩
        rintro ⟨x, hx, hst, hp⟩
        have := named x (found.mp hx).1 p hp
        simp [inWork, hst] at this
  · intro h
    have found : ∀ x ∈ s.jobs.pieces, findPiece x.id s.jobs = some x := fun x hm =>
      (findPiece_iff_mem h.ascending).mpr ⟨hm, rfl⟩
    have holds : ∀ x ∈ s.jobs.pieces, inWork x = true → ∃ p, x.plan = some p ∧ PlanHolds (s.plan p) x.state x.id := fun x hm hw => by
      cases hp : x.plan with
      | none => rw [h.unclaimed _ x (found x hm) hp] at hw; cases hw
      | some p => exact ⟨p, rfl, (h.held _ p _).mpr ⟨x, found x hm, rfl, hp⟩⟩
    have piece : ∀ {q p i}, PlanHolds (s.plan p) q i → ∃ x ∈ s.jobs.pieces, x.id = i ∧ x.state = q ∧ x.plan = some p := fun hh => by
      obtain ⟨x, hx, hst, hp⟩ := (h.held _ _ _).mp hh
      obtain ⟨hm, hid⟩ := (findPiece_iff_mem h.ascending).mp hx
      exact ⟨x, hm, hid, hst, hp⟩
    refine ⟨h.ascending, fun x hm => h.owned _ x (found x hm), fun x hm => ⟨fun hst => ?_, fun hn => ?_⟩, fun x hm hst => ?_,
      fun x hm hst => ?_, fun x hm hst => ?_, fun p y hy hb i hi => ?_, fun p z hz => ⟨fun hst => ?_, fun hst => ?_⟩⟩
    · cases hp : x.plan with
      | none => rfl
      | some p =>
        have := (h.held x.state p x.id).mpr ⟨x, found x hm, rfl, hp⟩
        rcases hst with hst | hst | hst <;> simp [PlanHolds, hst] at this
    · have := h.unclaimed _ x (found x hm) hn
      cases hst : x.state <;> simp_all [inWork]
    · obtain ⟨p, hp, hh⟩ := holds x hm (by simp [inWork, hst])
      rw [hst] at hh
      obtain ⟨y, hy, hb, hi⟩ := hh
      exact ⟨p, by simp [hp], y, by simp [hy], hb, hi⟩
    · obtain ⟨p, hp, hh⟩ := holds x hm (by simp [inWork, hst])
      rw [hst] at hh
      exact ⟨p, by simp [hp], by rw [committedPlacements_eq]; exact hh⟩
    · obtain ⟨p, hp, hh⟩ := holds x hm (by simp [inWork, hst])
      rw [hst] at hh
      exact ⟨p, by simp [hp], by rw [committedPlacements_eq]; exact hh⟩
    · exact piece (q := .drafted) ⟨y, by simpa using hy, hb, hi⟩
    · exact piece (q := .queued) ⟨z, by rwa [← committedPlacements_eq], rfl, hst⟩
    · exact piece (q := .issued) ⟨z, by rwa [← committedPlacements_eq], rfl, hst⟩

end Sys2Proof.Machine
end

section
/-! `RecordsOk` as what each block reads: the open-placement counts, the stations' queues and roles, and the whole; and the commands'
parts that no clause of it can see. -/

namespace Sys2Proof.Machine

/-! ## Open-placement counts (R26) -/

/-- The placements of one job in the COMMITTED and CUTTING plans. -/
def openTotal (s : State) (j : Fin 64) : Nat :=
  ∑ p, (committedOf (s.plan p)).countP fun z => z.piece.job == j

/-- `OpenCountsOk` over the plan slots. -/
structure CountsRead (s : State) : Prop where
  counts : ∀ j b, s.job j = some b → b.openCount = openTotal s j
  inUse : ∀ p, ∀ z ∈ committedOf (s.plan p), (s.job z.piece.job).isSome = true

theorem openCountsOk_iff {s : State} : OpenCountsOk s ↔ CountsRead s := by
  have total : ∀ j, (allPlans.map fun p => (committedPlacements s p).countP fun z => z.piece.job == j).sum = openTotal s j :=
    fun j => by simp only [committedPlacements_eq]; exact (Fin.sum_univ_def _).symm
  constructor
  · intro h
    refine ⟨fun j b hb => (h.counts j b (by simp [hb])).trans (total j), fun p z hz => h.inUse p z ?_⟩
    rwa [committedPlacements_eq]
  · intro h
    refine ⟨fun j b hb => (h.counts j b (by simpa using hb)).trans (total j).symm, fun p z hz => h.inUse p z ?_⟩
    rwa [← committedPlacements_eq]

/-- A sum over the plan slots of which one has changed. -/
theorem openTotal_of_update {s t : State} {p : Fin 16} (h : ∀ q, q ≠ p → t.plan q = s.plan q) (j : Fin 64) :
    openTotal t j + (committedOf (s.plan p)).countP (fun z => z.piece.job == j) =
      openTotal s j + (committedOf (t.plan p)).countP fun z => z.piece.job == j := by
  unfold openTotal
  rw [← Finset.add_sum_erase _ _ (Finset.mem_univ p),
    ← Finset.add_sum_erase _ (fun q => (committedOf (s.plan q)).countP fun z => z.piece.job == j) (Finset.mem_univ p)]
  have : ∑ q ∈ Finset.univ.erase p, (committedOf (t.plan q)).countP (fun z => z.piece.job == j) =
      ∑ q ∈ Finset.univ.erase p, (committedOf (s.plan q)).countP fun z => z.piece.job == j :=
    Finset.sum_congr rfl fun q hq => by rw [h q (Finset.ne_of_mem_erase hq)]
  omega

/-- Slots whose placements keep their pieces keep the totals. -/
theorem openTotal_congr {s t : State}
    (h : ∀ p, (committedOf (t.plan p)).map (fun z => z.piece) = (committedOf (s.plan p)).map fun z => z.piece) (j : Fin 64) :
    openTotal t j = openTotal s j := by
  unfold openTotal
  refine Finset.sum_congr rfl fun p _ => ?_
  have key : ∀ l : List Placement, l.countP (fun z => z.piece.job == j) = (l.map fun z => z.piece).countP fun i => i.job == j :=
    fun l => by rw [List.countP_map]; rfl
  rw [key, key, h p]

/-- Counts and totals that both stand keep `CountsRead`. -/
theorem CountsRead.of_congr {s t : State} (h : CountsRead s)
    (hp : ∀ p, (committedOf (t.plan p)).map (fun z => z.piece) = (committedOf (s.plan p)).map fun z => z.piece)
    (hj : ∀ j, (t.job j).map Job.openCount = (s.job j).map Job.openCount) : CountsRead t := by
  have some_iff : ∀ j, (t.job j).isSome = (s.job j).isSome := fun j => by
    have := congrArg Option.isSome (hj j)
    simpa using this
  refine ⟨fun j b hb => ?_, fun p z hz => ?_⟩
  · have := hj j
    rw [hb] at this
    obtain ⟨c, hc, hcount⟩ := Option.map_eq_some_iff.mp this.symm
    rw [openTotal_congr hp, ← h.counts j c hc, hcount]
  · rw [some_iff]
    have hm : z.piece ∈ (committedOf (s.plan p)).map fun z => z.piece := hp p ▸ List.mem_map_of_mem hz
    obtain ⟨y, hy, he⟩ := List.mem_map.mp hm
    exact he ▸ h.inUse p y hy

/-! ## Cut entries (R71) -/

/-- The cut entries of those placements of a list that a test selects, in their order. -/
def entriesWhere (f : Placement → Bool) (p : Fin 16) (l : List Placement) : List CutEntry :=
  (l.zipIdx.filter fun z => f z.1).map fun z => ⟨p, z.2, z.1.piece⟩

/-- The placement's cut is issued. -/
def isIssued (x : Placement) : Bool :=
  x.state == some .issued

/-- The selected cut entries of the COMMITTED or CUTTING plan in a role. -/
def entriesOf (f : Placement → Bool) (s : State) (o : Option (Fin 16)) : List CutEntry :=
  match o with
  | some p => entriesWhere f p (committedOf (s.plan p))
  | none => []

@[simp] theorem entriesWhere_nil (f : Placement → Bool) (p : Fin 16) : entriesWhere f p [] = [] := rfl

@[simp] theorem entriesOf_none (f : Placement → Bool) (s : State) : entriesOf f s none = [] := rfl

@[simp] theorem entriesOf_some (f : Placement → Bool) (s : State) (p : Fin 16) :
    entriesOf f s (some p) = entriesWhere f p (committedOf (s.plan p)) := rfl

theorem mem_entriesWhere {f : Placement → Bool} {p : Fin 16} {l : List Placement} {e : CutEntry} :
    e ∈ entriesWhere f p l ↔ e.plan = p ∧ ∃ z, l[e.index]? = some z ∧ f z = true ∧ z.piece = e.piece := by
  simp only [entriesWhere, List.mem_map, List.mem_filter, Prod.exists, List.mk_mem_zipIdx_iff_getElem?]
  constructor
  · rintro ⟨z, i, ⟨hz, hf⟩, rfl⟩
    exact ⟨rfl, z, hz, hf, rfl⟩
  · rintro ⟨rfl, z, hz, hf, hp⟩
    exact ⟨z, e.index, ⟨hz, hf⟩, by rw [hp]⟩

theorem entriesWhere_nodup (f : Placement → Bool) (p : Fin 16) (l : List Placement) : (entriesWhere f p l).Nodup := by
  have h : ((l.zipIdx.filter fun z => f z.1).map Prod.snd).Nodup :=
    (List.filter_sublist.map Prod.snd).nodup (List.nodup_zipIdx_map_snd l)
  rw [entriesWhere]
  refine List.Nodup.of_map (fun e : CutEntry => e.index) ?_
  rw [List.map_map]
  exact h

theorem zipIdx_mapIdx {α : Type} (h : Nat → α → α) (l : List α) :
    (l.mapIdx h).zipIdx = l.zipIdx.map fun z => (h z.2 z.1, z.2) := by
  refine List.ext_getElem? fun i => ?_
  simp only [List.getElem?_zipIdx, List.getElem?_map, List.getElem?_mapIdx]
  cases l[i]? <;> simp

/-- New placements, place by place with the same pieces, of which a test selects those of the old selection that `c` keeps. -/
theorem entriesWhere_mapIdx {f g : Placement → Bool} {p : Fin 16} {l : List Placement} {h : Nat → Placement → Placement}
    (c : CutEntry → Bool) (hp : ∀ i z, (h i z).piece = z.piece)
    (heq : ∀ i z, l[i]? = some z → f (h i z) = (g z && c ⟨p, i, z.piece⟩)) :
    entriesWhere f p (l.mapIdx h) = (entriesWhere g p l).filter c := by
  simp only [entriesWhere, zipIdx_mapIdx, List.filter_map, List.map_map, List.filter_filter]
  have hfun : ((fun z : Placement × Nat => (⟨p, z.2, z.1.piece⟩ : CutEntry)) ∘ fun z : Placement × Nat => (h z.2 z.1, z.2)) =
      fun z => ⟨p, z.2, z.1.piece⟩ := by
    funext z; simp [hp]
  rw [hfun]
  congr 1
  refine List.filter_congr fun z hz => ?_
  have := heq z.2 z.1 (List.mk_mem_zipIdx_iff_getElem?.mp hz)
  simpa [Bool.and_comm] using this

/-- One placement given a state, place by place. -/
theorem modify_eq_mapIdx {α : Type} (l : List α) (i : Nat) (f : α → α) :
    l.modify i f = l.mapIdx fun j z => if i = j then f z else z := by
  refine List.ext_getElem? fun j => ?_
  rw [List.getElem?_modify, List.getElem?_mapIdx]
  rfl

theorem map_eq_mapIdx {α β : Type} (l : List α) (f : α → β) : l.map f = l.mapIdx fun _ z => f z := by
  refine List.ext_getElem? fun j => ?_
  simp [List.getElem?_mapIdx]

/-- A selection by one more test is that selection filtered by it. -/
theorem entriesWhere_filter {f g : Placement → Bool} {p : Fin 16} {l : List Placement} (c : CutEntry → Bool)
    (heq : ∀ i z, l[i]? = some z → f z = (g z && c ⟨p, i, z.piece⟩)) : entriesWhere f p l = (entriesWhere g p l).filter c := by
  have hl : l.mapIdx (fun _ z => z) = l := by simp [← map_eq_mapIdx]
  have h := entriesWhere_mapIdx (f := f) (h := fun _ z => z) c (fun _ _ => rfl) heq
  rwa [hl] at h

/-! ## Stations (R71, R77, R78, R85) -/

/-- The placements of a slot, where it is COMMITTED or CUTTING. -/
theorem committedOf_placements {s : State} {p : Fin 16} {y : Plan} (hy : s.plan p = some y) (h : isCommittedOrCutting y = true) :
    committedOf (s.plan p) = s.placements p := by
  simp [State.placements, hy, committedOf_of_after h]

theorem openEntries_eq (s : State) (o : Option (Fin 16)) : openEntries s o = entriesOf unfinished s o := by
  cases o with
  | none => rfl
  | some p =>
    simp only [openEntries, entriesOf_some, committedPlacements_eq]
    by_cases hc : ∃ y, s.plan p = some y ∧ isCommittedOrCutting y = true
    · obtain ⟨y, hy, hcc⟩ := hc
      have hall : cutEntries p (committedOf (s.plan p)) = entriesWhere (fun _ => true) p (committedOf (s.plan p)) := by
        rw [entriesWhere, List.filter_true, cutEntries, List.mapIdx_eq_zipIdx_map]
      rw [hall]
      refine (entriesWhere_filter _ fun i z hz => ?_).symm
      rw [committedOf_placements hy hcc] at hz
      simp [entryState, hz, unfinished]
    · have : committedOf (s.plan p) = [] := by
        unfold committedOf
        split
        · rename_i y hy
          exact if_neg fun h => hc ⟨y, hy, h⟩
        · rfl
      rw [this]
      rfl

/-- Of a role's open entries, those whose placement is ISSUED. -/
theorem filter_issued_entriesOf (s : State) (o : Option (Fin 16)) :
    (entriesOf unfinished s o).filter (fun e => entryState e s == some .issued) = entriesOf isIssued s o := by
  cases o with
  | none => rfl
  | some p =>
    simp only [entriesOf_some]
    refine (entriesWhere_filter _ fun i z hz => ?_).symm
    have hplan : ∃ y, s.plan p = some y ∧ isCommittedOrCutting y = true := by
      cases hy : s.plan p with
      | none => rw [hy] at hz; simp at hz
      | some y =>
        by_cases hc : isCommittedOrCutting y = true
        · exact ⟨y, rfl, hc⟩
        · rw [hy] at hz; simp [committedOf, hc] at hz
    obtain ⟨y, hy, hcc⟩ := hplan
    rw [committedOf_placements hy hcc] at hz
    cases hst : z.state with
    | none => simp [entryState, hz, unfinished, isIssued, hst]
    | some q => cases q <;> simp [entryState, hz, unfinished, isIssued, hst]

theorem currentCutting_iff {st : Fin 6} {s : State} : currentCutting st s = true ↔
    ∃ p y, (s.station st).current = some p ∧ s.plan p = some y ∧ isCutting y = true := by
  unfold currentCutting
  cases (s.station st).current with
  | none => simp
  | some p =>
    dsimp only
    cases hy : s.plan p with
    | none => simp [hy]
    | some y => simp [hy]

/-- What `StationsOk` says of one station, with its entries read off its plans. -/
structure StationRead (s : State) (st : Fin 6) : Prop where
  roles : ∀ p, (s.station st).current = some p ∨ (s.station st).next = some p ↔
    ∃ y, s.plan p = some y ∧ y.station = st ∧ isCommittedOrCutting y = true
  second : ∀ p, (s.station st).next = some p → (s.station st).current ≠ none ∧ (s.station st).current ≠ some p ∧
    ∀ y, s.plan p = some y → isCutting y = false
  queue : (s.station st).queue = entriesOf unfinished s (s.station st).current ++ entriesOf unfinished s (s.station st).next
  issued : entriesOf isIssued s (s.station st).current ++ entriesOf isIssued s (s.station st).next = (s.station st).issued.toList
  atWork : (s.station st).issued ≠ none → (s.station st).mode = .loaded
  loaded : (s.station st).mode = .loaded → currentCutting st s = true
  ready : (s.station st).mode = .ready → currentCutting st s = false

theorem stationsOk_iff {s : State} : StationsOk s ↔ ∀ st, StationRead s st := by
  have issuedQueue : ∀ st, (s.station st).queue =
      entriesOf unfinished s (s.station st).current ++ entriesOf unfinished s (s.station st).next →
      (s.station st).queue.filter (fun e => entryState e s == some .issued) =
        entriesOf isIssued s (s.station st).current ++ entriesOf isIssued s (s.station st).next := fun st h => by
    rw [h, List.filter_append, filter_issued_entriesOf, filter_issued_entriesOf]
  constructor
  · intro h st
    have hq : (s.station st).queue =
        entriesOf unfinished s (s.station st).current ++ entriesOf unfinished s (s.station st).next := by
      simpa only [openEntries_eq] using h.queue st
    refine ⟨fun p => by simpa using h.roles st p, fun p hp => ?_, hq, (issuedQueue st hq).symm.trans (h.issued st), h.atWork st,
      h.loaded st, h.ready st⟩
    simpa using h.twoPlans st p (by simp [hp])
  · intro h
    refine ⟨fun st p => by simpa using (h st).roles p, fun st p hp => ?_, fun st => ?_,
      fun st => (issuedQueue st (h st).queue).trans (h st).issued, fun st => (h st).atWork, fun st => (h st).loaded,
      fun st => (h st).ready⟩
    · simpa using (h st).second p (by simpa using hp)
    · simpa only [openEntries_eq] using (h st).queue

/-! ## The layout queue -/

/-- R58: the layout work of a slot: absent unless LAYING, and then the computation's number, if one is started. -/
def layingOf (o : Option Plan) : Option (Option Nat) :=
  o.bind fun y => match y.phase with
    | .laying n => some n
    | _ => none

/-- `LayoutQueueOk` over the plan slots. -/
structure LayoutsRead (s : State) : Prop where
  once : s.plans.queue.Nodup
  waiting : ∀ p, p ∈ s.plans.queue ↔ layingOf (s.plan p) = some none
  started : ∀ p n, layingOf (s.plan p) = some (some n) → ∃ c, s.engine.current = some c ∧ c.plan = p ∧ c.number = n
  inProgress : ∀ c, s.engine.current = some c → layingOf (s.plan c.plan) = some (some c.number)

theorem layingOf_waiting {o : Option Plan} : layingOf o = some none ↔ ∃ x ∈ o, x.phase = .laying none := by
  cases o with
  | none => simp [layingOf]
  | some y => cases hy : y.phase <;> simp [layingOf, hy]

theorem layingOf_started {o : Option Plan} {n : Nat} : layingOf o = some (some n) ↔ ∃ x ∈ o, numberOf x = some n := by
  cases o with
  | none => simp [layingOf]
  | some y => cases hy : y.phase <;> simp [layingOf, numberOf, hy]

theorem layoutQueueOk_iff {s : State} : LayoutQueueOk s ↔ LayoutsRead s := by
  constructor
  · intro h
    refine ⟨h.once, fun p => (h.waiting p).trans layingOf_waiting.symm, fun p n hn => ?_, fun c hc => ?_⟩
    · obtain ⟨x, hx, hnum⟩ := layingOf_started.mp hn
      obtain ⟨c, hc, hrest⟩ := h.started p x hx n (by simp [hnum])
      exact ⟨c, by simpa using hc, hrest⟩
    · exact layingOf_started.mpr (h.inProgress c (by simp [hc]))
  · intro h
    refine ⟨h.once, fun p => (h.waiting p).trans layingOf_waiting, fun p x hx n hn => ?_, fun c hc => ?_⟩
    · obtain ⟨c, hc, hrest⟩ := h.started p n (layingOf_started.mpr ⟨x, hx, by simpa using hn⟩)
      exact ⟨c, by simp [hc], hrest⟩
    · exact layingOf_started.mp (h.inProgress c (by simpa using hc))

/-! ## The whole -/

/-- `RecordsOk`, as its blocks read. -/
structure RecordsRead (s : State) : Prop where
  stock : StockReads s
  pieces : PiecesRead s
  plans : ∀ p, PlanOk (s.plan p)
  counts : CountsRead s
  layouts : LayoutsRead s
  stations : ∀ st, StationRead s st

theorem recordsOk_iff {s : State} : RecordsOk s ↔ RecordsRead s := by
  constructor
  · intro h
    exact ⟨stockOk_iff.mp h.stock, piecesOk_iff.mp h.pieces, plansOk_iff.mp h.plans, openCountsOk_iff.mp h.counts, layoutQueueOk_iff.mp h.layouts,
      stationsOk_iff.mp h.stations⟩
  · intro h
    exact ⟨stockOk_iff.mpr h.stock, piecesOk_iff.mpr h.pieces, plansOk_iff.mpr h.plans, openCountsOk_iff.mpr h.counts,
      layoutQueueOk_iff.mpr h.layouts,
      stationsOk_iff.mpr h.stations⟩

end Sys2Proof.Machine
end

section
/-! What the records' agreement depends on, block by block, and the moves that none of it can see (`RecordFrame`): transactions,
charges, water, the plant, meters. -/

namespace Sys2Proof.Machine

/-! ## What each block depends on -/

/-- The layout work depends on the queue, the engine's computation and the LAYING plans. -/
theorem LayoutsRead.of_same {s t : State} (h : LayoutsRead s) (hq : t.plans.queue = s.plans.queue)
    (hc : t.engine.current = s.engine.current) (hp : ∀ p, layingOf (t.plan p) = layingOf (s.plan p)) : LayoutsRead t := by
  refine ⟨hq ▸ h.once, fun p => ?_, fun p n hn => ?_, fun c h' => ?_⟩
  · rw [hq, hp]; exact h.waiting p
  · rw [hc]; exact h.started p n (hp p ▸ hn)
  · rw [hp]; exact h.inProgress c (hc ▸ h')

/-- What the Stock Table reads of a plan. -/
def slabView (o : Option Plan) : Option (Nat × Fin 6 × Bool) :=
  o.map fun y => (y.serial, y.station, isCutting y)

theorem slabView_eq_some {o : Option Plan} {n : Nat} {st : Fin 6} {c : Bool} :
    slabView o = some (n, st, c) ↔ ∃ y, o = some y ∧ y.serial = n ∧ y.station = st ∧ isCutting y = c := by
  simp [slabView]

theorem SlabFits.of_view {s t : State} {x : Slab} (h : SlabFits s x) (hp : ∀ p, x.plan = some p → slabView (t.plan p) = slabView (s.plan p)) :
    SlabFits t x := by
  refine ⟨h.free, fun p hx => ?_⟩
  obtain ⟨y, hy, hserial, hno, hyes⟩ := h.named p hx
  have hv : slabView (t.plan p) = some (y.serial, y.station, isCutting y) := by rw [hp p hx, hy]; rfl
  obtain ⟨z, hz, hs, hst, hc⟩ := slabView_eq_some.mp hv
  exact ⟨z, hz, hs.trans hserial, fun hzc => hno (hc ▸ hzc), fun hzc => hst ▸ hyes (hc ▸ hzc)⟩

theorem StockReads.of_same {s t : State} (h : StockReads s) (hk : t.stock = s.stock)
    (hp : ∀ p, slabView (t.plan p) = slabView (s.plan p)) : StockReads t := by
  refine ⟨hk ▸ h.ascending, hk ▸ h.counter, hk ▸ h.once, hk ▸ h.lists, fun n x hx => ?_, fun p y hy => ?_⟩
  · exact (h.fits n x (hk ▸ hx)).of_view fun p _ => hp p
  · have hv : slabView (s.plan p) = some (y.serial, y.station, isCutting y) := by rw [← hp, hy]; rfl
    obtain ⟨z, hz, hs, -⟩ := slabView_eq_some.mp hv
    rw [hk, ← hs]
    exact h.claimed p z hz

theorem PiecesRead.of_same {s t : State} (h : PiecesRead s) (hp : t.jobs.pieces = s.jobs.pieces)
    (hj : ∀ j, (s.job j).isSome = true → (t.job j).isSome = true)
    (hh : ∀ q p i, PlanHolds (t.plan p) q i ↔ PlanHolds (s.plan p) q i) : PiecesRead t := by
  have find : ∀ i, findPiece i t.jobs = findPiece i s.jobs := fun i => findPiece_congr i hp
  refine ⟨hp ▸ h.ascending, fun i x hx => ?_, fun i x hx => h.unclaimed i x (find i ▸ hx), fun q p i => ?_⟩
  · obtain ⟨h1, h2⟩ := h.owned i x (find i ▸ hx)
    exact ⟨h1, hj _ h2⟩
  · rw [hh, h.held]
    simp only [PieceIs, find]

/-- Only fields of a station that no clause of `StationsOk` reads may differ. -/
structure StationSame (x y : Station) : Prop where
  mode : y.mode = x.mode
  queue : y.queue = x.queue
  current : y.current = x.current
  next : y.next = x.next
  issued : y.issued = x.issued

theorem StationSame.refl (x : Station) : StationSame x x := ⟨rfl, rfl, rfl, rfl, rfl⟩

theorem StationSame.trans {x y z : Station} (h : StationSame x y) (g : StationSame y z) : StationSame x z :=
  ⟨g.1.trans h.1, g.2.trans h.2, g.3.trans h.3, g.4.trans h.4, g.5.trans h.5⟩

theorem StationKept.same {x y : Station} (h : StationKept x y) : StationSame x y := by
  rw [StationKept] at h
  exact ⟨by rw [h], by rw [h], by rw [h], by rw [h], by rw [h]⟩

/-- The slot holds no COMMITTED or CUTTING plan of the station. -/
def Away (st : Fin 6) (o : Option Plan) : Prop :=
  ∀ y, o = some y → isCommittedOrCutting y = true → y.station ≠ st

/-- What a station reads of a plan. -/
structure PlanSame (o o' : Option Plan) : Prop where
  view : o'.map (fun y => (y.station, isCommittedOrCutting y, isCutting y)) =
    o.map fun y => (y.station, isCommittedOrCutting y, isCutting y)
  placements : committedOf o' = committedOf o

theorem PlanSame.refl (o : Option Plan) : PlanSame o o := ⟨rfl, rfl⟩

theorem PlanSame.symm {o o' : Option Plan} (h : PlanSame o o') : PlanSame o' o := ⟨h.1.symm, h.2.symm⟩

theorem PlanSame.exists {o o' : Option Plan} (h : PlanSame o o') {y : Plan} (hy : o = some y) :
    ∃ z, o' = some z ∧ z.station = y.station ∧ isCommittedOrCutting z = isCommittedOrCutting y ∧ isCutting z = isCutting y := by
  have hv := h.view
  rw [hy] at hv
  simpa using hv

theorem isCutting_committedOrCutting {y : Plan} (h : isCutting y = true) : isCommittedOrCutting y = true := by
  simp [isCommittedOrCutting, h]

/-- A station whose own fields stand, while every slot either reads to it as before or holds no plan of it before and after. -/
theorem StationRead.of_same {s t : State} {st : Fin 6} (h : StationRead s st) (hst : StationSame (s.station st) (t.station st))
    (hp : ∀ p, PlanSame (s.plan p) (t.plan p) ∨ (Away st (s.plan p) ∧ Away st (t.plan p))) : StationRead t st := by
  obtain ⟨hmode, hqueue, hcur, hnext, hissued⟩ := hst
  have inRole : ∀ p, (s.station st).current = some p ∨ (s.station st).next = some p → PlanSame (s.plan p) (t.plan p) := fun p hr => by
    rcases hp p with hsame | ⟨haway, -⟩
    · exact hsame
    · obtain ⟨y, hy, hys, hyc⟩ := (h.roles p).mp hr
      exact absurd hys (haway y hy hyc)
  have entries : ∀ f o, (∀ p, o = some p → (s.station st).current = some p ∨ (s.station st).next = some p) →
      entriesOf f t o = entriesOf f s o := fun f o ho => by
    cases o with
    | none => rfl
    | some p => simp only [entriesOf_some, (inRole p (ho p rfl)).placements]
  have ecur : ∀ f, entriesOf f t (s.station st).current = entriesOf f s (s.station st).current := fun f =>
    entries f _ fun p hp => .inl hp
  have enext : ∀ f, entriesOf f t (s.station st).next = entriesOf f s (s.station st).next := fun f =>
    entries f _ fun p hp => .inr hp
  have cut : currentCutting st t = currentCutting st s := by
    rw [Bool.eq_iff_iff, currentCutting_iff, currentCutting_iff, hcur]
    constructor
    · rintro ⟨p, y, hc, hy, hyc⟩
      obtain ⟨z, hz, -, -, hzc⟩ := (inRole p (.inl hc)).symm.exists hy
      exact ⟨p, z, hc, hz, hzc.trans hyc⟩
    · rintro ⟨p, y, hc, hy, hyc⟩
      obtain ⟨z, hz, -, -, hzc⟩ := (inRole p (.inl hc)).exists hy
      exact ⟨p, z, hc, hz, hzc.trans hyc⟩
  refine ⟨fun p => ?_, fun p hn => ?_, ?_, ?_, ?_, ?_, ?_⟩
  · rw [hcur, hnext, h.roles p]
    rcases hp p with hsame | ⟨h1, h2⟩
    · constructor
      · rintro ⟨y, hy, hys, hyc⟩
        obtain ⟨z, hz, hzs, hzc, -⟩ := hsame.exists hy
        exact ⟨z, hz, hzs.trans hys, hzc.trans hyc⟩
      · rintro ⟨y, hy, hys, hyc⟩
        obtain ⟨z, hz, hzs, hzc, -⟩ := hsame.symm.exists hy
        exact ⟨z, hz, hzs.trans hys, hzc.trans hyc⟩
    · exact ⟨fun ⟨y, hy, hys, hyc⟩ => absurd hys (h1 y hy hyc), fun ⟨y, hy, hys, hyc⟩ => absurd hys (h2 y hy hyc)⟩
  · rw [hnext] at hn
    obtain ⟨h1, h2, h3⟩ := h.second p hn
    refine ⟨by rwa [hcur], by rwa [hcur], fun y hy => ?_⟩
    obtain ⟨z, hz, -, -, hzc⟩ := (inRole p (.inr hn)).symm.exists hy
    exact hzc ▸ h3 z hz
  · rw [hqueue, hcur, hnext, ecur, enext]; exact h.queue
  · rw [hissued, hcur, hnext, ecur, enext]; exact h.issued
  · rw [hissued, hmode]; exact h.atWork
  · rw [hmode, cut]; exact h.loaded
  · rw [hmode, cut]; exact h.ready

/-! ## Moves that the records cannot see -/

/-- What the agreement of the records reads stands: the stock, the pieces, the plans, the engine's computation, the jobs in use with their
counts, and the stations' modes, roles, queues and issued entries. -/
structure RecordFrame (s t : State) : Prop where
  stock : t.stock = s.stock
  pieces : t.jobs.pieces = s.jobs.pieces
  counts : ∀ j, (t.job j).map Job.openCount = (s.job j).map Job.openCount
  current : t.engine.current = s.engine.current
  plans : t.plans = s.plans
  station : ∀ st, StationSame (s.station st) (t.station st)

theorem RecordFrame.refl (s : State) : RecordFrame s s := ⟨rfl, rfl, fun _ => rfl, rfl, rfl, fun _ => .refl _⟩

theorem RecordFrame.trans {s t u : State} (h : RecordFrame s t) (g : RecordFrame t u) : RecordFrame s u where
  stock := g.stock.trans h.stock
  pieces := g.pieces.trans h.pieces
  counts j := (g.counts j).trans (h.counts j)
  current := g.current.trans h.current
  plans := g.plans.trans h.plans
  station st := (h.station st).trans (g.station st)

theorem RecordFrame.plan {s t : State} (h : RecordFrame s t) (p : Fin 16) : t.plan p = s.plan p := by
  rw [State.plan, h.plans]; rfl

theorem RecordFrame.inUse {s t : State} (h : RecordFrame s t) (j : Fin 64) : (t.job j).isSome = (s.job j).isSome := by
  simpa using congrArg Option.isSome (h.counts j)

theorem RecordFrame.records {s t : State} (h : RecordFrame s t) (hs : RecordsRead s) : RecordsRead t where
  stock := hs.stock.of_same h.stock fun p => by rw [h.plan]
  pieces := hs.pieces.of_same h.pieces (fun j hj => (h.inUse j).trans hj) fun q p i => by rw [h.plan]
  plans p := by rw [h.plan]; exact hs.plans p
  counts := hs.counts.of_congr (fun p => by rw [h.plan]) h.counts
  layouts := hs.layouts.of_same (by rw [h.plans]) h.current fun p => by rw [h.plan]
  stations st := (hs.stations st).of_same (h.station st) fun p => .inl (by rw [h.plan]; exact .refl _)

theorem RecordFrame.capacity {s t : State} (h : RecordFrame s t) (hs : CapacityOk s) : CapacityOk t := by
  obtain ⟨h1, h2, h3, h4⟩ := hs
  exact ⟨by rwa [h.stock], by rwa [h.stock], by rwa [h.pieces], fun p x hx => h4 p x (h.plan p ▸ hx)⟩

/-! ### Which moves these are -/

theorem JobKept.counts {a b : Option Job} (h : JobKept a b) : b.map Job.openCount = a.map Job.openCount := by
  rcases h with ⟨rfl, rfl⟩ | ⟨x, y, rfl, rfl, hy⟩
  · rfl
  · rw [hy]; rfl

theorem WaterFrame.records {s t : State} (h : WaterFrame s t) : RecordFrame s t where
  stock := by rw [h.state]
  pieces := h.pieces
  counts j := by
    by_cases hj : j = 0
    · subst hj; exact h.overhead.counts
    · rw [h.other j hj]
  current := by rw [h.state]
  plans := by rw [h.state]
  station st := (h.station st).same

theorem CostFrame.records {s t : State} (h : CostFrame s t) : RecordFrame s t where
  stock := by rw [h.state]
  pieces := h.pieces
  counts j := (h.job j).counts
  current := by rw [h.state]
  plans := by rw [h.state]
  station st := by
    have : t.station st = s.station st := by rw [h.state]; rfl
    rw [this]; exact .refl _

theorem PlantFrame.records {s t : State} (h : PlantFrame s t) : RecordFrame s t := by
  rw [h.state]
  exact ⟨rfl, rfl, fun _ => rfl, rfl, rfl, fun _ => .refl _⟩

theorem onStation_records {st : Fin 6} {f : Station → Station} {s : State} (hf : StationSame (s.station st) (f (s.station st))) :
    RecordFrame s (s.onStation st f) where
  stock := rfl
  pieces := rfl
  counts _ := rfl
  current := rfl
  plans := rfl
  station q := by
    by_cases h : q = st
    · subst h; rw [station_onStation_self]; exact hf
    · rw [station_onStation_ne _ _ _ _ h]; exact .refl _

theorem chargeMeters_records (st : Fin 6) (j : Fin 64) (s : State) : RecordFrame s (chargeMeters st j s) := by
  obtain ⟨t, h, e⟩ := chargeMeters_eq st j s
  rw [e]
  exact h.cost.records.trans (onStation_records ⟨rfl, rfl, rfl, rfl, rfl⟩)

theorem charge_records (j : Fin 64) (c : Category) (q r : Nat) (s : State) : RecordFrame s (charge j c q r s) :=
  (charge_money ..).cost.records

theorem putJob_records {j : Fin 64} {s : State} {b d : Job} (h : s.job j = some b) (hd : d.openCount = b.openCount) :
    RecordFrame s (s.putJob j (some d)) where
  stock := rfl
  pieces := rfl
  counts i := by
    by_cases hi : i = j
    · subst hi; simp [h, hd]
    · rw [job_putJob_ne _ _ _ _ hi]
  current := rfl
  plans := rfl
  station _ := .refl _

theorem onLink_records (f : Link → Link) (s : State) : RecordFrame s (s.onLink f) :=
  ⟨rfl, rfl, fun _ => rfl, rfl, rfl, fun _ => .refl _⟩

theorem takeFrame_records (n : Nat) (s : State) : RecordFrame s (takeFrame n s) := onLink_records _ s

theorem putResponse_records (q : Status) (body : List Byte) (s : State) : RecordFrame s (putResponse q body s) := onLink_records _ s

theorem raiseNotice_records (k : NoticeKind) (o : Nat) (s : State) : RecordFrame s (raiseNotice k o s) := onLink_records _ s

theorem onArbiter_records (f : Arbiter → Arbiter) (s : State) : RecordFrame s (s.onArbiter f) :=
  ⟨rfl, rfl, fun _ => rfl, rfl, rfl, fun _ => .refl _⟩

theorem onPlant_records (f : Plant → Plant) (s : State) : RecordFrame s (s.onPlant f) :=
  ⟨rfl, rfl, fun _ => rfl, rfl, rfl, fun _ => .refl _⟩

theorem onRates_records (f : Rates → Rates) (s : State) : RecordFrame s (s.onRates f) :=
  ⟨rfl, rfl, fun _ => rfl, rfl, rfl, fun _ => .refl _⟩

theorem onPins_records (f : Pins → Pins) (s : State) : RecordFrame s (s.onPins f) :=
  ⟨rfl, rfl, fun _ => rfl, rfl, rfl, fun _ => .refl _⟩

theorem withQueue_records (q : List Instr) (s : State) : RecordFrame s (s.withQueue q) :=
  ⟨rfl, rfl, fun _ => rfl, rfl, rfl, fun _ => .refl _⟩

theorem onEngine_records {f : Engine → Engine} {s : State} (h : (f s.engine).current = s.engine.current) :
    RecordFrame s (s.onEngine f) :=
  ⟨rfl, rfl, fun _ => rfl, h, rfl, fun _ => .refl _⟩

end Sys2Proof.Machine
end

section
/-! The Stock Table's changes keep its records in agreement with the racks and the plans (R1, R4, R5, R7). -/

namespace Sys2Proof.Machine

/-! ## Tables kept in order -/

/-- An entry put before the first one it does not follow keeps a strict order, when it is comparable to every entry there. -/
theorem insertBy_ascending {α : Type} {before : α → α → Bool} {R : α → α → Prop} (htrans : ∀ a b c, R a b → R b c → R a c) {x : α}
    {l : List α} (hyes : ∀ y ∈ l, before y x = true → R y x) (hno : ∀ y ∈ l, before y x = false → R x y) (h : l.Pairwise R) :
    (insertBy before x l).Pairwise R := by
  induction l with
  | nil => simp [insertBy]
  | cons y l ih =>
    obtain ⟨hy, hl⟩ := List.pairwise_cons.mp h
    simp only [insertBy]
    split
    · refine List.pairwise_cons.mpr ⟨fun z hz => ?_,
        ih (fun z hz => hyes z (List.mem_cons_of_mem y hz)) (fun z hz => hno z (List.mem_cons_of_mem y hz)) hl⟩
      rcases List.mem_cons.mp ((insertBy_perm before x l).mem_iff.mp hz) with rfl | hz
      · exact hyes y (by simp) ‹_›
      · exact hy z hz
    · rename_i hb
      have hxy := hno y (by simp) (by simpa using hb)
      refine List.pairwise_cons.mpr ⟨fun z hz => ?_, h⟩
      rcases List.mem_cons.mp hz with rfl | hz
      · exact hxy
      · exact htrans _ _ _ hxy (hy z hz)

theorem slabs_putSlab_ascending {k : Stock} (y : Slab) (h : k.slabs.Pairwise fun a b => a.serial < b.serial) :
    (putSlab y k).slabs.Pairwise fun a b => a.serial < b.serial := by
  have same : ∀ a : Slab, (if a.serial == y.serial then y else a).serial = a.serial := fun a => by
    by_cases ha : a.serial = y.serial <;> simp [ha]
  simp only [putSlab, List.pairwise_map, same]
  exact h

theorem slabs_addSlab_ascending {k : Stock} {x : Slab} (hx : findSlab x.serial k = none)
    (h : k.slabs.Pairwise fun a b => a.serial < b.serial) : (addSlab x k).slabs.Pairwise fun a b => a.serial < b.serial := by
  have hne : ∀ y ∈ k.slabs, y.serial ≠ x.serial := fun y hy => by
    simpa using List.find?_eq_none.mp hx y hy
  refine insertBy_ascending (R := fun a b : Slab => a.serial < b.serial) (fun _ _ _ => Nat.lt_trans) (fun y _ hb => ?_) (fun y hy hb => ?_) h
  · exact of_decide_eq_true hb
  · have := hne y hy
    have := of_decide_eq_false hb
    omega

theorem slabs_dropSlab_ascending {k : Stock} (n : Nat) (h : k.slabs.Pairwise fun a b => a.serial < b.serial) :
    (dropSlab n k).slabs.Pairwise fun a b => a.serial < b.serial :=
  List.Pairwise.filter _ h

theorem length_addSlab (x : Slab) (k : Stock) : (addSlab x k).slabs.length = k.slabs.length + 1 :=
  (insertBy_perm _ x k.slabs).length_eq.trans rfl

theorem length_putSlab (x : Slab) (k : Stock) : (putSlab x k).slabs.length = k.slabs.length := by simp [putSlab]

theorem length_dropSlab_le (n : Nat) (k : Stock) : (dropSlab n k).slabs.length ≤ k.slabs.length := List.length_filter_le ..

/-! ## One record changes -/

/-- A change of the record of one serial, and of no plan but those of that slab, keeps the agreement when the new record and the new plans
fit each other. -/
theorem StockReads.of_record {s t : State} (h : StockReads s) (n : Nat)
    (ascending : t.stock.slabs.Pairwise fun x y => x.serial < y.serial)
    (counter : 0xF00000 ≤ t.stock.nextSerial ∧ t.stock.nextSerial ≤ 0xFFFFFF) (once : ∀ r, (rackList r t.stock).Nodup)
    (lists : ∀ r m, m ≠ n → (m ∈ rackList r t.stock ↔ m ∈ rackList r s.stock))
    (listed : ∀ r, n ∈ rackList r t.stock ↔ ∃ x, findSlab n t.stock = some x ∧ x.place = .rack r)
    (others : ∀ m, m ≠ n → findSlab m t.stock = findSlab m s.stock)
    (plans : ∀ p, slabView (t.plan p) = slabView (s.plan p) ∨
      (∀ y, s.plan p = some y → y.serial = n) ∧ ∀ y, t.plan p = some y → y.serial = n)
    (fits : ∀ x, findSlab n t.stock = some x → SlabFits t x)
    (claimed : ∀ p y, t.plan p = some y → y.serial = n → ∃ x, findSlab n t.stock = some x ∧ x.plan = some p) : StockReads t := by
  refine ⟨ascending, counter, once, fun r m => ?_, fun m x hx => ?_, fun p y hy => ?_⟩
  · by_cases hm : m = n
    · subst hm; exact listed r
    · rw [lists r m hm, others m hm]; exact h.lists r m
  · by_cases hm : m = n
    · subst hm; exact fits x hx
    · have hold := others m hm ▸ hx
      have hfit := h.fits m x hold
      refine hfit.of_view fun p hp => ?_
      rcases plans p with hsame | ⟨hs, -⟩
      · exact hsame
      · obtain ⟨y, hy, hserial, -⟩ := hfit.named p hp
        exact absurd ((findSlab_serial hold).symm.trans (hserial.symm.trans (hs y hy))) hm
  · by_cases hm : y.serial = n
    · rw [hm]; exact claimed p y hy hm
    · rcases plans p with hsame | ⟨-, ht⟩
      · have hv : slabView (s.plan p) = some (y.serial, y.station, isCutting y) := by rw [← hsame, hy]; rfl
        obtain ⟨z, hz, hserial, -⟩ := slabView_eq_some.mp hv
        obtain ⟨x, hx, hp⟩ := h.claimed p z hz
        exact ⟨x, by rw [others _ hm, ← hserial]; exact hx, hp⟩
      · exact absurd (ht y hy) hm

/-- A record found stands in the list of its own rack and in no other. -/
theorem StockReads.listed_iff {s : State} (h : StockReads s) {x : Slab} {n : Nat} (hx : findSlab n s.stock = some x) (r : Fin 32) :
    n ∈ rackList r s.stock ↔ x.place = .rack r := by
  rw [h.lists]
  constructor
  · rintro ⟨y, hy, hp⟩
    rw [hx] at hy
    cases hy
    exact hp
  · exact fun hp => ⟨x, hx, hp⟩

/-- A serial that no record carries stands in no list. -/
theorem StockReads.not_listed {s : State} (h : StockReads s) {n : Nat} (hn : findSlab n s.stock = none) (r : Fin 32) :
    n ∉ rackList r s.stock := by
  rw [h.lists]
  rintro ⟨x, hx, -⟩
  rw [hn] at hx
  cases hx

/-- A record of no plan is AVAILABLE or HELD, and the other way round. -/
theorem StockReads.plan_eq_none {s : State} (h : StockReads s) {n : Nat} {x : Slab} (hx : findSlab n s.stock = some x)
    (hst : x.state = .available ∨ x.state = .held) : x.plan = none := by
  cases hp : x.plan with
  | none => rfl
  | some p =>
    obtain ⟨y, -, -, hno, hyes⟩ := (h.fits n x hx).named p hp
    cases hc : isCutting y with
    | false => rcases hst with hst | hst <;> rw [(hno hc).1] at hst <;> cases hst
    | true => rcases hst with hst | hst <;> rw [(hyes hc).1] at hst <;> cases hst

/-- A record that no plan names is claimed by none. -/
theorem StockReads.not_claimed {s : State} (h : StockReads s) {n : Nat} {x : Slab} (hx : findSlab n s.stock = some x)
    (hp : x.plan = none) (p : Fin 16) (y : Plan) (hy : s.plan p = some y) : y.serial ≠ n := fun hn => by
  obtain ⟨z, hz, hzp⟩ := h.claimed p y hy
  rw [hn, hx] at hz
  cases hz
  rw [hp] at hzp
  cases hzp

/-- The slab of a plan names that plan. -/
theorem StockReads.plan_of_serial {s : State} (h : StockReads s) {p : Fin 16} {y : Plan} {x : Slab} (hy : s.plan p = some y)
    (hx : findSlab y.serial s.stock = some x) : x.plan = some p := by
  obtain ⟨z, hz, hzp⟩ := h.claimed p y hy
  rw [hx] at hz
  cases hz
  exact hzp

/-- No two plans have one slab. -/
theorem StockReads.plan_unique {s : State} (h : StockReads s) {p q : Fin 16} {y z : Plan} (hy : s.plan p = some y) (hz : s.plan q = some z)
    (he : z.serial = y.serial) : q = p := by
  obtain ⟨x, hx, hxp⟩ := h.claimed p y hy
  have := h.plan_of_serial hz (he ▸ hx)
  rw [hxp] at this
  exact (Option.some.inj this).symm

theorem StockReads.mem_leaveRack {s : State} (h : StockReads s) {x : Slab} (hx : findSlab x.serial s.stock = some x) (r : Fin 32)
    (m : Nat) : m ∈ rackList r (leaveRack x s.stock) ↔ m ∈ rackList r s.stock ∧ m ≠ x.serial := by
  by_cases hp : x.place = .rack r
  · rw [rackList_leaveRack_self _ hp, (h.once r).mem_erase_iff, and_comm]
  · rw [rackList_leaveRack_ne _ hp]
    refine ⟨fun hm => ⟨hm, ?_⟩, And.left⟩
    rintro rfl
    exact hp ((h.listed_iff hx r).mp hm)

theorem StockReads.nodup_leaveRack {s : State} (h : StockReads s) (x : Slab) (r : Fin 32) : (rackList r (leaveRack x s.stock)).Nodup := by
  by_cases hp : x.place = .rack r
  · rw [rackList_leaveRack_self _ hp]; exact (h.once r).erase _
  · rw [rackList_leaveRack_ne _ hp]; exact h.once r

/-! ## The changes -/

/-- R9: a new record, AVAILABLE and of no plan, joins the table and its rack. -/
theorem enterRecord_reads {s : State} (h : StockReads s) {x : Slab} {r : Fin 32} (hx : findSlab x.serial s.stock = none)
    (hstate : x.state = .available) (hplan : x.plan = none) (hplace : x.place = .rack r) :
    StockReads (s.onStock (enterRecord x r)) := by
  have hself : findSlab x.serial (enterRecord x r s.stock) = some x := (enterRecord_only x r hx).1
  have hlist : ∀ q, rackList q (enterRecord x r s.stock) = if q = r then x.serial :: rackList q s.stock else rackList q s.stock := by
    intro q
    by_cases hq : q = r
    · subst hq; rw [if_pos rfl]; exact rackList_joinRack_self ..
    · rw [if_neg hq]; exact rackList_joinRack_ne _ _ hq
  refine h.of_record x.serial (slabs_addSlab_ascending hx h.ascending) h.counter (fun q => ?_) (fun q m hm => ?_) (fun q => ?_)
    (fun m hm => (enterRecord_only x r hx).2.1 m hm) (fun p => .inl rfl) (fun y hy => ?_) (fun p y hy hn => ?_)
  · show (rackList q (enterRecord x r s.stock)).Nodup
    rw [hlist]
    split
    · exact List.nodup_cons.mpr ⟨h.not_listed hx q, h.once q⟩
    · exact h.once q
  · show m ∈ rackList q (enterRecord x r s.stock) ↔ _
    rw [hlist]
    split <;> simp [hm]
  · show _ ∈ rackList q (enterRecord x r s.stock) ↔ ∃ y, findSlab _ (enterRecord x r s.stock) = _ ∧ _
    rw [hlist, hself]
    have := h.not_listed hx q
    by_cases hq : q = r
    · subst hq; simp [hplace]
    · have hq' : r ≠ q := fun e => hq e.symm
      simp [hplace, hq, hq', this]
  · obtain rfl : x = y := Option.some.inj (hself.symm.trans hy)
    exact ⟨fun _ => ⟨.inl hstate, fun st hb => by rw [hplace] at hb; cases hb⟩, fun p hp => by rw [hplan] at hp; cases hp⟩
  · obtain ⟨z, hz, -⟩ := h.claimed p y hy
    rw [hn, hx] at hz
    cases hz

/-- A record written in its place, with its plan's slot, fits the new plans. -/
theorem putSlab_reads {s t : State} (h : StockReads s) {x y : Slab} (hx : findSlab y.serial s.stock = some x) (hplace : y.place = x.place)
    (hstock : t.stock = putSlab y s.stock)
    (plans : ∀ p, slabView (t.plan p) = slabView (s.plan p) ∨
      (∀ z, s.plan p = some z → z.serial = y.serial) ∧ ∀ z, t.plan p = some z → z.serial = y.serial)
    (fits : SlabFits t y) (claimed : ∀ p z, t.plan p = some z → z.serial = y.serial → y.plan = some p) : StockReads t := by
  have hself : findSlab y.serial t.stock = some y := hstock ▸ findSlab_putSlab_self hx rfl
  have hlist : ∀ q, rackList q t.stock = rackList q s.stock := fun q => by rw [hstock]; exact rackList_putSlab ..
  refine h.of_record y.serial (hstock ▸ slabs_putSlab_ascending y h.ascending) (by rw [hstock]; exact h.counter)
    (fun q => by rw [hlist]; exact h.once q) (fun q m _ => by rw [hlist]) (fun q => ?_)
    (fun m hm => by rw [hstock]; exact findSlab_putSlab_ne _ hm) plans (fun z hz => ?_) (fun p z hz hn => ⟨y, hself, claimed p z hz hn⟩)
  · rw [hlist, h.listed_iff hx, hself]
    simp [hplace]
  · obtain rfl : y = z := Option.some.inj (hself.symm.trans hz)
    exact fits

/-- R14, R15: a record of no plan changes in place and stays AVAILABLE or HELD. -/
theorem putFree_reads {s : State} (h : StockReads s) {x y : Slab} (hx : findSlab y.serial s.stock = some x)
    (hst : x.state = .available ∨ x.state = .held) (hy : y.state = .available ∨ y.state = .held) (hplace : y.place = x.place)
    (hplan : y.plan = x.plan) : StockReads (s.onStock (putSlab y)) := by
  have hnone : x.plan = none := h.plan_eq_none hx hst
  have hfit := (h.fits _ x hx).free hnone
  refine putSlab_reads h hx hplace rfl (fun p => .inl rfl) ⟨fun _ => ⟨hy, ?_⟩, fun p hp => ?_⟩ fun p z hz hn => ?_
  · rw [hplace]; exact hfit.2
  · rw [hplan, hnone] at hp; cases hp
  · exact absurd hn (h.not_claimed hx hnone p z hz)

/-- R13: a record not on a bed moves to the front of another rack. -/
theorem moveRecord_reads {s : State} (h : StockReads s) {x : Slab} {r : Fin 32} (hx : findSlab x.serial s.stock = some x)
    (hsaw : x.state ≠ .onSaw) : StockReads (s.onStock (moveRecord x r)) := by
  have hself : findSlab x.serial (moveRecord x r s.stock) = some { x with place := .rack r } := (moveRecord_only r hx).1
  have hlist : ∀ q, rackList q (moveRecord x r s.stock) =
      if q = r then x.serial :: rackList q (leaveRack x s.stock) else rackList q (leaveRack x s.stock) := by
    intro q
    by_cases hq : q = r
    · subst hq; rw [if_pos rfl]; exact rackList_joinRack_self ..
    · rw [if_neg hq]; exact rackList_joinRack_ne _ _ hq
  refine h.of_record x.serial ?_ ?_ (fun q => ?_) (fun q m hm => ?_) (fun q => ?_)
    (fun m hm => (moveRecord_only r hx).2.1 m hm) (fun p => .inl rfl) (fun y hy => ?_) (fun p y hy hn => ?_)
  · refine slabs_putSlab_ascending _ ?_
    rw [slabs_joinRack, slabs_leaveRack]
    exact h.ascending
  · have : (moveRecord x r s.stock).nextSerial = s.stock.nextSerial := (moveRecord_only r hx).2.2.2
    show _ ≤ (moveRecord x r s.stock).nextSerial ∧ (moveRecord x r s.stock).nextSerial ≤ _
    rw [this]
    exact h.counter
  · show (rackList q (moveRecord x r s.stock)).Nodup
    rw [hlist]
    split
    · exact List.nodup_cons.mpr ⟨by simp [h.mem_leaveRack hx], h.nodup_leaveRack x q⟩
    · exact h.nodup_leaveRack x q
  · show m ∈ rackList q (moveRecord x r s.stock) ↔ _
    rw [hlist]
    split <;> simp [hm, h.mem_leaveRack hx]
  · show _ ∈ rackList q (moveRecord x r s.stock) ↔ ∃ y, findSlab _ (moveRecord x r s.stock) = _ ∧ _
    rw [hlist, hself]
    by_cases hq : q = r
    · subst hq; simp
    · have hq' : r ≠ q := fun e => hq e.symm
      simp [hq, hq', h.mem_leaveRack hx]
  · obtain rfl : { x with place := .rack r } = y := Option.some.inj (hself.symm.trans hy)
    have hfit := h.fits _ x hx
    refine ⟨fun hp => ⟨(hfit.free hp).1, fun st hb => nomatch hb⟩, fun p hp => ?_⟩
    obtain ⟨y, hy, hs, hno, hyes⟩ := hfit.named p hp
    exact ⟨y, hy, hs, fun hc => ⟨(hno hc).1, fun st hb => nomatch hb⟩, fun hc => absurd (hyes hc).1 hsaw⟩
  · exact ⟨_, hself, h.plan_of_serial (x := x) hy (by rw [hn]; exact hx)⟩

/-- R16, R163: the record of a slab leaves the table; the plan that named it, if any, is gone. -/
theorem dropSlab_reads {s t : State} (h : StockReads s) {x : Slab} (hx : findSlab x.serial s.stock = some x)
    (ascending : t.stock.slabs.Pairwise fun x y => x.serial < y.serial) (hcounter : t.stock.nextSerial = s.stock.nextSerial)
    (once : ∀ r, (rackList r t.stock).Nodup) (hlist : ∀ r m, m ∈ rackList r t.stock ↔ m ∈ rackList r s.stock ∧ m ≠ x.serial)
    (hfind : ∀ m, findSlab m t.stock = if m = x.serial then none else findSlab m s.stock)
    (plans : ∀ p, t.plan p = if x.plan = some p then none else s.plan p) : StockReads t := by
  have hgone : findSlab x.serial t.stock = none := by rw [hfind, if_pos rfl]
  refine h.of_record x.serial ascending (hcounter ▸ h.counter) once (fun r m hm => by rw [hlist]; exact and_iff_left hm)
    (fun r => ?_) (fun m hm => by rw [hfind, if_neg hm]) (fun p => ?_) (fun y hy => ?_) (fun p y hy hn => ?_)
  · rw [hlist, hgone]; simp
  · by_cases hp : x.plan = some p
    · refine .inr ⟨fun y hy => ?_, fun y hy => ?_⟩
      · obtain ⟨z, hz, hs, -⟩ := (h.fits _ x hx).named p hp
        rw [hy] at hz
        cases hz
        exact hs
      · rw [plans, if_pos hp] at hy; cases hy
    · exact .inl (by rw [plans, if_neg hp])
  · rw [hgone] at hy; cases hy
  · rw [plans] at hy
    split at hy
    · cases hy
    · rename_i hp
      exact absurd (h.plan_of_serial hy (hn ▸ hx)) hp

/-- R16: a retired record was of no plan. -/
theorem removeRecord_reads {s : State} (h : StockReads s) {x : Slab} (hx : findSlab x.serial s.stock = some x)
    (hst : x.state = .available ∨ x.state = .held) : StockReads (s.onStock (removeRecord x)) := by
  have hnone := h.plan_eq_none hx hst
  refine dropSlab_reads h hx ?_ (removeRecord_only x s.stock).2.2.2 (fun r => h.nodup_leaveRack x r)
    (fun r m => h.mem_leaveRack hx r m) (fun m => ?_) (fun p => by simp [hnone]; rfl)
  · refine slabs_dropSlab_ascending _ ?_
    rw [slabs_leaveRack]
    exact h.ascending
  · split
    · subst m; exact (removeRecord_only x s.stock).1
    · exact (removeRecord_only x s.stock).2.1 m ‹_›

end Sys2Proof.Machine
end

section
/-! The Stock Table's changes made for other blocks: reservation and release (R17), bed placement (R18), remnants (R7, R19) and the
retirement of a closed plan's slab (R163). -/

namespace Sys2Proof.Machine

/-! ## The serial a remnant takes (R7) -/

/-- R7: the serial `i` places after `n` on the ring of remnant serials. -/
def serialAfter (n i : Nat) : Nat :=
  0xF00000 + (n - 0xF00000 + i) % 0x100000

theorem serialAfter_zero {n : Nat} (h1 : 0xF00000 ≤ n) (h2 : n ≤ 0xFFFFFF) : serialAfter n 0 = n := by
  unfold serialAfter; omega

theorem nextRemnantSerial_range {n : Nat} (h1 : 0xF00000 ≤ n) (h2 : n ≤ 0xFFFFFF) :
    0xF00000 ≤ nextRemnantSerial n ∧ nextRemnantSerial n ≤ 0xFFFFFF := by
  simp only [nextRemnantSerial, Config.lastRemnantSerial, Config.firstRemnantSerial]
  split <;> omega

theorem serialAfter_next {n : Nat} (h1 : 0xF00000 ≤ n) (h2 : n ≤ 0xFFFFFF) (i : Nat) :
    serialAfter (nextRemnantSerial n) i = serialAfter n (i + 1) := by
  simp only [serialAfter, nextRemnantSerial, Config.lastRemnantSerial, Config.firstRemnantSerial]
  split <;> omega

theorem serialAfter_range (n i : Nat) : 0xF00000 ≤ serialAfter n i ∧ serialAfter n i ≤ 0xFFFFFF := by
  unfold serialAfter; omega

theorem serialAfter_inj {n i j : Nat} (hi : i ≤ 512) (hj : j ≤ 512) (h : serialAfter n i = serialAfter n j) : i = j := by
  unfold serialAfter at h; omega

/-- The search stops at the first free serial, or after `fuel` taken ones. -/
theorem freeSerial_spec (k : Stock) (fuel : Nat) {n : Nat} (h1 : 0xF00000 ≤ n) (h2 : n ≤ 0xFFFFFF) :
    ∃ i, i ≤ fuel ∧ freeSerial k fuel n = serialAfter n i ∧ (∀ m, m < i → (findSlab (serialAfter n m) k).isSome = true) ∧
      (i < fuel → findSlab (serialAfter n i) k = none) := by
  induction fuel generalizing n with
  | zero => exact ⟨0, Nat.le_refl 0, (serialAfter_zero h1 h2).symm, fun m hm => by omega, fun h => by omega⟩
  | succ fuel ih =>
    unfold freeSerial
    split
    · rename_i htaken
      obtain ⟨hr1, hr2⟩ := nextRemnantSerial_range h1 h2
      obtain ⟨i, hi, heq, hall, hfree⟩ := ih hr1 hr2
      simp only [serialAfter_next h1 h2] at heq hall hfree
      refine ⟨i + 1, by omega, heq, fun m hm => ?_, fun h => hfree (by omega)⟩
      cases m with
      | zero => rw [serialAfter_zero h1 h2]; exact htaken
      | succ m => exact hall m (by omega)
    · rename_i hfree
      refine ⟨0, Nat.zero_le _, (serialAfter_zero h1 h2).symm, fun m hm => by omega, fun _ => ?_⟩
      rw [serialAfter_zero h1 h2]
      simpa using hfree

/-- R7: fewer serials than the table's length plus one can be taken, so that the issued serial is the first free one. -/
theorem issuedSerial_firstFree {k : Stock} (h1 : 0xF00000 ≤ k.nextSerial) (h2 : k.nextSerial ≤ 0xFFFFFF)
    (hlen : k.slabs.length ≤ 512) : FirstFreeSerial k (issuedSerial k) := by
  obtain ⟨i, hi, heq, hall, hfree⟩ := freeSerial_spec k k.slabs.length h1 h2
  refine ⟨i, heq, ?_, hall⟩
  rw [issuedSerial, heq]
  by_cases hlt : i < k.slabs.length
  · exact hfree hlt
  · obtain rfl : i = k.slabs.length := by omega
    by_contra htaken
    have htaken' : (findSlab (serialAfter k.nextSerial k.slabs.length) k).isSome = true := by
      cases hf : findSlab (serialAfter k.nextSerial k.slabs.length) k with
      | none => exact absurd hf htaken
      | some _ => rfl
    have hmem : ∀ m, m ≤ k.slabs.length → serialAfter k.nextSerial m ∈ k.slabs.map fun x => x.serial := fun m hm => by
      have hsome : (findSlab (serialAfter k.nextSerial m) k).isSome = true := by
        rcases Nat.lt_or_ge m k.slabs.length with h | h
        · exact hall m h
        · obtain rfl : m = k.slabs.length := by omega
          exact htaken'
      obtain ⟨x, hx⟩ := Option.isSome_iff_exists.mp hsome
      exact List.mem_map.mpr ⟨x, List.mem_of_find?_eq_some hx, findSlab_serial hx⟩
    have hnodup : ((List.range (k.slabs.length + 1)).map (serialAfter k.nextSerial)).Nodup := by
      refine List.Nodup.map_on (fun a ha b hb hab => ?_) List.nodup_range
      simp only [List.mem_range] at ha hb
      exact serialAfter_inj (by omega) (by omega) hab
    have hsub : (List.range (k.slabs.length + 1)).map (serialAfter k.nextSerial) ⊆ k.slabs.map fun x => x.serial := fun n hn => by
      obtain ⟨m, hm, rfl⟩ := List.mem_map.mp hn
      simp only [List.mem_range] at hm
      exact hmem m (by omega)
    have := (hnodup.subperm hsub).length_le
    simp at this

/-! ## Where a remnant goes (R19) -/

theorem fewest_min {k : Stock} {l : List (Fin 32)} {r : Fin 32} (h : fewest k l = some r) (hl : l.Pairwise (· < ·)) :
    ∀ i ∈ l, (rackList r k).length < (rackList i k).length ∨ ((rackList r k).length = (rackList i k).length ∧ r ≤ i) := by
  induction l generalizing r with
  | nil => cases h
  | cons x l ih =>
    obtain ⟨hx, hl⟩ := List.pairwise_cons.mp hl
    simp only [fewest] at h
    intro i hi
    split at h
    · rename_i q hq
      have hqmem := fewest_mem hq
      have hqmin := ih hq hl
      split at h
      · rename_i hlt
        cases h
        rcases List.mem_cons.mp hi with rfl | hi
        · exact .inl hlt
        · exact hqmin i hi
      · rename_i hge
        cases h
        rcases List.mem_cons.mp hi with rfl | hi
        · exact .inr ⟨rfl, Fin.le_refl _⟩
        · have hlt := hx i hi
          rcases hqmin i hi with h' | ⟨h', _⟩
          · exact .inl (by omega)
          · by_cases hr : (rackList x k).length = (rackList i k).length
            · exact .inr ⟨hr, Fin.le_of_lt hlt⟩
            · exact .inl (by omega)
    · rename_i hq
      cases h
      rcases List.mem_cons.mp hi with rfl | hi
      · exact .inr ⟨rfl, Fin.le_refl _⟩
      · cases l with
        | nil => cases hi
        | cons y l =>
          simp only [fewest] at hq
          split at hq
          · split at hq <;> cases hq
          · cases hq

theorem fewest_eq_none {k : Stock} {l : List (Fin 32)} (h : fewest k l = none) : l = [] := by
  cases l with
  | nil => rfl
  | cons x l =>
    simp only [fewest] at h
    split at h
    · split at h <;> cases h
    · cases h

theorem remnantRoom_iff {k : Stock} {r : Fin 32} : remnantRoom k r = true ↔ HasRoom k r := by
  simp [remnantRoom, HasRoom, Config.rackSize]

/-- R19: a new remnant goes to the emptiest rack with room, the lowest of equals, or nowhere. -/
theorem remnantPlace_goes (k : Stock) : RemnantGoes k (remnantPlace k) := by
  unfold remnantPlace
  cases hr : remnantRack k with
  | none =>
    refine .inl ⟨rfl, fun r hroom => ?_⟩
    have := fewest_eq_none hr
    have hmem : r ∈ (List.finRange 32).filter (remnantRoom k) := by simpa using remnantRoom_iff.mpr hroom
    rw [this] at hmem
    cases hmem
  | some r =>
    refine .inr ⟨r, rfl, remnantRack_room hr, fun i hi => ?_⟩
    refine fewest_min hr ((List.pairwise_lt_finRange 32).filter _) i ?_
    simpa using remnantRoom_iff.mpr hi

/-! ## A remnant enters the table -/

theorem findSlab_enterRemnant_self {x : Slab} {k : Stock} (h : findSlab x.serial k = none) :
    findSlab x.serial (enterRemnant x k) = some x := by
  have hadd : findSlab x.serial (addSlab x k) = some x := findSlab_addSlab_self h
  unfold enterRemnant
  dsimp only
  split <;> exact hadd

theorem findSlab_enterRemnant_ne {x : Slab} {n : Nat} (k : Stock) (h : n ≠ x.serial) :
    findSlab n (enterRemnant x k) = findSlab n k := by
  have hadd : findSlab n (addSlab x k) = findSlab n k := findSlab_addSlab_ne k h
  unfold enterRemnant
  dsimp only
  split <;> exact hadd

theorem slabs_enterRemnant (x : Slab) (k : Stock) : (enterRemnant x k).slabs = (addSlab x k).slabs := by
  unfold enterRemnant
  dsimp only
  split <;> rfl

theorem nextSerial_enterRemnant (x : Slab) (k : Stock) : (enterRemnant x k).nextSerial = nextRemnantSerial x.serial := by
  unfold enterRemnant
  dsimp only
  split <;> rfl

theorem classes_enterRemnant (x : Slab) (k : Stock) : (enterRemnant x k).classes = k.classes := by
  unfold enterRemnant
  dsimp only
  split <;> rfl

theorem rackList_enterRemnant (x : Slab) (k : Stock) (r : Fin 32) :
    rackList r (enterRemnant x k) = if x.place = .rack r then x.serial :: rackList r k else rackList r k := by
  unfold enterRemnant
  dsimp only
  split
  · rename_i q hq
    by_cases hr : r = q
    · subst hr
      rw [if_pos hq, rackList_joinRack_self]
      rfl
    · rw [if_neg (by rw [hq]; simpa using fun e => hr e.symm), rackList_joinRack_ne _ _ hr]
      rfl
  · rename_i hno
    rw [if_neg (hno r)]
    rfl

/-- R19: a created remnant, AVAILABLE and of no plan, keeps the agreement. -/
theorem enterRemnant_reads {s t : State} (h : StockReads s) {x : Slab} (hx : findSlab x.serial s.stock = none)
    (hserial : 0xF00000 ≤ x.serial ∧ x.serial ≤ 0xFFFFFF) (hstate : x.state = .available) (hplan : x.plan = none)
    (hplace : ∀ st, x.place ≠ .bed st) (hstock : t.stock = enterRemnant x s.stock) (hplans : t.plans = s.plans) : StockReads t := by
  have hself : findSlab x.serial t.stock = some x := hstock ▸ findSlab_enterRemnant_self hx
  have hplan' : ∀ p, t.plan p = s.plan p := fun p => by rw [State.plan, hplans]; rfl
  refine h.of_record x.serial ?_ ?_ (fun q => ?_) (fun q m hm => ?_) (fun q => ?_)
    (fun m hm => by rw [hstock]; exact findSlab_enterRemnant_ne _ hm) (fun p => .inl (by rw [hplan'])) (fun y hy => ?_)
    (fun p y hy hn => ?_)
  · rw [hstock, slabs_enterRemnant]; exact slabs_addSlab_ascending hx h.ascending
  · rw [hstock, nextSerial_enterRemnant]; exact nextRemnantSerial_range hserial.1 hserial.2
  · rw [hstock, rackList_enterRemnant]
    split
    · exact List.nodup_cons.mpr ⟨h.not_listed hx q, h.once q⟩
    · exact h.once q
  · rw [hstock, rackList_enterRemnant]
    split <;> simp [hm]
  · rw [hself, hstock, rackList_enterRemnant]
    have := h.not_listed hx q
    split
    · simp [*]
    · simp [*]
  · obtain rfl : x = y := Option.some.inj (hself.symm.trans hy)
    exact ⟨fun _ => ⟨.inl hstate, hplace⟩, fun p hp => by rw [hplan] at hp; cases hp⟩
  · rw [hplan'] at hy
    obtain ⟨z, hz, -⟩ := h.claimed p y hy
    rw [hn, hx] at hz
    cases hz

/-! ## Reservation, release, bed placement, retirement -/

/-- R17, R61: an AVAILABLE record is reserved for a plan not yet CUTTING in a FREE slot. -/
theorem reserve_reads {s t : State} (h : StockReads s) {p : Fin 16} {b : Slab} {y : Plan} (hb : findSlab b.serial s.stock = some b)
    (hst : b.state = .available) (hfree : s.plan p = none) (hserial : y.serial = b.serial) (hcut : isCutting y = false)
    (hstock : t.stock = putSlab (reserve p b) s.stock) (hp : t.plan p = some y) (hq : ∀ q, q ≠ p → t.plan q = s.plan q) :
    StockReads t := by
  have hnone := h.plan_eq_none hb (.inl hst)
  refine putSlab_reads h (y := reserve p b) hb rfl hstock (fun q => ?_) ⟨fun hn => (nomatch hn), fun q hqp => ?_⟩ fun q z hz hn => ?_
  · by_cases he : q = p
    · subst he
      refine .inr ⟨fun z hz => (nomatch hfree.symm.trans hz), fun z hz => ?_⟩
      rw [hp] at hz
      cases hz
      exact hserial
    · exact .inl (by rw [hq q he])
  · obtain rfl : p = q := Option.some.inj hqp
    exact ⟨y, hp, hserial, fun _ => ⟨rfl, ((h.fits _ b hb).free hnone).2⟩, fun hc => (nomatch hcut.symm.trans hc)⟩
  · by_cases he : q = p
    · subst he; rfl
    · rw [hq q he] at hz
      exact absurd hn (h.not_claimed hb hnone q z hz)

/-- R17: the slab of a plan not CUTTING is released where it stands, and the plan's slot is FREE. -/
theorem releaseRecord_reads {s t : State} (h : StockReads s) {p : Fin 16} {y : Plan} (hy : s.plan p = some y) (hcut : isCutting y = false)
    (hstock : t.stock = releaseRecord y.serial s.stock) (hp : t.plan p = none) (hq : ∀ q, q ≠ p → t.plan q = s.plan q) :
    StockReads t := by
  obtain ⟨b, hb, hbp⟩ := h.claimed p y hy
  have hserial := findSlab_serial hb
  obtain ⟨z, hyz, -, hno, -⟩ := (h.fits _ b hb).named p hbp
  obtain rfl : y = z := Option.some.inj (hy.symm.trans hyz)
  rw [releaseRecord_of_find hb] at hstock
  have hb' : findSlab b.serial s.stock = some b := hserial ▸ hb
  refine putSlab_reads h (y := { b with state := .available, plan := none }) hb' rfl hstock (fun q => ?_)
    ⟨fun _ => ⟨.inl rfl, (hno hcut).2⟩, fun q hqp => (nomatch hqp)⟩ fun q z hz hn => ?_
  · by_cases he : q = p
    · subst he
      refine .inr ⟨fun z hz => ?_, fun z hz => by rw [hp] at hz; cases hz⟩
      rw [hy] at hz
      cases hz
      exact hserial.symm
    · exact .inl (by rw [hq q he])
  · by_cases he : q = p
    · subst he; rw [hp] at hz; cases hz
    · rw [hq q he] at hz
      exact absurd (h.plan_unique hy hz (hn.trans hserial)) he

/-- R18, R87: the slab of a COMMITTED plan goes to the bed of the plan's station, and the plan becomes CUTTING. -/
theorem placeOnBed_reads {s t : State} (h : StockReads s) {p : Fin 16} {y y' : Plan} {b : Slab} (hy : s.plan p = some y)
    (hb : findSlab b.serial s.stock = some b) (hserial : y.serial = b.serial) (hserial' : y'.serial = b.serial)
    (hcut : isCutting y' = true) (hstock : t.stock = placeOnBed b y'.station s.stock) (hp : t.plan p = some y')
    (hq : ∀ q, q ≠ p → t.plan q = s.plan q) : StockReads t := by
  have honly := placeOnBed_only y'.station hb
  have hself : findSlab b.serial t.stock = some { b with place := .bed y'.station, state := .onSaw } := hstock ▸ honly.1
  have hbp : b.plan = some p := h.plan_of_serial hy (hserial ▸ hb)
  have hlist : ∀ r, rackList r t.stock = rackList r (leaveRack b s.stock) := fun r => by rw [hstock]; exact rackList_putSlab ..
  refine h.of_record b.serial ?_ ?_ (fun r => by rw [hlist]; exact h.nodup_leaveRack b r)
    (fun r m hm => by rw [hlist, h.mem_leaveRack hb]; exact and_iff_left hm) (fun r => ?_)
    (fun m hm => by rw [hstock]; exact honly.2.1 m hm) (fun q => ?_) (fun x hx => ?_) (fun q z hz hn => ?_)
  · rw [hstock]
    refine slabs_putSlab_ascending _ ?_
    rw [slabs_leaveRack]
    exact h.ascending
  · rw [hstock, honly.2.2.2]; exact h.counter
  · rw [hlist, h.mem_leaveRack hb, hself]; simp
  · by_cases he : q = p
    · subst he
      refine .inr ⟨fun z hz => ?_, fun z hz => ?_⟩
      · rw [hy] at hz; cases hz; exact hserial
      · rw [hp] at hz; cases hz; exact hserial'
    · exact .inl (by rw [hq q he])
  · obtain rfl := Option.some.inj (hself.symm.trans hx)
    refine ⟨fun hn => (nomatch hbp.symm.trans hn), fun q hqp => ?_⟩
    obtain rfl : p = q := Option.some.inj (hbp.symm.trans hqp)
    exact ⟨y', hp, hserial', fun hc => (nomatch hcut.symm.trans hc), fun _ => ⟨rfl, rfl⟩⟩
  · refine ⟨_, hself, ?_⟩
    by_cases he : q = p
    · subst he; exact hbp
    · rw [hq q he] at hz
      exact absurd (h.plan_unique hy hz (hn.trans hserial.symm)) he

/-- R163: the slab of a CUTTING plan, on its bed, leaves the table, and the plan's slot is FREE. -/
theorem retireSlab_reads {s t : State} (h : StockReads s) {p : Fin 16} {y : Plan} (hy : s.plan p = some y) (hcut : isCutting y = true)
    (hstock : t.stock = dropSlab y.serial s.stock) (hp : t.plan p = none) (hq : ∀ q, q ≠ p → t.plan q = s.plan q) :
    StockReads t := by
  obtain ⟨b, hb, hbp⟩ := h.claimed p y hy
  have hserial := findSlab_serial hb
  obtain ⟨z, hz, -, -, hyes⟩ := (h.fits _ b hb).named p hbp
  obtain rfl : y = z := Option.some.inj (hy.symm.trans hz)
  have hlist : ∀ r, rackList r t.stock = rackList r s.stock := fun r => by rw [hstock]; exact rackList_dropSlab ..
  have hb' : findSlab b.serial s.stock = some b := hserial ▸ hb
  refine dropSlab_reads h hb' (hstock ▸ slabs_dropSlab_ascending _ h.ascending) (by rw [hstock]; rfl)
    (fun r => by rw [hlist]; exact h.once r) (fun r m => ?_) (fun m => ?_) fun q => ?_
  · rw [hlist]
    refine ⟨fun hm => ⟨hm, ?_⟩, And.left⟩
    rintro rfl
    have := (h.listed_iff hb' r).mp hm
    rw [(hyes hcut).2] at this
    cases this
  · rw [hstock, hserial]
    split
    · subst m; exact findSlab_dropSlab_self ..
    · exact findSlab_dropSlab_ne _ ‹_›
  · by_cases he : q = p
    · subst he; rw [hp, if_pos hbp]
    · rw [hq q he, if_neg]
      rw [hbp]
      exact fun e => he (Option.some.inj e).symm

end Sys2Proof.Machine
end

section
/-! The piece table's changes keep pieces, piece sets and placements in agreement (R23, R24, R57, R59). -/

namespace Sys2Proof.Machine

/-! ## The order of the table -/

/-- R23: the order of the piece table, on the pieces' names. -/
def idBefore (i j : PieceId) : Prop :=
  i.job < j.job ∨ (i.job = j.job ∧ i.idx < j.idx)

theorem pieceBefore_iff {x y : Piece} : pieceBefore x y = true ↔ idBefore x.id y.id := by
  simp [pieceBefore, idBefore]

theorem ascending_iff_ids {l : List Piece} :
    (l.Pairwise fun x y => pieceBefore x y = true) ↔ (l.map fun x => x.id).Pairwise idBefore := by
  simp only [List.pairwise_map, pieceBefore_iff]

theorem ids_modPieces (ids : List PieceId) (f : Piece → Piece) (hf : ∀ x, (f x).id = x.id) (t : JobTable) :
    ((modPieces ids f t).pieces.map fun x => x.id) = t.pieces.map fun x => x.id := by
  simp only [modPieces, List.map_map]
  refine List.map_congr_left fun x _ => ?_
  simp only [Function.comp]
  split <;> simp [hf]

/-- A piece is held by one plan in one state. -/
theorem PiecesRead.holder_unique {s : State} (h : PiecesRead s) {p p' : Fin 16} {q q' : PieceState} {i : PieceId}
    (h1 : PlanHolds (s.plan p) q i) (h2 : PlanHolds (s.plan p') q' i) : p' = p ∧ q' = q := by
  obtain ⟨x, hx, hq, hp⟩ := (h.held _ _ _).mp h1
  obtain ⟨y, hy, hq', hp'⟩ := (h.held _ _ _).mp h2
  rw [hx] at hy
  cases hy
  exact ⟨Option.some.inj (hp'.symm.trans hp), hq'.symm.trans hq⟩

/-! ## Pieces rewritten -/

/-- Pieces rewritten name by name keep the agreement when each plan then holds exactly the pieces that say so. -/
theorem PiecesRead.of_update {s t : State} (h : PiecesRead s) (g : PieceId → Piece → Piece)
    (hids : (t.jobs.pieces.map fun x => x.id) = s.jobs.pieces.map fun x => x.id)
    (hfind : ∀ i, findPiece i t.jobs = (findPiece i s.jobs).map (g i))
    (hj : ∀ j, (s.job j).isSome = true → (t.job j).isSome = true)
    (hwork : ∀ i x, findPiece i s.jobs = some x → (g i x).plan = none → inWork (g i x) = false)
    (hheld : ∀ q p i, PlanHolds (t.plan p) q i ↔ ∃ x, findPiece i s.jobs = some x ∧ (g i x).state = q ∧ (g i x).plan = some p) :
    PiecesRead t := by
  have found : ∀ i y, findPiece i t.jobs = some y ↔ ∃ x, findPiece i s.jobs = some x ∧ g i x = y := fun i y => by
    rw [hfind]; exact Option.map_eq_some_iff
  refine ⟨ascending_iff_ids.mpr (hids ▸ ascending_iff_ids.mp h.ascending), fun i y hy => ?_, fun i y hy hp => ?_, fun q p i => ?_⟩
  · obtain ⟨x, hx, -⟩ := (found i y).mp hy
    exact ⟨(h.owned i x hx).1, hj _ (h.owned i x hx).2⟩
  · obtain ⟨x, hx, rfl⟩ := (found i y).mp hy
    exact hwork i x hx hp
  · rw [hheld]
    constructor
    · rintro ⟨x, hx, hq, hp⟩
      exact ⟨g i x, (found i _).mpr ⟨x, hx, rfl⟩, hq, hp⟩
    · rintro ⟨y, hy, hq, hp⟩
      obtain ⟨x, hx, rfl⟩ := (found i y).mp hy
      exact ⟨x, hx, hq, hp⟩

/-- The pieces of a set of names rewritten; the others are held as before. -/
theorem PiecesRead.of_modPieces {s t : State} (h : PiecesRead s) {ids : List PieceId} {f : Piece → Piece} (hf : ∀ x, (f x).id = x.id)
    (hp : t.jobs.pieces = (modPieces ids f s.jobs).pieces) (hj : ∀ j, (s.job j).isSome = true → (t.job j).isSome = true)
    (hwork : ∀ i x, i ∈ ids → findPiece i s.jobs = some x → (f x).plan = none → inWork (f x) = false)
    (hout : ∀ q p i, i ∉ ids → (PlanHolds (t.plan p) q i ↔ PlanHolds (s.plan p) q i))
    (hin : ∀ q p i, i ∈ ids → (PlanHolds (t.plan p) q i ↔ ∃ x, findPiece i s.jobs = some x ∧ (f x).state = q ∧ (f x).plan = some p)) :
    PiecesRead t := by
  refine h.of_update (fun i x => if i ∈ ids then f x else x) (by rw [hp]; exact ids_modPieces ids f hf _)
    (fun i => (findPiece_congr i hp).trans (findPiece_modPieces ids f hf i _)) hj (fun i x hx hn => ?_) (fun q p i => ?_)
  · by_cases hi : i ∈ ids
    · rw [if_pos hi] at hn ⊢; exact hwork i x hi hx hn
    · rw [if_neg hi] at hn ⊢; exact h.unclaimed i x hx hn
  · by_cases hi : i ∈ ids
    · simp only [if_pos hi]; exact hin q p i hi
    · simp only [if_neg hi]; exact (hout q p i hi).trans (h.held q p i)

/-- The pieces of a set of names leave the one plan slot that held them: none is in work any more, and the slot holds the others as
before. -/
theorem PiecesRead.of_released {s t : State} (h : PiecesRead s) {ids : List PieceId} {f : Piece → Piece} {p : Fin 16}
    (hf : ∀ x, (f x).id = x.id) (hplan : ∀ x, (f x).plan = none) (hwork : ∀ x, inWork (f x) = false)
    (hp : t.jobs.pieces = (modPieces ids f s.jobs).pieces) (hj : ∀ j, (s.job j).isSome = true → (t.job j).isSome = true)
    (hother : ∀ q, q ≠ p → t.plan q = s.plan q) (hbefore : ∀ i ∈ ids, ∃ q, PlanHolds (s.plan p) q i)
    (hgone : ∀ q, ∀ i ∈ ids, ¬PlanHolds (t.plan p) q i)
    (hstay : ∀ q i, i ∉ ids → (PlanHolds (t.plan p) q i ↔ PlanHolds (s.plan p) q i)) : PiecesRead t := by
  refine h.of_modPieces hf hp hj (fun i x _ _ _ => hwork x) (fun q p' i hi => ?_) (fun q p' i hi => ?_)
  · by_cases he : p' = p
    · subst he; exact hstay q i hi
    · rw [hother p' he]
  · have : ¬PlanHolds (t.plan p') q i := by
      by_cases he : p' = p
      · subst he; exact hgone q i hi
      · rw [hother p' he]
        obtain ⟨q', hq'⟩ := hbefore i hi
        exact fun hh => he (h.holder_unique hq' hh).1
    simp [this, hplan]

/-- Pieces of no plan, neither before nor after, rewritten. -/
theorem PiecesRead.of_unheld {s t : State} (h : PiecesRead s) {ids : List PieceId} {f : Piece → Piece}
    (hf : ∀ x, (f x).id = x.id) (hplan : ∀ x, (f x).plan = none) (hwork : ∀ x, inWork (f x) = false)
    (hp : t.jobs.pieces = (modPieces ids f s.jobs).pieces) (hj : ∀ j, (s.job j).isSome = true → (t.job j).isSome = true)
    (hsame : ∀ p, t.plan p = s.plan p) (hbefore : ∀ i ∈ ids, ∀ x, findPiece i s.jobs = some x → inWork x = false) : PiecesRead t := by
  refine h.of_modPieces hf hp hj (fun i x _ _ _ => hwork x) (fun q p i _ => by rw [hsame]) (fun q p i hi => ?_)
  rw [hsame]
  have : ¬PlanHolds (s.plan p) q i := fun hh => by
    obtain ⟨x, hx, hq, -⟩ := (h.held q p i).mp hh
    have := hbefore i hi x hx
    cases q with
    | drafted | queued | issued => simp [inWork, hq] at this
    | unplanned | cut | held => exact hh
  simp [this, hplan]

/-! ## Pieces entered and deleted -/

/-- R30: a new UNPLANNED piece of a job in use. -/
theorem enterPiece_reads {s : State} (h : PiecesRead s) {x : Piece} (hx : findPiece x.id s.jobs = none) (hidx : x.id.idx ≤ 47)
    (hjob : (s.job x.id.job).isSome = true) (hstate : x.state = .unplanned) (hplan : x.plan = none) :
    PiecesRead (s.onJobs (enterPiece x)) := by
  have hself : findPiece x.id (enterPiece x s.jobs) = some x := findPiece_enterPiece_self hx
  have hne : ∀ i, i ≠ x.id → findPiece i (enterPiece x s.jobs) = findPiece i s.jobs := fun i hi => findPiece_enterPiece_ne hi
  refine ⟨?_, fun i y hy => ?_, fun i y hy hn => ?_, fun q p i => ?_⟩
  · have habsent : ∀ y ∈ s.jobs.pieces, y.id ≠ x.id := fun y hy => by simpa using List.find?_eq_none.mp hx y hy
    refine insertBy_ascending (R := fun a b : Piece => pieceBefore a b = true) (fun a b c => ?_) (fun y _ hb => hb)
      (fun y hy hb => ?_) h.ascending
    · simp only [pieceBefore_iff, idBefore]
      rintro (h1 | ⟨h1, h1'⟩) (h2 | ⟨h2, h2'⟩)
      · exact .inl (h1.trans h2)
      · exact .inl (h2 ▸ h1)
      · exact .inl (h1 ▸ h2)
      · exact .inr ⟨h1.trans h2, h1'.trans h2'⟩
    · have hid := habsent y hy
      have hb' : ¬idBefore y.id x.id := fun hh => by rw [pieceBefore_iff.mpr hh] at hb; cases hb
      rw [pieceBefore_iff]
      simp only [idBefore, not_or, not_and, not_lt] at hb' ⊢
      by_cases hj : x.id.job = y.id.job
      · refine .inr ⟨hj, lt_of_le_of_ne (hb'.2 hj.symm) fun hi => hid ?_⟩
        rw [PieceId.mk.injEq]
        exact ⟨hj.symm, hi.symm⟩
      · exact .inl (lt_of_le_of_ne hb'.1 hj)
  · by_cases hi : i = x.id
    · subst hi; exact ⟨hidx, hjob⟩
    · exact h.owned i y ((hne i hi).symm.trans hy)
  · by_cases hi : i = x.id
    · subst hi
      obtain rfl := Option.some.inj (hself.symm.trans hy)
      simp [inWork, hstate]
    · exact h.unclaimed i y ((hne i hi).symm.trans hy) hn
  · refine (h.held q p i).trans ?_
    by_cases hi : i = x.id
    · subst hi
      constructor
      · rintro ⟨y, hy, -⟩; rw [hx] at hy; cases hy
      · rintro ⟨y, hy, -, hp⟩
        obtain rfl := Option.some.inj (hself.symm.trans hy)
        rw [hplan] at hp; cases hp
    · simp only [PieceIs, onJobs_jobs, hne i hi]

/-- A lookup after a deletion finds what a lookup before finds, unless it is deleted. -/
theorem findPiece_deletePieces_iff {t : JobTable} (h : t.pieces.Pairwise fun x y => pieceBefore x y = true) {sel : Piece → Bool}
    {i : PieceId} {x : Piece} : findPiece i (deletePieces sel t) = some x ↔ findPiece i t = some x ∧ sel x = false := by
  have h' : (deletePieces sel t).pieces.Pairwise fun x y => pieceBefore x y = true := List.Pairwise.filter _ h
  rw [findPiece_iff_mem h, findPiece_iff_mem h']
  simp only [deletePieces, List.mem_filter, Bool.not_eq_eq_eq_not, Bool.not_true]
  tauto

/-- Pieces deleted, where each plan then holds what it held of the pieces that stay. -/
theorem PiecesRead.of_delete {s t : State} (h : PiecesRead s) {sel : Piece → Bool} (hp : t.jobs.pieces = (deletePieces sel s.jobs).pieces)
    (hj : ∀ i x, findPiece i s.jobs = some x → sel x = false → (t.job i.job).isSome = true)
    (hheld : ∀ q p i, PlanHolds (t.plan p) q i ↔
      PlanHolds (s.plan p) q i ∧ ∀ x, findPiece i s.jobs = some x → sel x = false) : PiecesRead t := by
  have found : ∀ i x, findPiece i t.jobs = some x ↔ findPiece i s.jobs = some x ∧ sel x = false := fun i x => by
    rw [findPiece_congr i hp]; exact findPiece_deletePieces_iff h.ascending
  refine ⟨hp ▸ List.Pairwise.filter _ h.ascending, fun i x hx => ?_, fun i x hx => h.unclaimed i x ((found i x).mp hx).1, fun q p i => ?_⟩
  · obtain ⟨hx, hs⟩ := (found i x).mp hx
    exact ⟨(h.owned i x hx).1, hj i x hx hs⟩
  · rw [hheld, h.held]
    constructor
    · rintro ⟨⟨x, hx, hrest⟩, hs⟩
      exact ⟨x, (found i x).mpr ⟨hx, hs x hx⟩, hrest⟩
    · rintro ⟨x, hx, hrest⟩
      obtain ⟨hx, hs⟩ := (found i x).mp hx
      refine ⟨⟨x, hx, hrest⟩, fun y hy => ?_⟩
      rw [hx] at hy
      cases hy
      exact hs

/-- R31, R35: pieces not in work deleted, the plans standing. -/
theorem PiecesRead.of_delete_idle {s t : State} (h : PiecesRead s) {sel : Piece → Bool}
    (hp : t.jobs.pieces = (deletePieces sel s.jobs).pieces)
    (hj : ∀ i x, findPiece i s.jobs = some x → sel x = false → (t.job i.job).isSome = true) (hsame : ∀ p, t.plan p = s.plan p)
    (hidle : ∀ i x, findPiece i s.jobs = some x → sel x = true → inWork x = false) : PiecesRead t := by
  refine h.of_delete hp hj fun q p i => ?_
  rw [hsame]
  refine ⟨fun hh => ⟨hh, fun x hx => ?_⟩, And.left⟩
  obtain ⟨y, hy, hq, -⟩ := (h.held q p i).mp hh
  rw [hx] at hy
  cases hy
  by_contra hs
  have := hidle i x hx (by simpa using hs)
  cases q with
  | drafted | queued | issued => simp [inWork, hq] at this
  | unplanned | cut | held => exact hh

end Sys2Proof.Machine
end

section
/-! Each change of the stock, of the jobs and of plans not yet committed keeps all the records in agreement. -/

namespace Sys2Proof.Machine

/-! ## Changes of one block -/

/-- A change of the Stock Table alone. -/
theorem RecordsRead.onStock {s : State} (h : RecordsRead s) {f : Stock → Stock} (hk : StockReads (s.onStock f)) :
    RecordsRead (s.onStock f) where
  stock := hk
  pieces := h.pieces.of_same rfl (fun _ hj => hj) fun _ _ _ => Iff.rfl
  plans := h.plans
  counts := h.counts.of_congr (fun _ => rfl) fun _ => rfl
  layouts := h.layouts.of_same rfl rfl fun _ => rfl
  stations st := (h.stations st).of_same (.refl _) fun _ => .inl (.refl _)

/-- A change of the jobs and their pieces alone. -/
theorem RecordsRead.of_jobs {s t : State} (h : RecordsRead s) (hstate : t = { s with jobs := t.jobs }) (hp : PiecesRead t)
    (hc : CountsRead t) : RecordsRead t := by
  have hplan : ∀ p, t.plan p = s.plan p := fun p => by rw [hstate]; rfl
  have hstation : ∀ st, t.station st = s.station st := fun st => by rw [hstate]; rfl
  exact {
    stock := h.stock.of_same (by rw [hstate]) fun p => by rw [hplan]
    pieces := hp
    plans := fun p => by rw [hplan]; exact h.plans p
    counts := hc
    layouts := h.layouts.of_same (by rw [hstate]) (by rw [hstate]) fun p => by rw [hplan]
    stations := fun st => (h.stations st).of_same (by rw [hstation]; exact .refl _) fun p => .inl (by rw [hplan]; exact .refl _) }

/-- A change of the pieces alone. -/
theorem RecordsRead.of_pieces {s t : State} (h : RecordsRead s) (hstate : t = { s with jobs := t.jobs })
    (hslots : t.jobs.slots = s.jobs.slots) (hp : PiecesRead t) : RecordsRead t := by
  refine h.of_jobs hstate hp (h.counts.of_congr (fun p => ?_) fun j => ?_)
  · rw [show t.plan p = s.plan p by rw [hstate]; rfl]
  · rw [show t.job j = s.job j by rw [State.job, hslots]; rfl]

/-- A change of one plan slot that holds no committed plan before or after, with what it does to the slabs, the pieces and the layout
work. -/
theorem RecordsRead.of_draft {s t : State} (h : RecordsRead s) (p : Fin 16) (hother : ∀ q, q ≠ p → t.plan q = s.plan q)
    (hbefore : ∀ y, s.plan p = some y → beforeCommit y = true) (hafter : ∀ y, t.plan p = some y → beforeCommit y = true)
    (hstations : t.stations = s.stations) (hslots : t.jobs.slots = s.jobs.slots) (hstock : StockReads t) (hpieces : PiecesRead t)
    (hplan : PlanOk (t.plan p)) (hlayouts : LayoutsRead t) : RecordsRead t := by
  have away : ∀ {o : Option Plan}, (∀ y, o = some y → beforeCommit y = true) → ∀ st, Away st o := fun ho st y hy hc => by
    have := ho y hy
    rw [beforeCommit, hc] at this
    cases this
  have empty : ∀ {o : Option Plan}, (∀ y, o = some y → beforeCommit y = true) → committedOf o = [] := fun {o} ho => by
    cases o with
    | none => rfl
    | some y => exact committedOf_of_before (ho y rfl)
  refine ⟨hstock, hpieces, fun q => ?_, h.counts.of_congr (fun q => ?_) (fun j => ?_), hlayouts, fun st => ?_⟩
  · by_cases hq : q = p
    · subst hq; exact hplan
    · rw [hother q hq]; exact h.plans q
  · by_cases hq : q = p
    · subst hq; rw [empty hbefore, empty hafter]
    · rw [hother q hq]
  · rw [show t.job j = s.job j by rw [State.job, hslots]; rfl]
  · refine (h.stations st).of_same ?_ fun q => ?_
    · rw [show t.station st = s.station st by rw [State.station, hstations]; rfl]
      exact .refl _
    · by_cases hq : q = p
      · subst hq; exact .inr ⟨away hbefore st, away hafter st⟩
      · exact .inl (by rw [hother q hq]; exact .refl _)

/-- The layout work stands when a slot not LAYING stays not LAYING. -/
theorem LayoutsRead.of_idle {s t : State} (h : LayoutsRead s) (p : Fin 16) (hq : t.plans.queue = s.plans.queue)
    (hc : t.engine.current = s.engine.current) (hother : ∀ q, q ≠ p → t.plan q = s.plan q) (h1 : layingOf (s.plan p) = none)
    (h2 : layingOf (t.plan p) = none) : LayoutsRead t := by
  refine h.of_same hq hc fun q => ?_
  by_cases he : q = p
  · subst he; rw [h1, h2]
  · rw [hother q he]

/-! ## Phases -/

theorem layingOf_of_not_laying {x : Plan} (h : isLaying x = false) : layingOf (some x) = none := by
  cases hp : x.phase <;> simp_all [layingOf, isLaying]

theorem beforeCommit_iff {x : Plan} : beforeCommit x = true ↔ isCommitted x = false ∧ isCutting x = false := by
  simp [beforeCommit, isCommittedOrCutting]

theorem beforeCommit_of_not {x : Plan} (h : isCommittedOrCutting x = false) : beforeCommit x = true := by
  simp [beforeCommit, h]

/-- A plan in a phase without a layout satisfies what is said of one slot when its piece set has no piece twice. -/
theorem planOk_of_no_layout {x : Plan} (hset : x.pieces.Nodup) (hb : beforeCommit x = true) (hl : layoutOf x = none) :
    PlanOk (some x) := by
  obtain ⟨h1, h2⟩ := beforeCommit_iff.mp hb
  refine ⟨fun y hy => ?_, by simp [committedOf_of_before hb], fun y hy _ l hl' => ?_, fun y hy hc => ?_, fun y hy hc => ?_⟩ <;> cases hy
  · exact hset
  · rw [hl] at hl'; cases hl'
  · rw [h1] at hc; cases hc
  · rw [h2] at hc; cases hc

/-- A plan redrafted while it is neither LAYING nor committed is in DRAFT. -/
theorem redraft_phase {x : Plan} (ids : List PieceId) (hlay : isLaying x = false) (hb : beforeCommit x = true) :
    (redraft ids x).phase = .draft := by
  cases hp : x.phase <;> simp_all [redraft, isLaying, beforeCommit, isCommittedOrCutting, isCommitted, isCutting]

theorem draft_views {x : Plan} (h : x.phase = .draft) :
    beforeCommit x = true ∧ layoutOf x = none ∧ layingOf (some x) = none ∧ isCutting x = false := by
  simp [beforeCommit, isCommittedOrCutting, isCommitted, isCutting, layoutOf, layingOf, h]

theorem laying_views {x : Plan} {n : Option Nat} (h : x.phase = .laying n) :
    beforeCommit x = true ∧ layoutOf x = none ∧ layingOf (some x) = some n ∧ isCutting x = false := by
  simp [beforeCommit, isCommittedOrCutting, isCommitted, isCutting, layoutOf, layingOf, h]

theorem laid_views {x : Plan} {k : Nat} {l : Layout} (h : x.phase = .laid k l) :
    beforeCommit x = true ∧ layoutOf x = some l ∧ layingOf (some x) = none ∧ isCutting x = false := by
  simp [beforeCommit, isCommittedOrCutting, isCommitted, isCutting, layoutOf, layingOf, h]

theorem committed_views {x : Plan} {k : Nat} {l : Layout} {r : Nat} (h : x.phase = .committed k l r) :
    isCommittedOrCutting x = true ∧ isCommitted x = true ∧ isCutting x = false ∧ layoutOf x = some l ∧ placementsOf x = l.placements ∧
      layingOf (some x) = none ∧ committedOf (some x) = l.placements ∧ beforeCommit x = false := by
  simp [beforeCommit, isCommittedOrCutting, isCommitted, isCutting, layoutOf, layingOf, committedOf, placementsOf, h]

theorem cutting_views {x : Plan} {k : Nat} {l : Layout} {r : Nat} (h : x.phase = .cutting k l r) :
    isCommittedOrCutting x = true ∧ isCommitted x = false ∧ isCutting x = true ∧ layoutOf x = some l ∧ placementsOf x = l.placements ∧
      layingOf (some x) = none ∧ committedOf (some x) = l.placements ∧ beforeCommit x = false := by
  simp [beforeCommit, isCommittedOrCutting, isCommitted, isCutting, layoutOf, layingOf, committedOf, placementsOf, h]

/-! ## What a slot not yet committed holds -/

/-- A plan not yet committed holds its piece set, DRAFTED. -/
theorem planHolds_of_before {x : Plan} (h : beforeCommit x = true) (q : PieceState) (i : PieceId) :
    PlanHolds (some x) q i ↔ q = .drafted ∧ i ∈ x.pieces := by
  cases q <;> simp [PlanHolds, committedOf_of_before h, h]

@[simp] theorem planHolds_none (q : PieceState) (i : PieceId) : ¬PlanHolds none q i := by
  cases q <;> simp [PlanHolds]

/-! ## Plans drafted (R61 to R63) -/

/-- R61. -/
theorem openPlan_records {s : State} (h : RecordsRead s) {p : Fin 16} {b : Slab} (st : Fin 6) (hb : findSlab b.serial s.stock = some b)
    (hst : b.state = .available) (hfree : s.plan p = none) :
    RecordsRead ((s.onStock (putSlab (reserve p b))).putPlan p (some (newPlan b.serial st))) := by
  let t := (s.onStock (putSlab (reserve p b))).putPlan p (some (newPlan b.serial st))
  have hp : t.plan p = some (newPlan b.serial st) := plan_putPlan_self ..
  have hq : ∀ q, q ≠ p → t.plan q = s.plan q := fun q he => plan_putPlan_ne _ _ _ _ he
  obtain ⟨hbefore, hlayout, hlaying, hcut⟩ := draft_views (x := newPlan b.serial st) rfl
  refine h.of_draft p hq (fun y hy => (nomatch hfree.symm.trans hy)) (fun y hy => ?_) rfl rfl ?_ ?_ ?_ ?_
  · obtain rfl := Option.some.inj (hp.symm.trans hy); exact hbefore
  · exact reserve_reads h.stock hb hst hfree rfl hcut rfl hp hq
  · refine h.pieces.of_same rfl (fun _ hj => hj) fun q p' i => ?_
    by_cases he : p' = p
    · subst he
      rw [hp, hfree, planHolds_of_before hbefore]
      simp [newPlan]
    · rw [hq p' he]
  · rw [hp]; exact planOk_of_no_layout List.nodup_nil hbefore hlayout
  · exact h.layouts.of_idle p rfl rfl hq (by rw [hfree]; rfl) (by rw [hp, hlaying])

/-- R62, R63: a redrafted plan, with the pieces that enter or leave its set. -/
theorem redraft_records {s t : State} (h : RecordsRead s) {p : Fin 16} {x : Plan} {ids : List PieceId} (hx : s.plan p = some x)
    (hlay : isLaying x = false) (hb : beforeCommit x = true) (hids : ids.Nodup) (hstate : t = { s with jobs := t.jobs, plans := t.plans })
    (hslots : t.jobs.slots = s.jobs.slots) (hqueue : t.plans.queue = s.plans.queue) (hp : t.plan p = some (redraft ids x))
    (hq : ∀ q, q ≠ p → t.plan q = s.plan q) (hpieces : PiecesRead t) : RecordsRead t := by
  obtain ⟨hbefore, hlayout, hlaying, hcut⟩ := draft_views (redraft_phase ids hlay hb)
  have hcurrent : t.engine.current = s.engine.current := by rw [hstate]
  refine h.of_draft p hq (fun y hy => ?_) (fun y hy => ?_) (by rw [hstate]) hslots ?_ hpieces ?_ ?_
  · obtain rfl := Option.some.inj (hx.symm.trans hy); exact hb
  · obtain rfl := Option.some.inj (hp.symm.trans hy); exact hbefore
  · refine h.stock.of_same (by rw [hstate]) fun q => ?_
    by_cases he : q = p
    · subst he
      rw [hp, hx]
      simp only [slabView, Option.map_some, hcut, (beforeCommit_iff.mp hb).2]
      rfl
    · rw [hq q he]
  · rw [hp]; exact planOk_of_no_layout hids hbefore hlayout
  · exact h.layouts.of_idle p hqueue hcurrent hq (by rw [hx]; exact layingOf_of_not_laying hlay) (by rw [hp, hlaying])

/-- R62. -/
theorem planAdd_records {s : State} (h : RecordsRead s) {p : Fin 16} {x : Plan} {y : Piece} (hx : s.plan p = some x)
    (hlay : isLaying x = false) (hb : beforeCommit x = true) (hy : findPiece y.id s.jobs = some y) (hst : y.state = .unplanned) :
    RecordsRead ((s.onJobs (modPieces [y.id] (draftPiece p))).putPlan p (some (redraft (x.pieces ++ [y.id]) x))) := by
  let t := (s.onJobs (modPieces [y.id] (draftPiece p))).putPlan p (some (redraft (x.pieces ++ [y.id]) x))
  have hp : t.plan p = some (redraft (x.pieces ++ [y.id]) x) := plan_putPlan_self ..
  have hq : ∀ q, q ≠ p → t.plan q = s.plan q := fun q he => plan_putPlan_ne _ _ _ _ he
  have hbefore := (draft_views (redraft_phase (x.pieces ++ [y.id]) hlay hb)).1
  have hfresh : ∀ q p', ¬PlanHolds (s.plan p') q y.id := fun q p' hh => by
    obtain ⟨z, hz, hq, -⟩ := (h.pieces.held _ _ _).mp hh
    rw [hy] at hz
    cases hz
    rw [hst] at hq
    subst hq
    exact hh
  have hnew : y.id ∉ x.pieces := fun hm => hfresh .drafted p (by rw [hx]; exact (planHolds_of_before hb _ _).mpr ⟨rfl, hm⟩)
  refine redraft_records h hx hlay hb ?_ rfl rfl rfl hp hq ?_
  · have hset := (h.plans p).set x hx
    simpa [List.nodup_append, hset] using fun a ha (e : a = y.id) => hnew (e ▸ ha)
  · refine h.pieces.of_modPieces (f := draftPiece p) (fun _ => rfl) rfl (fun _ hj => hj) (fun i z _ _ hn => (nomatch hn))
      (fun q p' i hi => ?_) (fun q p' i hi => ?_)
    · by_cases he : p' = p
      · subst he
        rw [hp, hx, planHolds_of_before hbefore, planHolds_of_before hb]
        have hne : i ≠ y.id := by simpa using hi
        simp [redraft, hne]
      · rw [hq p' he]
    · obtain rfl : i = y.id := by simpa using hi
      rw [hy]
      by_cases he : p' = p
      · subst he
        rw [hp, planHolds_of_before hbefore]
        simp [redraft, draftPiece, eq_comm]
      · rw [hq p' he]
        have he' : p ≠ p' := fun e => he e.symm
        simp [hfresh, draftPiece, he']

/-- R63. -/
theorem planRemove_records {s : State} (h : RecordsRead s) {p : Fin 16} {x : Plan} {i : PieceId} (hx : s.plan p = some x)
    (hlay : isLaying x = false) (hb : beforeCommit x = true) (hi : i ∈ x.pieces) :
    RecordsRead ((unplanPieces [i] s).putPlan p (some (redraft (x.pieces.filter fun j => j != i) x))) := by
  let t := (unplanPieces [i] s).putPlan p (some (redraft (x.pieces.filter fun j => j != i) x))
  have hp : t.plan p = some (redraft (x.pieces.filter fun j => j != i) x) := plan_putPlan_self ..
  have hq : ∀ q, q ≠ p → t.plan q = s.plan q := fun q he => plan_putPlan_ne _ _ _ _ he
  have hbefore := (draft_views (redraft_phase (x.pieces.filter fun j => j != i) hlay hb)).1
  refine redraft_records h hx hlay hb (((h.plans p).set x hx).filter _) rfl rfl rfl hp hq ?_
  refine h.pieces.of_released (p := p) (ids := [i]) (f := unplan) (fun _ => rfl) (fun _ => rfl) (fun _ => rfl) rfl (fun _ hj => hj) hq
    (fun j hj => ?_) (fun q j hj => ?_) (fun q j hj => ?_)
  · obtain rfl : j = i := by simpa using hj
    exact ⟨.drafted, by rw [hx]; exact (planHolds_of_before hb _ _).mpr ⟨rfl, hi⟩⟩
  · obtain rfl : j = i := by simpa using hj
    rw [hp, planHolds_of_before hbefore]
    simp [redraft]
  · have hj' : j ≠ i := by simpa using hj
    rw [hp, hx, planHolds_of_before hbefore, planHolds_of_before hb]
    simp [redraft, hj']

/-! ## Layout work (R64 to R67, R73) -/

/-- A LAYING or laid-out phase in place of another one before commitment: the slab, the station and the piece set stand. -/
theorem rephase_records {s t : State} (h : RecordsRead s) {p : Fin 16} {x y : Plan} (hx : s.plan p = some x) (hb : beforeCommit x = true)
    (hy : t.plan p = some y) (hby : beforeCommit y = true) (hserial : y.serial = x.serial) (hstation : y.station = x.station)
    (hpieces : y.pieces = x.pieces) (hstate : t = { s with plans := t.plans, engine := t.engine, link := t.link })
    (hq : ∀ q, q ≠ p → t.plan q = s.plan q) (hplan : PlanOk (some y)) (hlayouts : LayoutsRead t) : RecordsRead t := by
  refine h.of_draft p hq (fun z hz => ?_) (fun z hz => ?_) (by rw [hstate]) (by rw [hstate]) ?_ ?_ (by rw [hy]; exact hplan) hlayouts
  · obtain rfl := Option.some.inj (hx.symm.trans hz); exact hb
  · obtain rfl := Option.some.inj (hy.symm.trans hz); exact hby
  · refine h.stock.of_same (by rw [hstate]) fun q => ?_
    by_cases he : q = p
    · subst he
      rw [hy, hx]
      simp only [slabView, Option.map_some, (beforeCommit_iff.mp hb).2, (beforeCommit_iff.mp hby).2, hserial, hstation]
    · rw [hq q he]
  · refine h.pieces.of_same (by rw [hstate]) (fun j hj => ?_) fun q p' i => ?_
    · rw [show t.job j = s.job j by rw [hstate]; rfl]; exact hj
    · by_cases he : p' = p
      · subst he
        rw [hy, hx, planHolds_of_before hby, planHolds_of_before hb, hpieces]
      · rw [hq p' he]

/-- R64: a plan joins the layout queue. -/
theorem queueForLayout_records {s : State} (h : RecordsRead s) {p : Fin 16} {x : Plan} (hx : s.plan p = some x)
    (hlay : isLaying x = false) (hb : beforeCommit x = true) : RecordsRead (queueForLayout p x s) := by
  let y : Plan := { x with phase := .laying none }
  have hp : (queueForLayout p x s).plan p = some y := plan_putPlan_self ..
  have hq : ∀ q, q ≠ p → (queueForLayout p x s).plan q = s.plan q := fun q he => plan_putPlan_ne _ _ _ _ he
  have hqueue : (queueForLayout p x s).plans.queue = s.plans.queue ++ [p] := rfl
  obtain ⟨hby, hlayout, hlaying, -⟩ := laying_views (x := y) rfl
  have hidle : layingOf (s.plan p) = none := by rw [hx]; exact layingOf_of_not_laying hlay
  have habsent : p ∉ s.plans.queue := fun hm => by
    have := (h.layouts.waiting p).mp hm
    rw [hidle] at this
    cases this
  refine rephase_records h hx hb hp hby rfl rfl rfl rfl hq (planOk_of_no_layout ((h.plans p).set x hx) hby hlayout)
    ⟨?_, fun q => ?_, fun q n hn => ?_, fun c hc => ?_⟩
  · rw [hqueue]
    simpa [List.nodup_append, h.layouts.once] using fun a ha (e : a = p) => habsent (e ▸ ha)
  · rw [hqueue]
    by_cases he : q = p
    · subst he; rw [hp, hlaying]; simp
    · rw [hq q he, ← h.layouts.waiting]; simp [he]
  · by_cases he : q = p
    · subst he; rw [hp, hlaying] at hn; cases hn
    · exact h.layouts.started q n (hq q he ▸ hn)
  · have hc' := h.layouts.inProgress c hc
    have he : c.plan ≠ p := fun e => by rw [e, hidle] at hc'; cases hc'
    rw [hq _ he]; exact hc'

/-- R65: the idle engine starts on the head of the queue. -/
theorem startComputation_records {s : State} (h : RecordsRead s) {p : Fin 16} {l : List (Fin 16)} {x : Plan} (c : Captures)
    (hidle : s.engine.current = none) (hqueue : s.plans.queue = p :: l) (hx : s.plan p = some x) :
    RecordsRead (startComputation p x c s) := by
  let t := startComputation p x c s
  let y : Plan := { x with phase := .laying (some s.engine.nextNumber) }
  have hp : t.plan p = some y := plan_putPlan_self ..
  have hq : ∀ q, q ≠ p → t.plan q = s.plan q := fun q he => plan_putPlan_ne _ _ _ _ he
  have hqueue' : t.plans.queue = l := by show s.plans.queue.tail = l; rw [hqueue]; rfl
  have hcurrent : t.engine.current = some ⟨p, s.engine.nextNumber, c, Work.empty⟩ := rfl
  have honce := h.layouts.once
  rw [hqueue] at honce
  obtain ⟨hpl, hl⟩ := List.nodup_cons.mp honce
  have hphase : x.phase = .laying none := by
    have := (h.layouts.waiting p).mp (by rw [hqueue]; simp)
    rw [hx] at this
    obtain ⟨z, hz, hzp⟩ := layingOf_waiting.mp this
    obtain rfl : x = z := by simpa using hz
    exact hzp
  obtain ⟨hby, hlayout, hlaying, -⟩ := laying_views (x := y) rfl
  refine rephase_records h hx (laying_views hphase).1 hp hby rfl rfl rfl rfl hq
    (planOk_of_no_layout ((h.plans p).set x hx) hby hlayout) ⟨?_, fun q => ?_, fun q n hn => ?_, fun d hd => ?_⟩
  · rw [hqueue']; exact hl
  · rw [hqueue']
    by_cases he : q = p
    · subst he; rw [hp, hlaying]; simp [hpl]
    · rw [hq q he, ← h.layouts.waiting, hqueue]; simp [he]
  · by_cases he : q = p
    · subst he
      rw [hp, hlaying] at hn
      obtain rfl : s.engine.nextNumber = n := by simpa using hn
      exact ⟨_, hcurrent, rfl, rfl⟩
    · obtain ⟨d, hd, -⟩ := h.layouts.started q n (hq q he ▸ hn)
      rw [hidle] at hd
      cases hd
  · rw [hcurrent] at hd
    cases hd
    rw [hp]
    exact hlaying

theorem takeHead_records {s : State} (h : RecordsRead s) : RecordsRead (takeHead s) := by
  unfold takeHead
  split
  · rename_i p l hidle hqueue
    split
    · rename_i x hx
      split
      · split
        · exact startComputation_records h _ hidle hqueue hx
        · exact h
      · exact h
    · exact h
  · exact h

/-- R67: two piece sets of one size, of which one has no piece twice and each holds the other, are arrangements of each other. -/
theorem perm_of_sameSet {a b : List PieceId} (ha : a.Nodup) (h : sameSet a b = true) : a.Perm b := by
  simp only [sameSet, Bool.and_eq_true, beq_iff_eq, List.all_eq_true, List.contains_iff_mem] at h
  obtain ⟨⟨hlen, hab⟩, -⟩ := h
  exact (ha.subperm hab).perm_of_length_le hlen.ge

/-- R67: the Plan Table handles the layout of the computation that has just ended. -/
theorem completeComputation_records {s : State} (h : RecordsRead s) : RecordsRead (completeComputation s) := by
  unfold completeComputation
  cases hc : s.engine.current with
  | none => exact h
  | some c =>
    dsimp only
    generalize computeLayout c = l
    have hprogress := h.layouts.inProgress c hc
    obtain ⟨x, hx, hnum⟩ := layingOf_started.mp hprogress
    replace hx : s.plan c.plan = some x := by simpa using hx
    have hphase : x.phase = .laying (some c.number) := by
      cases hp : x.phase <;> simp_all [numberOf]
    obtain ⟨hb, -, hlaying, -⟩ := laying_views hphase
    have habsent : c.plan ∉ s.plans.queue := fun hm => by
      have := (h.layouts.waiting _).mp hm
      rw [hx, hlaying] at this
      cases this
    have others : ∀ q n, q ≠ c.plan → layingOf (s.plan q) ≠ some (some n) := fun q n he hn => by
      obtain ⟨d, hd, hdp, -⟩ := h.layouts.started q n hn
      rw [hc] at hd
      cases hd
      exact he hdp.symm
    have hset := (h.plans c.plan).set x hx
    let u := s.onEngine fun e => { e with current := none }
    have hux : u.plan c.plan = some x := hx
    have hlay : (isLaying x && !u.plans.queue.contains c.plan) = true := by
      have : c.plan ∉ u.plans.queue := habsent
      simp [isLaying, hphase, this]
    show RecordsRead (handOver c.plan c.number c.cap.kerf l u)
    unfold handOver
    rw [hux]
    simp only [hnum, ne_eq, not_true_eq_false, if_false, hlay, if_true]
    by_cases hsame : sameSet x.pieces (accountedPieces l) = true
    · rw [if_pos hsame]
      let y : Plan := { x with stale := false, phase := .laid c.cap.kerf l }
      obtain ⟨hby, hlayout, hlaying', hcut⟩ := laid_views (x := y) rfl
      have hp : (raiseNotice .laid c.plan (u.putPlan c.plan (some y))).plan c.plan = some y := plan_putPlan_self ..
      have hq : ∀ q, q ≠ c.plan → (raiseNotice .laid c.plan (u.putPlan c.plan (some y))).plan q = s.plan q := fun q he =>
        plan_putPlan_ne _ _ _ _ he
      refine rephase_records h hx hb hp hby rfl rfl rfl rfl hq ?_ ⟨h.layouts.once, fun q => ?_, fun q n hn => ?_, fun d hd => (nomatch hd)⟩
      · refine ⟨fun z hz => by cases hz; exact hset, by simp [committedOf_of_before hby], fun z hz _ m hm => ?_, fun z hz hcom => ?_,
          fun z hz hcut' => ?_⟩ <;> cases hz
        · rw [hlayout] at hm
          cases hm
          exact perm_of_sameSet hset hsame
        · rw [(beforeCommit_iff.mp hby).1] at hcom; cases hcom
        · rw [hcut] at hcut'; cases hcut'
      · by_cases he : q = c.plan
        · subst he; rw [hp, hlaying']; exact iff_of_false habsent nofun
        · rw [hq q he]; exact h.layouts.waiting q
      · by_cases he : q = c.plan
        · subst he; rw [hp, hlaying'] at hn; cases hn
        · rw [hq q he] at hn; exact absurd hn (others q n he)
    · rw [if_neg hsame]
      let y : Plan := { x with stale := true, phase := .laying none }
      let t := (u.putPlan c.plan (some y)).onPlans fun t => { t with queue := t.queue ++ [c.plan] }
      obtain ⟨hby, hlayout, hlaying', -⟩ := laying_views (x := y) rfl
      have hp : t.plan c.plan = some y := plan_putPlan_self ..
      have hq : ∀ q, q ≠ c.plan → t.plan q = s.plan q := fun q he => plan_putPlan_ne _ _ _ _ he
      have hqueue : t.plans.queue = s.plans.queue ++ [c.plan] := rfl
      refine rephase_records h hx hb hp hby rfl rfl rfl rfl hq (planOk_of_no_layout hset hby hlayout)
        ⟨?_, fun q => ?_, fun q n hn => ?_, fun d hd => (nomatch hd)⟩
      · rw [hqueue]
        simpa [List.nodup_append, h.layouts.once] using fun a ha (e : a = c.plan) => habsent (e ▸ ha)
      · rw [hqueue]
        by_cases he : q = c.plan
        · subst he; rw [hp, hlaying']; simp
        · rw [hq q he, ← h.layouts.waiting]; simp [he]
      · by_cases he : q = c.plan
        · subst he; rw [hp, hlaying'] at hn; cases hn
        · rw [hq q he] at hn; exact absurd hn (others q n he)

end Sys2Proof.Machine
end

section
/-! ABANDON before commitment, the changes of the Job Table, and COMMIT keep all the records in agreement. -/

namespace Sys2Proof.Machine

/-! ## ABANDON before commitment (R72, R73) -/

/-- R72: a plan not yet committed is given up: its pieces UNPLANNED, its slab released, its slot FREE. -/
theorem giveUp_records {s t : State} (h : RecordsRead s) {p : Fin 16} {x : Plan} (hx : s.plan p = some x) (hb : beforeCommit x = true)
    (hstock : t.stock = releaseRecord x.serial s.stock) (hjobs : t.jobs = modPieces x.pieces unplan s.jobs)
    (hstations : t.stations = s.stations) (hp : t.plan p = none) (hq : ∀ q, q ≠ p → t.plan q = s.plan q) (hlayouts : LayoutsRead t) :
    RecordsRead t := by
  have hjob : ∀ j, t.job j = s.job j := fun j => by rw [State.job, hjobs]; rfl
  refine h.of_draft p hq (fun y hy => ?_) (fun y hy => (nomatch hp.symm.trans hy)) hstations (by rw [hjobs]; rfl) ?_ ?_
    (by rw [hp]; exact planOk_none) hlayouts
  · obtain rfl := Option.some.inj (hx.symm.trans hy); exact hb
  · exact releaseRecord_reads h.stock hx (beforeCommit_iff.mp hb).2 hstock hp hq
  · refine h.pieces.of_released (p := p) (f := unplan) (fun _ => rfl) (fun _ => rfl) (fun _ => rfl) (by rw [hjobs])
      (fun j hj => by rw [hjob]; exact hj) hq (fun i hi => ⟨.drafted, ?_⟩) (fun q i _ => by rw [hp]; exact planHolds_none q i)
      (fun q i hi => ?_)
    · rw [hx]; exact (planHolds_of_before hb _ _).mpr ⟨rfl, hi⟩
    · rw [hp, hx, planHolds_of_before hb]
      simp [hi]

theorem unwindDraft_records {s : State} (h : RecordsRead s) {p : Fin 16} {x : Plan} (hx : s.plan p = some x) (hb : beforeCommit x = true)
    (hlay : isLaying x = false) : RecordsRead (unwindDraft p x s) := by
  have hp : (unwindDraft p x s).plan p = none := plan_putPlan_self ..
  have hq : ∀ q, q ≠ p → (unwindDraft p x s).plan q = s.plan q := fun q he => plan_putPlan_ne _ _ _ _ he
  refine giveUp_records h hx hb rfl rfl rfl hp hq (h.layouts.of_idle p rfl rfl hq ?_ (by rw [hp]; rfl))
  rw [hx]; exact layingOf_of_not_laying hlay

/-- R73: a LAYING plan given up leaves the queue, and a computation with its number ends. -/
theorem unwindLaying_records {s : State} (h : RecordsRead s) {p : Fin 16} {x : Plan} {n : Option Nat} (hx : s.plan p = some x)
    (hphase : x.phase = .laying n) : RecordsRead (unwindDraft p x (leaveLayoutWork p n s)) := by
  obtain ⟨hb, -, hlaying, -⟩ := laying_views hphase
  let t := unwindDraft p x (leaveLayoutWork p n s)
  have hleave : ∃ e, leaveLayoutWork p n s = { s with plans := { s.plans with queue := s.plans.queue.filter fun q => q != p }, engine := e } ∧
      e.current = s.engine.current.bind fun c => if n = some c.number then none else some c := by
    unfold leaveLayoutWork
    cases n with
    | none => exact ⟨s.engine, rfl, by cases s.engine.current <;> rfl⟩
    | some m =>
      refine ⟨stopComputation m s.engine, rfl, ?_⟩
      unfold stopComputation
      cases hc : s.engine.current with
      | none => simp [hc]
      | some c =>
        by_cases hn : c.number = m
        · simp [hn]
        · have hn' : m ≠ c.number := fun e => hn e.symm
          simp [hn, hn', hc]
  obtain ⟨e, he, hcurrent⟩ := hleave
  have hu : t = unwindDraft p x { s with plans := { s.plans with queue := s.plans.queue.filter fun q => q != p }, engine := e } := by
    rw [← he]
  have hp : t.plan p = none := by rw [hu]; exact plan_putPlan_self ..
  have hq : ∀ q, q ≠ p → t.plan q = s.plan q := fun q hne => by rw [hu]; exact plan_putPlan_ne _ _ _ _ hne
  have hqueue : t.plans.queue = s.plans.queue.filter fun q => q != p := by rw [hu]; rfl
  have hcur : t.engine.current = s.engine.current.bind fun c => if n = some c.number then none else some c := by
    rw [← hcurrent, hu]; rfl
  refine giveUp_records h hx hb (by rw [he]; rfl) (by rw [he]; rfl) (by rw [he]; rfl) hp hq
    ⟨?_, fun q => ?_, fun q m hm => ?_, fun c hc => ?_⟩
  · rw [hqueue]; exact h.layouts.once.filter _
  · rw [hqueue]
    by_cases hne : q = p
    · subst hne; rw [hp]; simp [layingOf]
    · rw [hq q hne, ← h.layouts.waiting]; simp [hne]
  · have hne : q ≠ p := fun e => by rw [e, hp] at hm; cases hm
    rw [hq q hne] at hm
    obtain ⟨c, hc, hcp, hcn⟩ := h.layouts.started q m hm
    refine ⟨c, ?_, hcp, hcn⟩
    rw [hcur, hc]
    refine if_neg fun hn => hne ?_
    obtain ⟨d, hd, hdp, -⟩ := h.layouts.started p c.number (by rw [hx, hlaying, hn])
    rw [hc] at hd
    cases hd
    exact hcp.symm.trans hdp
  · rw [hcur] at hc
    obtain ⟨d, hd, hdc⟩ := Option.bind_eq_some_iff.mp hc
    split at hdc
    · cases hdc
    · rename_i hn
      cases hdc
      have hprog := h.layouts.inProgress c hd
      have hne : c.plan ≠ p := fun e => by
        rw [e, hx, hlaying] at hprog
        exact hn (Option.some.inj hprog)
      rw [hq _ hne]; exact hprog

/-! ## The Job Table (R29 to R35) -/

/-- A job of no open placement has none in any committed plan. -/
theorem CountsRead.no_placement {s : State} (h : CountsRead s) {j : Fin 64}
    (hj : s.job j = none ∨ ∃ b, s.job j = some b ∧ b.openCount = 0) (p : Fin 16) (z : Placement)
    (hz : z ∈ committedOf (s.plan p)) : z.piece.job ≠ j := fun he => by
  subst he
  rcases hj with hn | ⟨b, hb, hzero⟩
  · have := h.inUse p z hz
    rw [hn] at this
    cases this
  · have htotal := h.counts _ b hb
    rw [hzero] at htotal
    have hle : (committedOf (s.plan p)).countP (fun y => y.piece.job == z.piece.job) ≤ openTotal s z.piece.job :=
      Finset.single_le_sum (f := fun q => (committedOf (s.plan q)).countP fun y => y.piece.job == z.piece.job)
        (fun _ _ => Nat.zero_le _) (Finset.mem_univ p)
    have hpos : 0 < (committedOf (s.plan p)).countP fun y => y.piece.job == z.piece.job :=
      List.countP_pos_iff.mpr ⟨z, hz, by simp⟩
    omega

/-- R29: a new job has no placement yet. -/
theorem openJob_records {s : State} (h : RecordsRead s) {j : Fin 64} {b : Job} (hj : s.job j = none) (hb : b.openCount = 0) :
    RecordsRead (s.putJob j (some b)) := by
  refine h.of_jobs rfl (h.pieces.of_same rfl (fun i hi => ?_) fun _ _ _ => Iff.rfl) ⟨fun i c hc => ?_, fun p z hz => ?_⟩
  · by_cases he : i = j
    · subst he; rw [job_putJob_self]; rfl
    · rw [job_putJob_ne _ _ _ _ he]; exact hi
  · show c.openCount = openTotal s i
    by_cases he : i = j
    · subst he
      rw [job_putJob_self] at hc
      cases hc
      rw [hb]
      refine (Finset.sum_eq_zero fun p _ => List.countP_eq_zero.mpr fun z hz => ?_).symm
      simpa using h.counts.no_placement (.inl hj) p z hz
    · rw [job_putJob_ne _ _ _ _ he] at hc; exact h.counts.counts i c hc
  · have hz' : z ∈ committedOf (s.plan p) := hz
    rw [job_putJob_ne _ _ _ _ (h.counts.no_placement (.inl hj) p z hz')]
    exact h.counts.inUse p z hz'

/-- R35: a job with no piece in work and no open placement leaves with its pieces. -/
theorem freeJob_records {s : State} (h : RecordsRead s) {j : Fin 64} {b : Job} (hj : s.job j = some b) (hcount : b.openCount = 0)
    (hidle : (jobPieces j s.jobs).any inWork = false) : RecordsRead (freeJob j s) := by
  have hne : ∀ i, i ≠ j → (freeJob j s).job i = s.job i := fun i hi => job_putJob_ne _ _ _ _ hi
  refine h.of_jobs rfl (h.pieces.of_delete_idle rfl (fun i x hx hs => ?_) (fun _ => rfl) fun i x hx hs => ?_)
    ⟨fun i c hc => ?_, fun p z hz => ?_⟩
  · have hid := findPiece_id hx
    have hi : i.job ≠ j := by simpa [hid] using hs
    rw [hne _ hi]; exact (h.pieces.owned i x hx).2
  · have hmem : x ∈ jobPieces j s.jobs := by
      simpa [jobPieces, List.mem_of_find?_eq_some hx] using hs
    simpa using List.any_eq_false.mp hidle x hmem
  · have hi : i ≠ j := fun e => by
      have hself : (freeJob j s).job j = none := job_putJob_self ..
      rw [e, hself] at hc
      cases hc
    rw [hne i hi] at hc
    exact h.counts.counts i c hc
  · have hz' : z ∈ committedOf (s.plan p) := hz
    rw [hne _ (h.counts.no_placement (.inr ⟨b, hj, hcount⟩) p z hz')]
    exact h.counts.inUse p z hz'

/-- R30. -/
theorem addPiece_records {s : State} (h : RecordsRead s) {x : Piece} (hx : findPiece x.id s.jobs = none) (hidx : x.id.idx ≤ 47)
    (hjob : (s.job x.id.job).isSome = true) (hstate : x.state = .unplanned) (hplan : x.plan = none) :
    RecordsRead (s.onJobs (enterPiece x)) :=
  h.of_pieces rfl rfl (enterPiece_reads h.pieces hx hidx hjob hstate hplan)

/-- R31. -/
theorem deletePiece_records {s : State} (h : RecordsRead s) {x : Piece} (hx : findPiece x.id s.jobs = some x)
    (hdel : deletable x = true) : RecordsRead (s.onJobs (deletePieces fun y => y.id == x.id)) := by
  refine h.of_pieces rfl rfl (h.pieces.of_delete_idle rfl (fun i y hy _ => (h.pieces.owned i y hy).2) (fun _ => rfl) fun i y hy hs => ?_)
  have hid : y.id = x.id := by simpa using hs
  rw [← findPiece_id hy, hid, hx] at hy
  cases hy
  cases hst : x.state <;> simp_all [deletable, inWork]

/-- R32. -/
theorem releasePiece_records {s : State} (h : RecordsRead s) {x : Piece} (hx : findPiece x.id s.jobs = some x) (hst : x.state = .held) :
    RecordsRead (s.onJobs (modPieces [x.id] releasedPiece)) := by
  refine h.of_pieces rfl rfl (h.pieces.of_unheld (f := releasedPiece) (fun _ => rfl) (fun _ => rfl) (fun _ => rfl) rfl (fun _ hj => hj)
    (fun _ => rfl) fun i hi y hy => ?_)
  obtain rfl : i = x.id := by simpa using hi
  rw [hx] at hy
  cases hy
  simp [inWork, hst]

/-! ## COMMIT (R70) -/

theorem map_piece_withState (q : PlaceState) (l : List Placement) :
    (l.map (withState q)).map (fun z => z.piece) = l.map fun z => z.piece := by
  simp [withState]

theorem countP_job_withState (q : PlaceState) (l : List Placement) (j : Fin 64) :
    (l.map (withState q)).countP (fun z => z.piece.job == j) = l.countP fun z => z.piece.job == j := by
  rw [List.countP_map]; rfl

theorem currentCutting_of_none {s : State} {st : Fin 6} (h : (s.station st).current = none) : currentCutting st s = false := by
  simp [currentCutting, h]

theorem currentCutting_of_some {s : State} {st : Fin 6} {p : Fin 16} {y : Plan} (h : (s.station st).current = some p)
    (hy : s.plan p = some y) : currentCutting st s = isCutting y := by
  simp [currentCutting, h, hy]

/-- A plan in a role of a station is COMMITTED or CUTTING there. -/
theorem StationRead.plan_of_role {s : State} {st : Fin 6} (h : StationRead s st) {p : Fin 16}
    (hr : (s.station st).current = some p ∨ (s.station st).next = some p) :
    ∃ y, s.plan p = some y ∧ y.station = st ∧ isCommittedOrCutting y = true := (h.roles p).mp hr

/-- The entries of a role read the slot of that role alone. -/
theorem entriesOf_congr {s t : State} (f : Placement → Bool) {o : Option (Fin 16)} (h : ∀ p, o = some p → t.plan p = s.plan p) :
    entriesOf f t o = entriesOf f s o := by
  cases o with
  | none => rfl
  | some p => simp only [entriesOf_some, h p rfl]

/-- R70, step 5: the entries of a plan just committed are all its placements. -/
theorem entriesWhere_all_queued (p : Fin 16) (l : List Placement) :
    entriesWhere unfinished p (l.map (withState .queued)) = cutEntries p l ∧
      entriesWhere isIssued p (l.map (withState .queued)) = [] := by
  constructor
  · rw [map_eq_mapIdx,
      entriesWhere_mapIdx (g := fun _ => true) (h := fun _ => withState .queued) (fun _ => true) (fun _ _ => rfl) fun _ _ _ => rfl, List.filter_true,
      entriesWhere, List.filter_true, cutEntries, List.mapIdx_eq_zipIdx_map]
  · rw [map_eq_mapIdx,
      entriesWhere_mapIdx (g := fun _ => true) (h := fun _ => withState .queued) (fun _ => false) (fun _ _ => rfl) fun _ _ _ => rfl, List.filter_false]

/-- What COMMIT makes of the records that the agreement reads. -/
structure Committed (p : Fin 16) (x : Plan) (kerf : Nat) (l : Layout) (rate : Nat) (s t : State) : Prop where
  stock : t.stock = s.stock
  pieces : t.jobs.pieces = (modPieces (l.placements.map fun z => z.piece) queuePiece
    (modPieces (l.unfit.map fun u => u.piece) unplan s.jobs)).pieces
  jobs : ∀ j, t.job j = (s.job j).map fun b => { b with openCount := b.openCount + l.placements.countP fun z => z.piece.job == j }
  engine : t.engine = s.engine
  queue : t.plans.queue = s.plans.queue
  plan : t.plan p = some (committedPlan x kerf l rate)
  others : ∀ q, q ≠ p → t.plan q = s.plan q
  station : t.station x.station = takeCommitted p l.placements (s.station x.station)
  stations : ∀ st, st ≠ x.station → t.station st = s.station st

theorem commitPlan_committed (p : Fin 16) (x : Plan) (kerf : Nat) (l : Layout) (s : State) :
    Committed p x kerf l (rateFor x.serial s) s (commitPlan p x kerf l s) := by
  let s2 := (unplanPieces (l.unfit.map fun u => u.piece) s).onJobs (modPieces (l.placements.map fun y => y.piece) queuePiece)
  have hstate := countPlacements_state l.placements s2
  have hpieces := countPlacements_pieces l.placements s2
  have hjob := fun j => countPlacements_job j l.placements s2
  have ht : commitPlan p x kerf l s = ((countPlacements l.placements s2).onStation x.station (takeCommitted p l.placements)).putPlan p
      (some (committedPlan x kerf l (rateFor x.serial s))) := rfl
  generalize countPlacements l.placements s2 = s3 at *
  rw [ht]
  refine ⟨by rw [hstate]; rfl, hpieces, fun j => ?_, by rw [hstate]; rfl, by rw [hstate]; rfl, plan_putPlan_self .., fun q hq => ?_, ?_,
    fun st hst => ?_⟩
  · refine (hjob j).trans ?_
    simp only [beq_eq_decide]
    rfl
  · rw [plan_putPlan_ne _ _ _ _ hq]
    show s3.plan q = s.plan q
    rw [hstate]; rfl
  · show (s3.onStation x.station (takeCommitted p l.placements)).station x.station = _
    rw [station_onStation_self, hstate]; rfl
  · show (s3.onStation x.station (takeCommitted p l.placements)).station st = _
    rw [station_onStation_ne _ _ _ _ hst, hstate]; rfl

/-- R70: the pieces of a committed plan are QUEUED, and its unfit pieces UNPLANNED. -/
theorem Committed.pieces_read {p : Fin 16} {x : Plan} {kerf : Nat} {l : Layout} {rate : Nat} {s t : State}
    (c : Committed p x kerf l rate s t) (h : RecordsRead s) (hx : s.plan p = some x) (hphase : x.phase = .laid kerf l) : PiecesRead t := by
  obtain ⟨hb, hlayout, -, -⟩ := laid_views hphase
  have hperm := (h.plans p).laid x hx hb l hlayout
  have hnodup := hperm.nodup_iff.mp ((h.plans p).set x hx)
  have hpieces := c.pieces
  generalize hP : (l.placements.map fun z => z.piece) = P at *
  generalize hU : (l.unfit.map fun u => u.piece) = U at *
  have hdisj : ∀ i ∈ P, i ∉ U := (List.nodup_append'.mp hnodup).2.2
  have hmem : ∀ i, i ∈ x.pieces ↔ i ∈ P ∨ i ∈ U := fun i => by rw [hperm.mem_iff, List.mem_append]
  have holds : ∀ i, i ∈ P ∨ i ∈ U → PlanHolds (s.plan p) .drafted i := fun i hi => by
    rw [hx]; exact (planHolds_of_before hb _ _).mpr ⟨rfl, (hmem i).mpr hi⟩
  have hnew : committedOf (t.plan p) = l.placements.map (withState .queued) := by
    rw [c.plan]; exact (committed_views (x := committedPlan x kerf l rate) rfl).2.2.2.2.2.2.1
  have hnotBefore : beforeCommit (committedPlan x kerf l rate) = false := (committed_views rfl).2.2.2.2.2.2.2
  have hself : ∀ q i, PlanHolds (t.plan p) q i ↔ q = .queued ∧ i ∈ P := fun q i => by
    have hin : i ∈ P ↔ ∃ z ∈ l.placements, z.piece = i := by rw [← hP]; simp
    cases q with
    | drafted => simp [PlanHolds, c.plan, hnotBefore]
    | queued => simp [PlanHolds, hnew, hin, withState]
    | issued => simp [PlanHolds, hnew, withState]
    | unplanned | cut | held => simp [PlanHolds]
  refine h.pieces.of_update (fun i y => if i ∈ P then queuePiece (if i ∈ U then unplan y else y) else if i ∈ U then unplan y else y)
    ?_ (fun i => ?_) (fun j hj => ?_) (fun i y hy hn => ?_) (fun q p' i => ?_)
  · rw [hpieces, ids_modPieces P queuePiece (fun _ => rfl)]
    exact ids_modPieces U unplan (fun _ => rfl) _
  · rw [findPiece_congr i hpieces, findPiece_modPieces P queuePiece (fun _ => rfl), findPiece_modPieces U unplan (fun _ => rfl),
      Option.map_map]
    rfl
  · rw [c.jobs]; simpa using hj
  · by_cases hiP : i ∈ P
    · obtain ⟨y', hy', -, hp⟩ := (h.pieces.held _ _ _).mp (holds i (.inl hiP))
      rw [hy] at hy'
      cases hy'
      simp [hiP, hdisj i hiP, queuePiece, hp] at hn
    · by_cases hiU : i ∈ U
      · simp [hiP, hiU, inWork, unplan]
      · simp only [hiP, hiU, if_false] at hn ⊢
        exact h.pieces.unclaimed i y hy hn
  · by_cases hi : i ∈ P ∨ i ∈ U
    · obtain ⟨y, hy, hyst, hyp⟩ := (h.pieces.held _ _ _).mp (holds i hi)
      have hleft : PlanHolds (t.plan p') q i ↔ p' = p ∧ q = .queued ∧ i ∈ P := by
        by_cases he : p' = p
        · subst he; rw [hself]; simp
        · rw [c.others p' he]
          exact ⟨fun hh => absurd (h.pieces.holder_unique (holds i hi) hh).1 he, fun hh => absurd hh.1 he⟩
      rw [hleft, hy]
      rcases hi with hi | hi
      · simp [hi, hdisj i hi, queuePiece, hyp, eq_comm, and_comm]
      · have hiP : i ∉ P := fun hp => hdisj i hp hi
        simp [hi, hiP, unplan]
    · have hiP : i ∉ P := fun hh => hi (.inl hh)
      have hiU : i ∉ U := fun hh => hi (.inr hh)
      simp only [hiP, hiU, if_false]
      refine Iff.trans ?_ (h.pieces.held q p' i)
      by_cases he : p' = p
      · subst he
        rw [hself, hx, planHolds_of_before hb, hmem]
        simp [hiP, hiU]
      · rw [c.others p' he]

theorem Committed.station_read {p : Fin 16} {x : Plan} {kerf : Nat} {l : Layout} {rate : Nat} {s t : State}
    (c : Committed p x kerf l rate s t) (h : RecordsRead s) (hx : s.plan p = some x) (hb : beforeCommit x = true)
    (hroom : (s.station x.station).current = none ∨ (s.station x.station).next = none) (st : Fin 6) : StationRead t st := by
  obtain ⟨hcc, -, hcut, -, -, -, hnew, -⟩ := committed_views (x := committedPlan x kerf l rate) rfl
  have hnot : isCommittedOrCutting x = false := by simpa [beforeCommit] using hb
  by_cases hst : st = x.station
  · subst hst
    have hs := h.stations x.station
    have hrole : ∀ q, (s.station x.station).current = some q ∨ (s.station x.station).next = some q → q ≠ p := fun q hr he => by
      obtain ⟨y, hy, -, hyc⟩ := hs.plan_of_role hr
      rw [he, hx] at hy
      cases hy
      rw [hnot] at hyc
      cases hyc
    have hentries : entriesOf unfinished t (some p) = cutEntries p l.placements ∧ entriesOf isIssued t (some p) = [] := by
      rw [entriesOf_some, entriesOf_some, c.plan, hnew]; exact entriesWhere_all_queued p l.placements
    have hnext : (s.station x.station).next = none := by
      rcases hroom with hr | hr
      · cases hn : (s.station x.station).next with
        | none => rfl
        | some q => exact absurd hr (hs.second q hn).1
      · exact hr
    have hroles : ∀ q, (t.station x.station).current = some q ∨ (t.station x.station).next = some q ↔
        ((s.station x.station).current = some q ∨ (s.station x.station).next = some q) ∨ q = p := fun q => by
      rw [c.station]
      simp only [takeCommitted, hnext]
      cases hcur : (s.station x.station).current with
      | none => simp [eq_comm]
      | some r => simp [eq_comm]
    refine ⟨fun q => ?_, fun q hq => ?_, ?_, ?_, ?_, ?_, ?_⟩
    · rw [hroles]
      by_cases he : q = p
      · subst he
        exact iff_of_true (.inr rfl) ⟨_, c.plan, rfl, hcc⟩
      · rw [c.others q he, ← hs.roles]
        exact or_iff_left he
    · rw [c.station] at hq ⊢
      simp only [takeCommitted, hnext] at hq ⊢
      cases hcur : (s.station x.station).current with
      | none => simp [hcur] at hq
      | some r =>
        simp only [hcur, Option.isNone_some, Bool.false_eq_true, if_false, Option.some.injEq] at hq ⊢
        subst hq
        refine ⟨by simp, fun e => hrole r (.inl hcur) (Option.some.inj e), fun y hy => ?_⟩
        rw [c.plan] at hy
        cases hy
        exact hcut
    · have hq := hs.queue
      rw [c.station]
      simp only [takeCommitted, hnext, hq]
      cases hcur : (s.station x.station).current with
      | none => simp [hentries.1]
      | some r => simp [hentries.1, c.others r (hrole r (.inl hcur))]
    · have hq := hs.issued
      rw [c.station]
      simp only [takeCommitted, hnext] at hq ⊢
      rw [← hq]
      cases hcur : (s.station x.station).current with
      | none => simp [hentries.2]
      | some r => simp [hentries.2, c.others r (hrole r (.inl hcur))]
    · rw [c.station]; exact hs.atWork
    · rw [show (t.station x.station).mode = (s.station x.station).mode by rw [c.station]; rfl]
      intro hm
      obtain ⟨r, y, hcur, hy, hyc⟩ := currentCutting_iff.mp (hs.loaded hm)
      refine currentCutting_iff.mpr ⟨r, y, ?_, (c.others r (hrole r (.inl hcur))).trans hy, hyc⟩
      rw [c.station]; simp [takeCommitted, hcur]
    · rw [show (t.station x.station).mode = (s.station x.station).mode by rw [c.station]; rfl]
      intro hm
      have hready := hs.ready hm
      cases hcur : (s.station x.station).current with
      | none =>
        have hcur' : (t.station x.station).current = some p := by rw [c.station]; simp [takeCommitted, hcur]
        rw [currentCutting_of_some hcur' c.plan]; exact hcut
      | some r =>
        have hcur' : (t.station x.station).current = some r := by rw [c.station]; simp [takeCommitted, hcur]
        obtain ⟨y, hy, -, -⟩ := hs.plan_of_role (.inl hcur)
        rw [currentCutting_of_some hcur hy] at hready
        rw [currentCutting_of_some hcur' ((c.others r (hrole r (.inl hcur))).trans hy)]; exact hready
  · refine (h.stations st).of_same (by rw [c.stations st hst]; exact .refl _) fun q => ?_
    by_cases he : q = p
    · subst he
      refine .inr ⟨fun y hy hyc => ?_, fun y hy _ => ?_⟩
      · rw [hx] at hy; cases hy; rw [hnot] at hyc; cases hyc
      · rw [c.plan] at hy; cases hy; exact fun e => hst e.symm
    · exact .inl (by rw [c.others q he]; exact .refl _)

/-- R70. -/
theorem Committed.records {p : Fin 16} {x : Plan} {kerf : Nat} {l : Layout} {rate : Nat} {s t : State}
    (c : Committed p x kerf l rate s t) (h : RecordsRead s) (hx : s.plan p = some x) (hphase : x.phase = .laid kerf l)
    (hroom : (s.station x.station).current = none ∨ (s.station x.station).next = none) : RecordsRead t := by
  obtain ⟨hb, hlayout, hidle, hcut⟩ := laid_views hphase
  obtain ⟨hcc, hcom, hcut', hlayout', hplace, hidle', hnew, hb'⟩ := committed_views (x := committedPlan x kerf l rate) rfl
  have hperm := (h.plans p).laid x hx hb l hlayout
  have hnodup := hperm.nodup_iff.mp ((h.plans p).set x hx)
  have hold : committedOf (s.plan p) = [] := by rw [hx]; exact committedOf_of_before hb
  refine ⟨?_, c.pieces_read h hx hphase, fun q => ?_, ⟨fun j b hb => ?_, fun q z hz => ?_⟩, ?_, c.station_read h hx hb hroom⟩
  · refine h.stock.of_same c.stock fun q => ?_
    by_cases he : q = p
    · subst he
      rw [c.plan, hx]
      simp only [slabView, Option.map_some, hcut, hcut']
      rfl
    · rw [c.others q he]
  · by_cases he : q = p
    · subst he
      rw [c.plan]
      refine ⟨fun y hy => ?_, ?_, fun y hy hby => ?_, fun y hy _ z hz => ?_, fun y hy hyc => ?_⟩
      · cases hy; exact (h.plans q).set x hx
      · rw [hnew, map_piece_withState]; exact (List.nodup_append'.mp hnodup).1
      · cases hy; rw [hb'] at hby; cases hby
      · cases hy
        rw [hplace] at hz
        obtain ⟨w, -, rfl⟩ := List.mem_map.mp hz
        exact .inl rfl
      · cases hy; rw [hcut'] at hyc; cases hyc
    · rw [c.others q he]; exact h.plans q
  · rw [c.jobs] at hb
    obtain ⟨b', hb', rfl⟩ := Option.map_eq_some_iff.mp hb
    have htotal := openTotal_of_update c.others j
    rw [hold, c.plan, hnew, countP_job_withState] at htotal
    have := h.counts.counts j b' hb'
    simp only [List.countP_nil] at htotal
    show b'.openCount + _ = _
    omega
  · have hsome : ∀ j, (t.job j).isSome = (s.job j).isSome := fun j => by rw [c.jobs]; simp
    rw [hsome]
    by_cases he : q = p
    · subst he
      rw [c.plan, hnew] at hz
      obtain ⟨w, hw, rfl⟩ := List.mem_map.mp hz
      have hset : w.piece ∈ x.pieces := hperm.mem_iff.mpr (List.mem_append_left _ (List.mem_map_of_mem hw))
      obtain ⟨y, hy, -⟩ := (h.pieces.held .drafted q w.piece).mp (by rw [hx]; exact (planHolds_of_before hb _ _).mpr ⟨rfl, hset⟩)
      exact (h.pieces.owned _ y hy).2
    · rw [c.others q he] at hz; exact h.counts.inUse q z hz
  · exact h.layouts.of_idle p c.queue (by rw [c.engine]) c.others (by rw [hx, hidle]) (by rw [c.plan]; exact hidle')

end Sys2Proof.Machine
end

section
/-! The stations' changes keep all the records in agreement: a plan that leaves its station (R74, R82, R163), a slab loaded (R87), a cut
issued or ended (R90, R93, R167), placements returned (R170) and a station's mode (R80, R81). -/

namespace Sys2Proof.Machine

/-! ## Facts about a station's plans -/

/-- R78, R85: the placements of a plan not yet CUTTING are none of them ISSUED. -/
theorem RecordsRead.no_issued_of_waiting {s : State} (h : RecordsRead s) {p : Fin 16}
    (hcut : ∀ y, s.plan p = some y → isCutting y = false) (z : Placement) (hz : z ∈ committedOf (s.plan p)) : isIssued z = false := by
  cases hy : s.plan p with
  | none => rw [hy] at hz; cases hz
  | some y =>
    rw [hy] at hz
    by_cases hc : isCommittedOrCutting y = true
    · rw [committedOf_of_after hc] at hz
      have hcom : isCommitted y = true := by simpa [isCommittedOrCutting, hcut y hy] using hc
      rcases (h.plans p).committed y hy hcom z hz with hst | hst <;> simp [isIssued, hst]
    · simp [committedOf, hc] at hz

theorem entriesWhere_eq_nil {f : Placement → Bool} {p : Fin 16} {l : List Placement} :
    entriesWhere f p l = [] ↔ ∀ z ∈ l, f z = false := by
  rw [List.eq_nil_iff_forall_not_mem]
  constructor
  · intro h z hz
    obtain ⟨i, hi⟩ := List.mem_iff_getElem?.mp hz
    by_contra hf
    exact h ⟨p, i, z.piece⟩ (mem_entriesWhere.mpr ⟨rfl, z, hi, by simpa using hf, rfl⟩)
  · intro h e he
    obtain ⟨-, z, hz, hf, -⟩ := mem_entriesWhere.mp he
    rw [h z (List.mem_of_getElem? hz)] at hf
    cases hf

/-- The next plan of a station has no ISSUED placement. -/
theorem RecordsRead.next_not_issued {s : State} (h : RecordsRead s) (st : Fin 6) :
    entriesOf isIssued s (s.station st).next = [] := by
  cases hn : (s.station st).next with
  | none => rfl
  | some q => exact entriesWhere_eq_nil.mpr fun z hz => h.no_issued_of_waiting ((h.stations st).second q hn).2.2 z hz

/-- R85: a station's issued entry is its one ISSUED placement, of its current plan, which is CUTTING. -/
theorem RecordsRead.issued_facts {s : State} (h : RecordsRead s) {st : Fin 6} {e : CutEntry} (he : (s.station st).issued = some e) :
    (s.station st).current = some e.plan ∧ entriesWhere isIssued e.plan (committedOf (s.plan e.plan)) = [e] ∧
      ∃ x z, s.plan e.plan = some x ∧ isCutting x = true ∧ x.station = st ∧ (placementsOf x)[e.index]? = some z ∧
        z.state = some .issued ∧ z.piece = e.piece := by
  have hs := h.stations st
  have hall := hs.issued
  rw [h.next_not_issued st, List.append_nil, he, Option.toList_some] at hall
  cases hcur : (s.station st).current with
  | none => rw [hcur] at hall; cases hall
  | some p =>
    rw [hcur, entriesOf_some] at hall
    obtain ⟨rfl, z, hz, hi, hp⟩ := mem_entriesWhere.mp (hall ▸ List.mem_singleton_self e : e ∈ entriesWhere isIssued p _)
    obtain ⟨x, hx, hxs, hxc⟩ := hs.plan_of_role (.inl hcur)
    have hcut : isCutting x = true := by
      by_contra hno
      have := h.no_issued_of_waiting (fun y hy => by rw [hx] at hy; cases hy; simpa using hno) z (List.mem_of_getElem? hz)
      rw [this] at hi
      cases hi
    refine ⟨rfl, hall, x, z, hx, hcut, hxs, ?_, by simpa [isIssued] using hi, hp⟩
    rw [hx, committedOf_of_after hxc] at hz
    exact hz

/-- A station with no issued entry has no ISSUED placement. -/
theorem RecordsRead.no_issued {s : State} (h : RecordsRead s) {st : Fin 6} (he : (s.station st).issued = none) {p : Fin 16}
    (hcur : (s.station st).current = some p) (z : Placement) (hz : z ∈ committedOf (s.plan p)) : isIssued z = false := by
  have hall := (h.stations st).issued
  rw [he, hcur, Option.toList_none, List.append_eq_nil_iff] at hall
  exact entriesWhere_eq_nil.mp hall.1 z hz

/-- A CUTTING plan is the current plan of its station. -/
theorem RecordsRead.current_of_cutting {s : State} (h : RecordsRead s) {p : Fin 16} {x : Plan} (hx : s.plan p = some x)
    (hcut : isCutting x = true) : (s.station x.station).current = some p := by
  have hs := h.stations x.station
  rcases (hs.roles p).mpr ⟨x, hx, rfl, isCutting_committedOrCutting hcut⟩ with hc | hn
  · exact hc
  · rw [(hs.second p hn).2.2 x hx] at hcut; cases hcut

/-- The entries of one plan's role all name that plan. -/
theorem filter_plan_entriesOf (f : Placement → Bool) (s : State) (o : Option (Fin 16)) (p : Fin 16) :
    (entriesOf f s o).filter (fun e => e.plan != p) = if o = some p then [] else entriesOf f s o := by
  cases o with
  | none => simp
  | some q =>
    by_cases hq : q = p
    · subst hq
      rw [if_pos rfl, List.filter_eq_nil_iff]
      intro e he
      simp [(mem_entriesWhere.mp he).1]
    · rw [if_neg (by simpa using hq), List.filter_eq_self]
      intro e he
      simp [(mem_entriesWhere.mp he).1, hq]

/-! ## A committed plan leaves (R74, R82, R163) -/

/-- R82: what of a station the agreement reads after a committed plan `p` has left it. -/
def stationWithout (p : Fin 16) (x : Station) : Station :=
  if x.current = some p then advanceStation (dropEntries p x)
  else { dropEntries p x with next := if x.next = some p then none else x.next }

/-- What becomes of the records outside the Stock Table when a committed plan leaves: the pieces named `ids` return to planning, the
counts fall, the slot is FREE and the station goes on without it. -/
structure PlanGone (p : Fin 16) (x : Plan) (ids : List PieceId) (s t : State) : Prop where
  pieces : t.jobs.pieces = (modPieces ids unplan s.jobs).pieces
  counts : ∀ j, (t.job j).map Job.openCount =
    (s.job j).map fun b => b.openCount - (placementsOf x).countP fun z => z.piece.job == j
  current : t.engine.current = s.engine.current
  queue : t.plans.queue = s.plans.queue
  plan : t.plan p = none
  others : ∀ q, q ≠ p → t.plan q = s.plan q
  station : StationSame (stationWithout p (s.station x.station)) (t.station x.station)
  stations : ∀ st, st ≠ x.station → StationSame (s.station st) (t.station st)

/-- R82: a station that has lost its current plan is not LOADED. -/
theorem advanceStation_not_loaded (x : Station) : (advanceStation x).mode ≠ .loaded := by
  unfold advanceStation
  dsimp only
  split
  · simp
  · assumption

theorem PlanGone.station_read {p : Fin 16} {x : Plan} {ids : List PieceId} {s t : State} (g : PlanGone p x ids s t) (h : RecordsRead s)
    (hx : s.plan p = some x) (hxc : isCommittedOrCutting x = true) (hissued : ∀ z ∈ placementsOf x, isIssued z = false) :
    StationRead t x.station := by
  have hs := h.stations x.station
  obtain ⟨hmode, hqueue, hcur, hnext, hiss⟩ := g.station
  have hother : ∀ q, q ≠ p → ((∃ y, t.plan q = some y ∧ y.station = x.station ∧ isCommittedOrCutting y = true) ↔
      ((s.station x.station).current = some q ∨ (s.station x.station).next = some q)) := fun q hq => by
    rw [g.others q hq]; exact (hs.roles q).symm
  have hself : ¬∃ y, t.plan p = some y ∧ y.station = x.station ∧ isCommittedOrCutting y = true := by rw [g.plan]; simp
  have empty : entriesOf isIssued s (some p) = [] := by
    rw [entriesOf_some, hx, committedOf_of_after hxc]; exact entriesWhere_eq_nil.mpr hissued
  rcases (hs.roles p).mpr ⟨x, hx, rfl, hxc⟩ with hc | hn
  · have hne : ∀ q, (s.station x.station).next = some q → q ≠ p := fun q hq e =>
      (hs.second q hq).2.1 (hc.trans (congrArg some e.symm))
    have hnotLoaded : (t.station x.station).mode ≠ .loaded := by
      rw [hmode, stationWithout, if_pos hc]; exact advanceStation_not_loaded _
    simp only [stationWithout, if_pos hc, advanceStation, dropEntries] at hqueue hcur hnext hiss
    have hentries : ∀ f, entriesOf f t (s.station x.station).next = entriesOf f s (s.station x.station).next := fun f =>
      entriesOf_congr f fun q hq => g.others q (hne q hq)
    have hnone : (s.station x.station).issued = none := by
      have := hs.issued
      rw [hc, empty, h.next_not_issued] at this
      simpa using this.symm
    refine ⟨fun q => ?_, fun q hq => ?_, ?_, ?_, ?_, ?_, ?_⟩
    · rw [hcur, hnext]
      by_cases hq : q = p
      · subst hq
        exact iff_of_false (by simpa using fun e => hne q e rfl) hself
      · have hq' : p ≠ q := fun e => hq e.symm
        rw [hother q hq, hc]; simp [hq']
    · rw [hnext] at hq; cases hq
    · rw [hqueue, hcur, hnext, hs.queue, List.filter_append, filter_plan_entriesOf, filter_plan_entriesOf, if_pos hc, hentries,
        entriesOf_none, List.append_nil, List.nil_append]
      exact if_neg fun e => hne p e rfl
    · rw [hcur, hnext, hentries, hiss, hnone, h.next_not_issued]; rfl
    · rw [hiss]; exact fun hi => absurd hnone hi
    · exact fun hm => absurd hm hnotLoaded
    · intro _
      by_contra hcut
      obtain ⟨q, y, hq, hy, hyc⟩ := currentCutting_iff.mp (by simpa using hcut)
      rw [hcur] at hq
      rw [g.others q (hne q hq)] at hy
      rw [(hs.second q hq).2.2 y hy] at hyc
      cases hyc
  · obtain ⟨-, hcp, -⟩ := hs.second p hn
    simp only [stationWithout, if_neg hcp, dropEntries, if_pos hn] at hmode hqueue hcur hnext hiss
    have hne : ∀ q, (s.station x.station).current = some q → q ≠ p := fun q hq e => hcp (hq.trans (congrArg some e))
    have hentries : ∀ f, entriesOf f t (s.station x.station).current = entriesOf f s (s.station x.station).current := fun f =>
      entriesOf_congr f fun q hq => g.others q (hne q hq)
    have hcut : currentCutting x.station t = currentCutting x.station s := by
      cases hcc : (s.station x.station).current with
      | none => rw [currentCutting_of_none hcc, currentCutting_of_none (hcur.trans hcc)]
      | some q =>
        obtain ⟨y, hy, -, -⟩ := hs.plan_of_role (.inl hcc)
        rw [currentCutting_of_some hcc hy, currentCutting_of_some (hcur.trans hcc) ((g.others q (hne q hcc)).trans hy)]
    refine ⟨fun q => ?_, fun q hq => ?_, ?_, ?_, ?_, ?_, ?_⟩
    · rw [hcur, hnext]
      by_cases hq : q = p
      · subst hq
        exact iff_of_false (by simpa using hcp) hself
      · have hq' : p ≠ q := fun e => hq e.symm
        rw [hother q hq, hn]; simp [hq']
    · rw [hnext] at hq; cases hq
    · rw [hqueue, hcur, hnext, hs.queue, List.filter_append, filter_plan_entriesOf, filter_plan_entriesOf, if_pos hn, if_neg hcp, hentries,
        entriesOf_none]
    · rw [hcur, hnext, hentries, hiss, ← hs.issued, hn, empty, entriesOf_none]
    · rw [hiss, hmode]; exact hs.atWork
    · rw [hmode, hcut]; exact hs.loaded
    · rw [hmode, hcut]; exact hs.ready

/-- A committed plan with no ISSUED placement leaves, its QUEUED pieces returned. -/
theorem PlanGone.records {p : Fin 16} {x : Plan} {ids : List PieceId} {s t : State} (g : PlanGone p x ids s t) (h : RecordsRead s)
    (hx : s.plan p = some x) (hxc : isCommittedOrCutting x = true) (hissued : ∀ z ∈ placementsOf x, isIssued z = false)
    (hids : ∀ i, i ∈ ids ↔ ∃ z ∈ placementsOf x, z.piece = i ∧ z.state = some .queued) (hstock : StockReads t) : RecordsRead t := by
  have hold : committedOf (s.plan p) = placementsOf x := by rw [hx]; exact committedOf_of_after hxc
  have hbefore : beforeCommit x = false := by simp [beforeCommit, hxc]
  have hinUse : ∀ j, (t.job j).isSome = (s.job j).isSome := fun j => by
    have := congrArg Option.isSome (g.counts j)
    simpa using this
  have hidle : layingOf (s.plan p) = none := by
    rw [hx]
    cases hp : x.phase <;> simp_all [layingOf, isCommittedOrCutting, isCommitted, isCutting]
  refine ⟨hstock, ?_, fun q => ?_, ⟨fun j b hb => ?_, fun q z hz => ?_⟩,
    h.layouts.of_idle p g.queue g.current g.others hidle (by rw [g.plan]; rfl), fun st => ?_⟩
  · refine h.pieces.of_released (p := p) (f := unplan) (fun _ => rfl) (fun _ => rfl) (fun _ => rfl) g.pieces
      (fun j hj => by rw [hinUse]; exact hj) g.others (fun i hi => ⟨.queued, ?_⟩)
      (fun q i _ => by rw [g.plan]; exact planHolds_none q i) (fun q i hi => ?_)
    · obtain ⟨z, hz, hzi, hst⟩ := (hids i).mp hi
      exact ⟨z, hold ▸ hz, hzi, hst⟩
    · rw [g.plan]
      refine iff_of_false (planHolds_none q i) ?_
      cases q with
      | drafted => rw [hx]; simp [PlanHolds, hbefore]
      | queued => rintro ⟨z, hz, hzi, hst⟩; exact hi ((hids i).mpr ⟨z, hold ▸ hz, hzi, hst⟩)
      | issued =>
        rintro ⟨z, hz, -, hst⟩
        have := hissued z (hold ▸ hz)
        simp [isIssued, hst] at this
      | unplanned | cut | held => exact id
  · by_cases he : q = p
    · subst he; rw [g.plan]; exact planOk_none
    · rw [g.others q he]; exact h.plans q
  · have hcount := g.counts j
    rw [hb, Option.map_some] at hcount
    obtain ⟨c, hc, hcb⟩ := Option.map_eq_some_iff.mp hcount.symm
    have htotal := openTotal_of_update g.others j
    rw [hold, g.plan, committedOf_none, List.countP_nil] at htotal
    have := h.counts.counts j c hc
    omega
  · rw [hinUse]
    by_cases he : q = p
    · subst he; rw [g.plan] at hz; cases hz
    · rw [g.others q he] at hz; exact h.counts.inUse q z hz
  · by_cases hst : st = x.station
    · subst hst; exact g.station_read h hx hxc hissued
    · refine (h.stations st).of_same (g.stations st hst) fun q => ?_
      by_cases he : q = p
      · subst he
        refine .inr ⟨fun y hy _ => ?_, fun y hy _ => (nomatch g.plan.symm.trans hy)⟩
        rw [hx] at hy
        cases hy
        exact fun e => hst e.symm
      · exact .inl (by rw [g.others q he]; exact .refl _)

/-- R82: the station's own records after its plan's departure, whatever the water's moves. -/
theorem planLeavesStation_frame (st : Fin 6) (p : Fin 16) (s : State) :
    RecordFrame (s.onStation st (stationWithout p)) (planLeavesStation st p s) := by
  unfold planLeavesStation
  split
  · rename_i hc
    have : s.onStation st (stationWithout p) = s.onStation st fun x => advanceStation (dropEntries p x) := by
      simp only [State.onStation]
      rw [show stationWithout p (s.stations.get st) = advanceStation (dropEntries p (s.stations.get st)) from if_pos hc]
    rw [this]
    exact (dropWater_water st _).records
  · rename_i hc
    have : s.onStation st (stationWithout p) = s.onStation st fun x =>
        { dropEntries p x with next := if x.next = some p then none else x.next } := by
      simp only [State.onStation]
      rw [show stationWithout p (s.stations.get st) = _ from if_neg hc]
    rw [this]
    exact .refl _

theorem mem_queuedPieces {l : List Placement} {i : PieceId} :
    i ∈ queuedPieces l ↔ ∃ z ∈ l, z.piece = i ∧ z.state = some .queued := by
  simp only [queuedPieces, List.mem_map, List.mem_filter, beq_iff_eq]
  exact ⟨fun ⟨z, ⟨hz, hst⟩, hi⟩ => ⟨z, hz, hi, hst⟩, fun ⟨z, hz, hi, hst⟩ => ⟨z, ⟨hz, hst⟩, hi⟩⟩

theorem RecordFrame.putPlan {s t : State} (h : RecordFrame s t) (p : Fin 16) (o : Option Plan) :
    RecordFrame (s.putPlan p o) (t.putPlan p o) where
  stock := h.stock
  pieces := h.pieces
  counts := h.counts
  current := h.current
  plans := by simp only [putPlan_plans, h.plans]
  station := h.station

/-- The pieces, the counts, the slab, the slot and the station's records once a committed plan is gone. -/
def withoutPlan (p : Fin 16) (x : Plan) (ids : List PieceId) (f : Stock → Stock) (s : State) : State :=
  (((uncountPlacements (placementsOf x) (unplanPieces ids s)).onStock f).putPlan p none).onStation x.station (stationWithout p)

theorem withoutPlan_stock (p : Fin 16) (x : Plan) (ids : List PieceId) (f : Stock → Stock) (s : State) :
    (withoutPlan p x ids f s).stock = f s.stock := by
  show f (uncountPlacements (placementsOf x) (unplanPieces ids s)).stock = _
  rw [uncountPlacements_state]
  rfl

theorem withoutPlan_gone (p : Fin 16) (x : Plan) (ids : List PieceId) (f : Stock → Stock) (s : State) :
    PlanGone p x ids s (withoutPlan p x ids f s) := by
  have hstate := uncountPlacements_state (placementsOf x) (unplanPieces ids s)
  have hpieces := uncountPlacements_pieces (placementsOf x) (unplanPieces ids s)
  have hjob := fun j => uncountPlacements_job j (placementsOf x) (unplanPieces ids s)
  unfold withoutPlan
  generalize uncountPlacements (placementsOf x) (unplanPieces ids s) = u at *
  refine ⟨hpieces, fun j => ?_, ?_, ?_, plan_putPlan_self .., fun q hq => ?_, ?_, fun st hst => ?_⟩
  · show (u.job j).map Job.openCount = _
    rw [hjob, Option.map_map]
    simp only [beq_eq_decide]
    rfl
  · show u.engine.current = _
    rw [hstate]; rfl
  · show u.plans.queue = _
    rw [hstate]; rfl
  · show ((u.onStock f).putPlan p none).plan q = _
    rw [plan_putPlan_ne _ _ _ _ hq]
    show u.plan q = _
    rw [hstate]; rfl
  · rw [station_onStation_self]
    show StationSame _ (stationWithout p (u.station x.station))
    rw [hstate]; exact .refl _
  · rw [station_onStation_ne _ _ _ _ hst]
    show StationSame _ (u.station st)
    rw [hstate]; exact .refl _

/-- R74: the unwinding of a COMMITTED plan. -/
theorem unwindCommitted_records {s : State} (h : RecordsRead s) {p : Fin 16} {x : Plan} {kerf rate : Nat} {l : Layout}
    (hx : s.plan p = some x) (hphase : x.phase = .committed kerf l rate) : RecordsRead (unwindCommitted p s) := by
  obtain ⟨hxc, hcom, hcut, -, -, -, -, -⟩ := committed_views hphase
  have g := withoutPlan_gone p x (queuedPieces (placementsOf x)) (releaseRecord x.serial) s
  have hframe : RecordFrame (withoutPlan p x (queuedPieces (placementsOf x)) (releaseRecord x.serial) s) (unwindCommitted p s) := by
    unfold unwindCommitted
    rw [hx]
    exact (planLeavesStation_frame x.station p _).putPlan p none
  refine hframe.records (g.records h hx hxc (fun z hz => ?_) (fun i => mem_queuedPieces) ?_)
  · rcases (h.plans p).committed x hx hcom z hz with hst | hst <;> simp [isIssued, hst]
  · exact releaseRecord_reads h.stock hx hcut (withoutPlan_stock ..) g.plan g.others

end Sys2Proof.Machine
end

section
/-! A close (R155 to R163), a load (R87), and a station's mode (R80, R81) keep all the records in agreement. -/

namespace Sys2Proof.Machine

/-! ## The close -/

theorem createRemnant_frame (parent : Slab) (len wid : Nat) (s : State) :
    RecordFrame (s.onStock (enterRemnant (createdRemnant parent len wid s.stock))) (createRemnant parent len wid s) := by
  unfold createRemnant
  dsimp only
  split
  · exact raiseNotice_records ..
  · exact .refl _

theorem remnantPlace_not_bed (k : Stock) (st : Fin 6) : remnantPlace k ≠ .bed st := by
  unfold remnantPlace
  split <;> exact fun e => nomatch e

/-- R19: the remnant created carries a serial no record has, and is of no plan. -/
theorem createRemnant_records {s : State} (h : RecordsRead s) (hlen : s.stock.slabs.length ≤ 512) (parent : Slab) (len wid : Nat) :
    RecordsRead (createRemnant parent len wid s) := by
  obtain ⟨i, hi, hfree, -⟩ := issuedSerial_firstFree h.stock.counter.1 h.stock.counter.2 hlen
  refine (createRemnant_frame parent len wid s).records (h.onStock ?_)
  refine enterRemnant_reads h.stock (x := createdRemnant parent len wid s.stock) hfree ?_ rfl rfl (remnantPlace_not_bed _) rfl rfl
  show _ ≤ issuedSerial s.stock ∧ issuedSerial s.stock ≤ _
  rw [hi]
  exact serialAfter_range ..

theorem settleRemnant_records {s : State} (h : RecordsRead s) (hlen : s.stock.slabs.length ≤ 512) (p : Fin 16) (c : Candidate)
    (parent : Slab) (choice : RemnantChoice) : RecordsRead (settleRemnant p c parent choice s) := by
  unfold settleRemnant
  split
  · exact h
  · exact (raiseNotice_records ..).records h
  · exact createRemnant_records h hlen ..

theorem plan_settleRemnant (q p : Fin 16) (c : Candidate) (parent : Slab) (choice : RemnantChoice) (s : State) :
    (settleRemnant p c parent choice s).plan q = s.plan q := by
  rw [(settleRemnant_state p c parent choice s).1]; rfl

theorem unplanPieces_nil (s : State) : unplanPieces [] s = s := by
  simp [unplanPieces, modPieces, State.onJobs]

/-- R155 to R163: a CUTTING plan with no open placement closes. -/
theorem closeSteps_records {s : State} (h : RecordsRead s) (hlen : s.stock.slabs.length ≤ 512) {p : Fin 16} {x : Plan}
    {kerf rate : Nat} {l : Layout} (b : Slab) (broke : Bool) (hx : s.plan p = some x) (hphase : x.phase = .cutting kerf l rate)
    (hdone : ∀ z ∈ l.placements, unfinished z = false) : RecordsRead (closeSteps p x l rate b broke s) := by
  obtain ⟨hxc, -, hcut, -, hplace, -, -, -⟩ := cutting_views hphase
  unfold closeSteps
  dsimp only
  generalize wastePool _ _ _ = pool
  have h2 := settleRemnant_records h hlen p l.candidate b (remnantChoice broke l.candidate b.gen s.stock.slabs.length)
  have hp2 := plan_settleRemnant p p l.candidate b (remnantChoice broke l.candidate b.gen s.stock.slabs.length) s
  generalize settleRemnant p l.candidate b _ s = s2 at *
  have hframe := (wasteCharges_cost rate pool l.placements s2).records
  have h5 := hframe.records h2
  have hp5 : (wasteCharges rate pool l.placements s2).plan p = some x := (hframe.plan p).trans (hp2.trans hx)
  generalize wasteCharges rate pool l.placements s2 = s5 at *
  have g := withoutPlan_gone p x [] (dropSlab x.serial) s5
  have hleft : RecordFrame (withoutPlan p x [] (dropSlab x.serial) s5)
      (planLeavesStation x.station p (letGo p x.serial l.placements s5)) := by
    have : withoutPlan p x [] (dropSlab x.serial) s5 =
        (letGo p x.serial l.placements s5).onStation x.station (stationWithout p) := by
      rw [withoutPlan, unplanPieces_nil, hplace]; rfl
    rw [this]
    exact planLeavesStation_frame ..
  refine (hleft.trans (raiseNotice_records ..)).records (g.records h5 hp5 hxc (fun z hz => ?_) (fun i => ?_) ?_)
  · rw [hplace] at hz
    have := hdone z hz
    simp only [unfinished, Bool.or_eq_false_iff] at this
    exact this.2
  · refine iff_of_false (List.not_mem_nil) ?_
    rintro ⟨z, hz, -, hst⟩
    rw [hplace] at hz
    have := hdone z hz
    simp [unfinished, hst] at this
  · exact retireSlab_reads h5.stock hp5 hcut (withoutPlan_stock ..) g.plan g.others

theorem closePlan_records {s : State} (h : RecordsRead s) (hlen : s.stock.slabs.length ≤ 512) {p : Fin 16} (broke : Bool)
    (hdone : ∀ z ∈ committedOf (s.plan p), unfinished z = false) : RecordsRead (closePlan p broke s).state := by
  unfold closePlan
  split
  · rename_i x hx
    split
    · rename_i kerf l rate hphase
      rw [hx, (cutting_views hphase).2.2.2.2.2.2.1] at hdone
      split
      · exact closeSteps_records h hlen _ broke hx hphase hdone
      · exact h
    · exact h
  · exact h

theorem committedOf_subset {s : State} {p : Fin 16} {z : Placement} (hz : z ∈ committedOf (s.plan p)) : z ∈ s.placements p := by
  unfold State.placements
  cases hx : s.plan p with
  | none => rw [hx] at hz; cases hz
  | some x =>
    rw [hx] at hz
    by_cases hc : isCommittedOrCutting x = true
    · rwa [committedOf_of_after hc] at hz
    · simp [committedOf, hc] at hz

/-- R154. -/
theorem closeCheck_records {s : State} (h : RecordsRead s) (hlen : s.stock.slabs.length ≤ 512) (p : Fin 16) :
    RecordsRead (closeCheck p s).state := by
  unfold closeCheck
  split
  · exact h
  · rename_i hno
    refine closePlan_records h hlen false fun z hz => ?_
    have hno' : (s.placements p).any unfinished = false := by simpa using hno
    simpa using List.any_eq_false.mp hno' z (committedOf_subset hz)

/-! ## Modes (R80, R81) -/

/-- A station with no cut issued takes another mode. -/
theorem onStation_mode_records {s : State} (h : RecordsRead s) {st : Fin 6} {f : Station → Station} {m : StationMode}
    (hf : StationSame { s.station st with mode := m } (f (s.station st))) (hissued : (s.station st).issued = none)
    (hloaded : m = .loaded → currentCutting st s = true) (hready : m = .ready → currentCutting st s = false) :
    RecordsRead (s.onStation st f) := by
  refine ⟨h.stock.of_same rfl fun _ => rfl, h.pieces.of_same rfl (fun _ hj => hj) fun _ _ _ => Iff.rfl, h.plans,
    h.counts.of_congr (fun _ => rfl) fun _ => rfl, h.layouts.of_same rfl rfl fun _ => rfl, fun q => ?_⟩
  by_cases hq : q = st
  · subst hq
    obtain ⟨hmode, hqueue, hcur, hnext, hiss⟩ := hf
    have hs := h.stations q
    have hcut : currentCutting q (s.onStation q f) = currentCutting q s := by
      unfold currentCutting
      rw [station_onStation_self, hcur]
      rfl
    rw [← station_onStation_self s q f] at hmode hqueue hcur hnext hiss
    refine ⟨fun p => ?_, fun p hp => ?_, ?_, ?_, ?_, ?_, ?_⟩
    · rw [hcur, hnext]; exact hs.roles p
    · rw [hnext] at hp; rw [hcur]; exact hs.second p hp
    · rw [hqueue, hcur, hnext]; exact hs.queue
    · rw [hiss, hcur, hnext]; exact hs.issued
    · rw [hiss]; exact fun hi => absurd hissued hi
    · rw [hmode, hcut]; exact hloaded
    · rw [hmode, hcut]; exact hready
  · refine (h.stations q).of_same ?_ fun _ => .inl (.refl _)
    rw [station_onStation_ne _ _ _ _ hq]; exact .refl _

/-- R80. -/
theorem online_records {s : State} (h : RecordsRead s) {st : Fin 6} (maxThick : Nat) (hmode : (s.station st).mode = .offline) :
    RecordsRead (s.onStation st fun x => { x with maxThick := maxThick, mode := if currentCutting st s then .loaded else .ready }) := by
  have hissued : (s.station st).issued = none := by
    by_contra hi
    rw [(h.stations st).atWork hi] at hmode
    cases hmode
  refine onStation_mode_records h ⟨rfl, rfl, rfl, rfl, rfl⟩ hissued (fun hm => ?_) (fun hm => ?_)
  · by_contra hc
    rw [if_neg hc] at hm
    cases hm
  · by_contra hc
    rw [if_pos (by simpa using hc)] at hm
    cases hm

/-- R81. -/
theorem takeOffline_records {s : State} (h : RecordsRead s) {st : Fin 6} (hissued : (s.station st).issued = none) :
    RecordsRead (takeOffline st s) :=
  (dropWater_water st _).records.records
    (onStation_mode_records h (m := .offline) ⟨rfl, rfl, rfl, rfl, rfl⟩ hissued (fun hm => nomatch hm) fun hm => nomatch hm)

theorem issued_takeOffline (q st : Fin 6) (s : State) : ((takeOffline st s).station q).issued = (s.station q).issued := by
  refine ((dropWater_water st (s.onStation st fun x => { x with mode := .offline })).station q).same.issued.trans ?_
  by_cases hq : q = st
  · subst hq; rw [station_onStation_self]
  · rw [station_onStation_ne _ _ _ _ hq]

/-- R187: the stations at work become OFFLINE, one after another. -/
theorem closeStations_records {s : State} (h : RecordsRead s) (hissued : ∀ st, (s.station st).issued = none) :
    RecordsRead (closeStations s) := by
  unfold closeStations
  generalize allStations.filter (atWork s) = l
  induction l generalizing s with
  | nil => exact h
  | cons st l ih =>
    exact ih (takeOffline_records h (hissued st)) fun q => (issued_takeOffline q st s).trans (hissued q)

/-! ## LOAD_SLAB (R87) -/

/-- R87: a READY station's current plan is COMMITTED there. -/
theorem RecordsRead.committed_of_ready {s : State} (h : RecordsRead s) {st : Fin 6} {p : Fin 16} (hmode : (s.station st).mode = .ready)
    (hcur : (s.station st).current = some p) :
    ∃ x k l r, s.plan p = some x ∧ x.station = st ∧ x.phase = .committed k l r := by
  obtain ⟨x, hx, hxs, hxc⟩ := (h.stations st).plan_of_role (.inl hcur)
  have hcut := (h.stations st).ready hmode
  rw [currentCutting_of_some hcur hx] at hcut
  refine ⟨x, ?_⟩
  cases hp : x.phase with
  | committed k l r => exact ⟨k, l, r, hx, hxs, rfl⟩
  | draft | laying n | laid k l | cutting k l r => simp_all [isCommittedOrCutting, isCommitted, isCutting]

/-- R87. -/
theorem loadPlan_records {s : State} (h : RecordsRead s) {st : Fin 6} {p : Fin 16} {b : Slab} (hmode : (s.station st).mode = .ready)
    (hcur : (s.station st).current = some p) (hserial : (s.plan p).map (fun x => x.serial) = some b.serial)
    (hb : findSlab b.serial s.stock = some b) : RecordsRead (loadPlan p b st s) := by
  obtain ⟨x, k, l, r, hx, rfl, hphase⟩ := h.committed_of_ready hmode hcur
  obtain ⟨hxc, hcom, hcut, -, hplace, hidle, hold, hb0⟩ := committed_views hphase
  let y : Plan := { x with phase := .cutting k l r }
  obtain ⟨hyc, -, hycut, -, hyplace, hyidle, hnew, hyb0⟩ := cutting_views (x := y) rfl
  have hxserial : x.serial = b.serial := by simpa [hx] using hserial
  have ht : loadPlan p b x.station s =
      ((s.onStock (placeOnBed b x.station)).putPlan p (some y)).onStation x.station fun z => { z with mode := .loaded } := by
    have hx' : (s.onStock (placeOnBed b x.station)).plan p = some x := hx
    simp [loadPlan, State.modPlan, hx', startCutting, hphase, y]
  rw [ht]
  generalize htt : ((s.onStock (placeOnBed b x.station)).putPlan p (some y)).onStation x.station
    (fun z => { z with mode := .loaded }) = t
  have hp : t.plan p = some y := htt ▸ plan_putPlan_self ..
  have hq : ∀ q, q ≠ p → t.plan q = s.plan q := fun q he => htt ▸ plan_putPlan_ne (s.onStock (placeOnBed b x.station)) _ _ _ he
  have hplaced : ∀ q, committedOf (t.plan q) = committedOf (s.plan q) := fun q => by
    by_cases he : q = p
    · subst he; rw [hp, hx, hold, hnew]
    · rw [hq q he]
  have hstation : t.station x.station = { s.station x.station with mode := .loaded } := by
    rw [← htt, station_onStation_self]; rfl
  have hs := h.stations x.station
  refine ⟨placeOnBed_reads (y' := y) h.stock hx hb hxserial hxserial hycut (by rw [← htt]; rfl) hp hq,
    h.pieces.of_same (by rw [← htt]; rfl) (fun j hj => by rw [← htt]; exact hj) (fun q p' i => ?_), fun q => ?_,
    h.counts.of_congr (fun q => by rw [hplaced]) (fun j => by rw [← htt]; rfl),
    h.layouts.of_idle p (by rw [← htt]; rfl) (by rw [← htt]; rfl) hq (by rw [hx, hidle]) (by rw [hp, hyidle]), fun st => ?_⟩
  · by_cases he : p' = p
    · subst he
      cases q with
      | drafted => rw [hp, hx]; simp [PlanHolds, hb0, hyb0]
      | queued | issued => simp only [PlanHolds, hplaced]
      | unplanned | cut | held => exact Iff.rfl
    · rw [hq p' he]
  · by_cases he : q = p
    · subst he
      have hok := h.plans q
      rw [hp]
      refine ⟨fun z hz => ?_, ?_, fun z hz hzb => ?_, fun z hz hzc => ?_, fun z hz _ w hw => ?_⟩
      · cases hz; exact hok.set x hx
      · rw [← hp, hplaced]; exact hok.distinct
      · cases hz; rw [hyb0] at hzb; cases hzb
      · cases hz; simp [isCommitted, y] at hzc
      · cases hz
        rw [hyplace, ← hplace] at hw
        rcases hok.committed x hx hcom w hw with hst | hst <;> simp [hst]
    · rw [hq q he]; exact h.plans q
  · by_cases hst : st = x.station
    · subst hst
      have hentries : ∀ f o, entriesOf f t o = entriesOf f s o := fun f o => by
        cases o with
        | none => rfl
        | some q => simp only [entriesOf_some, hplaced]
      have hcutting : currentCutting x.station t = true := by
        have hcur' : (t.station x.station).current = some p := by rw [hstation]; exact hcur
        rw [currentCutting_of_some hcur' hp]; exact hycut
      refine ⟨fun q => ?_, fun q hn => ?_, ?_, ?_, ?_, fun _ => hcutting, fun hm => ?_⟩
      · rw [hstation]
        refine (hs.roles q).trans ?_
        by_cases he : q = p
        · subst he
          exact iff_of_true ⟨x, hx, rfl, hxc⟩ ⟨y, hp, rfl, hyc⟩
        · rw [hq q he]
      · rw [hstation] at hn ⊢
        obtain ⟨h1, h2, h3⟩ := hs.second q hn
        refine ⟨h1, h2, fun z hz => ?_⟩
        have he : q ≠ p := fun e => h2 (e ▸ hcur)
        rw [hq q he] at hz
        exact h3 z hz
      · rw [hstation, hentries, hentries]; exact hs.queue
      · rw [hstation, hentries, hentries]; exact hs.issued
      · rw [hstation]; exact fun _ => rfl
      · rw [hstation] at hm; cases hm
    · refine (h.stations st).of_same ?_ fun q => ?_
      · rw [← htt, station_onStation_ne _ _ _ _ hst]; exact .refl _
      · by_cases he : q = p
        · subst he
          refine .inr ⟨fun z hz _ => ?_, fun z hz _ => ?_⟩
          · rw [hx] at hz; cases hz; exact fun e => hst e.symm
          · rw [hp] at hz; cases hz; exact fun e => hst e.symm
        · exact .inl (by rw [hq q he]; exact .refl _)

end Sys2Proof.Machine
end

section
/-! New states of a CUTTING plan's placements keep all the records in agreement: a cut issued (R90), a cut ended (R93, R167), and the
QUEUED placements of a broken slab returned (R170). -/

namespace Sys2Proof.Machine

/-! ## Placements restated -/

/-- R24, R59: the state of a placement whose piece has a state in work on a committed plan. -/
def placeStateOf : PieceState → Option PlaceState
  | .queued => some .queued
  | .issued => some .issued
  | _ => none

/-- A committed plan holds the pieces of its QUEUED and ISSUED placements. -/
theorem planHolds_of_after {x : Plan} (h : isCommittedOrCutting x = true) (q : PieceState) (i : PieceId) :
    PlanHolds (some x) q i ↔ ∃ a, placeStateOf q = some a ∧ ∃ z ∈ placementsOf x, z.piece = i ∧ z.state = some a := by
  have hb : beforeCommit x = false := by simp [beforeCommit, h]
  cases q <;> simp [PlanHolds, placeStateOf, committedOf_of_after h, hb]

/-- In a list in which no piece stands twice, with the placement at one index given a state. -/
theorem exists_modify_iff {l : List Placement} (hnodup : (l.map fun z => z.piece).Nodup) {k : Nat} {z : Placement}
    (hz : l[k]? = some z) (a b : PlaceState) (i : PieceId) :
    (∃ w ∈ l.modify k (withState a), w.piece = i ∧ w.state = some b) ↔
      if i = z.piece then a = b else ∃ w ∈ l, w.piece = i ∧ w.state = some b := by
  have hget : ∀ (j : Nat) (w : Placement), l[j]? = some w → w.piece = z.piece → j = k := fun j w hw he => by
    have hj : j < (l.map fun z => z.piece).length := by
      obtain ⟨hj, -⟩ := List.getElem?_eq_some_iff.mp hw
      simpa using hj
    refine (List.getElem?_inj hj hnodup).mp ?_
    simp [hw, hz, he]
  have hmem : ∀ w, w ∈ l.modify k (withState a) ↔ ∃ j v, l[j]? = some v ∧ (if k = j then withState a v else v) = w := fun w => by
    rw [List.mem_iff_getElem?]
    simp only [List.getElem?_modify, Option.map_eq_map, Option.map_eq_some_iff]
  simp only [hmem]
  by_cases hi : i = z.piece
  · subst hi
    rw [if_pos rfl]
    constructor
    · rintro ⟨w, ⟨j, v, hv, rfl⟩, hp, hs⟩
      have hvp : v.piece = z.piece := by
        split at hp <;> exact hp
      obtain rfl := hget j v hv hvp
      simpa [withState] using hs
    · rintro rfl
      exact ⟨withState a z, ⟨k, z, hz, by simp⟩, rfl, rfl⟩
  · rw [if_neg hi]
    constructor
    · rintro ⟨w, ⟨j, v, hv, rfl⟩, hp, hs⟩
      by_cases hj : k = j
      · subst hj
        rw [hz] at hv
        cases hv
        rw [if_pos rfl] at hp
        exact absurd hp.symm hi
      · rw [if_neg hj] at hp hs
        exact ⟨v, List.mem_of_getElem? hv, hp, hs⟩
    · rintro ⟨v, hv, hp, hs⟩
      obtain ⟨j, hj⟩ := List.mem_iff_getElem?.mp hv
      refine ⟨v, ⟨j, v, hj, if_neg fun e => hi ?_⟩, hp, hs⟩
      subst e
      rw [hz] at hj
      cases hj
      exact hp.symm

theorem map_piece_modify (l : List Placement) (k : Nat) (a : PlaceState) :
    (l.modify k (withState a)).map (fun z => z.piece) = l.map fun z => z.piece := by
  refine List.ext_getElem? fun j => ?_
  simp only [List.getElem?_map, List.getElem?_modify, Option.map_eq_map, Option.map_map]
  congr 1
  funext z
  simp only [Function.comp]
  split <;> rfl

/-- What of a CUTTING plan stands when its placements take new states. -/
structure Restated (x x' : Plan) : Prop where
  serial : x'.serial = x.serial
  station : x'.station = x.station
  set : x'.pieces = x.pieces
  cutting : isCutting x' = true
  pieces : (placementsOf x').map (fun z => z.piece) = (placementsOf x).map fun z => z.piece
  states : ∀ z ∈ placementsOf x', z.state ≠ none

theorem onPlacements_cutting {x : Plan} {kerf rate : Nat} {l : Layout} (h : x.phase = .cutting kerf l rate)
    (f : List Placement → List Placement) :
    onPlacements f x = { x with phase := .cutting kerf { l with placements := f l.placements } rate } := by
  simp [onPlacements, onLayout, h]

theorem exists_cutting {x : Plan} (h : isCutting x = true) : ∃ kerf l rate, x.phase = .cutting kerf l rate := by
  cases hp : x.phase <;> simp_all [isCutting]

theorem restated_onPlacements {x : Plan} (hcut : isCutting x = true) {f : List Placement → List Placement}
    (hpieces : (f (placementsOf x)).map (fun z => z.piece) = (placementsOf x).map fun z => z.piece)
    (hstates : ∀ z ∈ f (placementsOf x), z.state ≠ none) :
    Restated x (onPlacements f x) ∧ placementsOf (onPlacements f x) = f (placementsOf x) := by
  obtain ⟨kerf, l, rate, hphase⟩ := exists_cutting hcut
  have hl : placementsOf x = l.placements := (cutting_views hphase).2.2.2.2.1
  rw [hl] at hpieces hstates ⊢
  rw [onPlacements_cutting hphase]
  obtain ⟨-, -, hcut', -, hplace, -, -, -⟩ := cutting_views
    (x := { x with phase := .cutting kerf { l with placements := f l.placements } rate }) rfl
  exact ⟨⟨rfl, rfl, rfl, hcut', by rw [hplace, hl]; exact hpieces, by rw [hplace]; exact hstates⟩, hplace⟩

/-- The change of one CUTTING plan's placements, with its station's queue and issued entry. -/
structure Recut (p : Fin 16) (x x' : Plan) (s t : State) : Prop where
  restated : Restated x x'
  plan : t.plan p = some x'
  others : ∀ q, q ≠ p → t.plan q = s.plan q
  stock : t.stock = s.stock
  counts : ∀ j, (t.job j).map Job.openCount = (s.job j).map Job.openCount
  current : t.engine.current = s.engine.current
  layouts : t.plans.queue = s.plans.queue
  mode : (t.station x.station).mode = (s.station x.station).mode
  role : (t.station x.station).current = (s.station x.station).current
  nextRole : (t.station x.station).next = (s.station x.station).next
  stations : ∀ st, st ≠ x.station → StationSame (s.station st) (t.station st)

theorem Recut.records {p : Fin 16} {x x' : Plan} {s t : State} (c : Recut p x x' s t) (h : RecordsRead s) (hx : s.plan p = some x)
    (hcut : isCutting x = true) (hpieces : PiecesRead t)
    (hqueue : (t.station x.station).queue =
      entriesWhere unfinished p (placementsOf x') ++ entriesOf unfinished s (s.station x.station).next)
    (hissued : entriesWhere isIssued p (placementsOf x') = (t.station x.station).issued.toList)
    (hwork : (t.station x.station).issued ≠ none → (s.station x.station).mode = .loaded) : RecordsRead t := by
  have hxc := isCutting_committedOrCutting hcut
  have hxc' := isCutting_committedOrCutting c.restated.cutting
  have hold : committedOf (s.plan p) = placementsOf x := by rw [hx]; exact committedOf_of_after hxc
  have hnew : committedOf (t.plan p) = placementsOf x' := by rw [c.plan]; exact committedOf_of_after hxc'
  have idle : ∀ {y : Plan}, isCutting y = true → layingOf (some y) = none := fun {y} hy => by
    obtain ⟨k, l, r, hp⟩ := exists_cutting hy
    exact (cutting_views hp).2.2.2.2.2.1
  have hs := h.stations x.station
  have hcur := h.current_of_cutting hx hcut
  refine ⟨?_, hpieces, fun q => ?_, h.counts.of_congr (fun q => ?_) c.counts,
    h.layouts.of_idle p c.layouts c.current c.others (by rw [hx]; exact idle hcut) (by rw [c.plan]; exact idle c.restated.cutting),
    fun st => ?_⟩
  · refine h.stock.of_same c.stock fun q => ?_
    by_cases he : q = p
    · subst he
      rw [c.plan, hx]
      simp only [slabView, Option.map_some, hcut, c.restated.cutting, c.restated.serial, c.restated.station]
    · rw [c.others q he]
  · by_cases he : q = p
    · subst he
      have hok := h.plans q
      have hb' : beforeCommit x' = false := by simp [beforeCommit, hxc']
      have hcom' : isCommitted x' = false := by
        obtain ⟨k, l, r, hp⟩ := exists_cutting c.restated.cutting
        exact (cutting_views hp).2.1
      rw [c.plan]
      refine ⟨fun z hz => ?_, ?_, fun z hz hzb => ?_, fun z hz hzc => ?_, fun z hz _ => ?_⟩
      · cases hz; rw [c.restated.set]; exact hok.set x hx
      · rw [← c.plan, hnew, c.restated.pieces, ← hold]; exact hok.distinct
      · cases hz; rw [hb'] at hzb; cases hzb
      · cases hz; rw [hcom'] at hzc; cases hzc
      · cases hz; exact c.restated.states
    · rw [c.others q he]; exact h.plans q
  · by_cases he : q = p
    · subst he; rw [hold, hnew, c.restated.pieces]
    · rw [c.others q he]
  · by_cases hst : st = x.station
    · subst hst
      have hnext : ∀ q, (s.station x.station).next = some q → q ≠ p := fun q hq e => (hs.second q hq).2.1 (e ▸ hcur)
      have hentries : ∀ f, entriesOf f t (s.station x.station).next = entriesOf f s (s.station x.station).next := fun f =>
        entriesOf_congr f fun q hq => c.others q (hnext q hq)
      have hcutting : currentCutting x.station t = true := by
        rw [currentCutting_of_some (c.role.trans hcur) c.plan]; exact c.restated.cutting
      refine ⟨fun q => ?_, fun q hq => ?_, ?_, ?_, ?_, fun _ => hcutting, fun hm => ?_⟩
      · rw [c.role, c.nextRole]
        refine (hs.roles q).trans ?_
        by_cases he : q = p
        · subst he
          exact iff_of_true ⟨x, hx, rfl, hxc⟩ ⟨x', c.plan, c.restated.station, hxc'⟩
        · rw [c.others q he]
      · rw [c.nextRole] at hq
        rw [c.role, c.others q (hnext q hq)]
        exact hs.second q hq
      · rw [c.role, c.nextRole, hcur, entriesOf_some, hnew, hentries]; exact hqueue
      · rw [c.role, c.nextRole, hcur, entriesOf_some, hnew, hentries, h.next_not_issued, List.append_nil]; exact hissued
      · rw [c.mode]; exact hwork
      · rw [c.mode] at hm
        have := hs.ready hm
        rw [currentCutting_of_some hcur hx, hcut] at this
        cases this
    · refine (h.stations st).of_same (c.stations st hst) fun q => ?_
      by_cases he : q = p
      · subst he
        refine .inr ⟨fun z hz _ => ?_, fun z hz _ => ?_⟩
        · rw [hx] at hz; cases hz; exact fun e => hst e.symm
        · rw [c.plan] at hz; cases hz; rw [c.restated.station]; exact fun e => hst e.symm
      · exact .inl (by rw [c.others q he]; exact .refl _)

/-! ## One placement given a state -/

/-- The plan's placements, its entry's piece and its station's queue and issued entry, as one entry's placement takes the state `a`. -/
def restateEntry (st : Fin 6) (e : CutEntry) (a : PlaceState) (f : Piece → Piece) (g : Station → Station) (s : State) : State :=
  ((setPlacement e.plan e.index a s).onJobs (modPieces [e.piece] f)).onStation st g

theorem restateEntry_recut {s : State} {st : Fin 6} {e : CutEntry} {a : PlaceState} {f : Piece → Piece} {g : Station → Station}
    {x : Plan} (h : RecordsRead s) (hx : s.plan e.plan = some x) (hcut : isCutting x = true) (hst : x.station = st)
    (hg : ∀ y, (g y).mode = y.mode ∧ (g y).current = y.current ∧ (g y).next = y.next) :
    Recut e.plan x (onPlacements (fun l => l.modify e.index (withState a)) x) s (restateEntry st e a f g s) ∧
      placementsOf (onPlacements (fun l => l.modify e.index (withState a)) x) =
        (placementsOf x).modify e.index (withState a) := by
  subst hst
  have hstates : ∀ z ∈ (placementsOf x).modify e.index (withState a), z.state ≠ none := fun z hz => by
    obtain ⟨j, hj⟩ := List.mem_iff_getElem?.mp hz
    rw [List.getElem?_modify] at hj
    obtain ⟨w, hw, rfl⟩ := Option.map_eq_some_iff.mp hj
    split
    · simp [withState]
    · exact (h.plans e.plan).cutting x hx hcut w (List.mem_of_getElem? hw)
  obtain ⟨hre, hpl⟩ := restated_onPlacements hcut (f := fun l => l.modify e.index (withState a)) (map_piece_modify _ _ _) hstates
  have hstate := setPlacement_state e.plan e.index a s
  have hplan : ∀ q, (setPlacement e.plan e.index a s).plan q =
      if q = e.plan then (s.plan q).map (onPlacements fun l => l.modify e.index (withState a)) else s.plan q :=
    fun q => plan_modPlan ..
  have hqueue : (setPlacement e.plan e.index a s).plans.queue = s.plans.queue := modPlan_queue ..
  unfold restateEntry
  generalize setPlacement e.plan e.index a s = u at *
  refine ⟨⟨hre, ?_, fun q hq => ?_, by rw [hstate]; rfl, fun j => by rw [hstate]; rfl, by rw [hstate]; rfl, hqueue, ?_, ?_, ?_,
    fun q hq => ?_⟩, hpl⟩
  · show u.plan e.plan = _
    rw [hplan, if_pos rfl, hx]; rfl
  · show u.plan q = _
    rw [hplan, if_neg hq]
  · rw [station_onStation_self, (hg _).1, hstate]; rfl
  · rw [station_onStation_self, (hg _).2.1, hstate]; rfl
  · rw [station_onStation_self, (hg _).2.2, hstate]; rfl
  · rw [station_onStation_ne _ _ _ _ hq, hstate]; exact .refl _

/-- R59: which pieces the plan holds once one placement has a state. -/
theorem planHolds_modify {s : State} (h : RecordsRead s) {p : Fin 16} {x x' : Plan} (hx : s.plan p = some x) (hcut : isCutting x = true)
    (hcut' : isCutting x' = true) {k : Nat} {z : Placement} (hz : (placementsOf x)[k]? = some z) (a : PlaceState)
    (hpl : placementsOf x' = (placementsOf x).modify k (withState a)) (q : PieceState) (i : PieceId) :
    PlanHolds (some x') q i ↔ if i = z.piece then placeStateOf q = some a else PlanHolds (s.plan p) q i := by
  have hxc := isCutting_committedOrCutting hcut
  have hdistinct : ((placementsOf x).map fun z => z.piece).Nodup := by
    have := (h.plans p).distinct
    rwa [hx, committedOf_of_after hxc] at this
  rw [planHolds_of_after (isCutting_committedOrCutting hcut'), hpl, hx, planHolds_of_after hxc]
  simp only [exists_modify_iff hdistinct hz]
  split
  · constructor
    · rintro ⟨b, hb, rfl⟩; exact hb
    · exact fun hb => ⟨a, hb, rfl⟩
  · exact Iff.rfl

theorem entriesWhere_modify {f g : Placement → Bool} {p : Fin 16} {l : List Placement} {k : Nat} {a : PlaceState} (c : CutEntry → Bool)
    (hself : ∀ z, l[k]? = some z → f (withState a z) = (g z && c ⟨p, k, z.piece⟩))
    (hother : ∀ i z, i ≠ k → l[i]? = some z → f z = (g z && c ⟨p, i, z.piece⟩)) :
    entriesWhere f p (l.modify k (withState a)) = (entriesWhere g p l).filter c := by
  rw [modify_eq_mapIdx]
  refine entriesWhere_mapIdx c (fun i z => ?_) (fun i z hz => ?_)
  · split <;> rfl
  · by_cases hi : k = i
    · subst hi; rw [if_pos rfl]; exact hself z hz
    · rw [if_neg hi]; exact hother i z (fun e => hi e.symm) hz

/-- R90: a QUEUED entry of the current plan of a LOADED station with no cut issued is issued. -/
theorem issueEntry_records {s : State} (h : RecordsRead s) {st : Fin 6} {e : CutEntry} (hmode : (s.station st).mode = .loaded)
    (hissued : (s.station st).issued = none) (hcur : (s.station st).current = some e.plan) (hmem : e ∈ (s.station st).queue)
    (hstate : entryState e s = some .queued) {g : Station → Station}
    (hg : ∀ y, StationSame { y with issued := some e } (g y)) :
    RecordsRead (restateEntry st e .issued issuePiece g s) := by
  have hs := h.stations st
  obtain ⟨p, x, hp, hx, hcut⟩ := currentCutting_iff.mp (hs.loaded hmode)
  obtain rfl : e.plan = p := Option.some.inj (hcur.symm.trans hp)
  obtain ⟨x', hx', hst, -⟩ := hs.plan_of_role (.inl hcur)
  obtain rfl : x = x' := Option.some.inj (hx.symm.trans hx')
  have hxc := isCutting_committedOrCutting hcut
  have hold : committedOf (s.plan e.plan) = placementsOf x := by rw [hx]; exact committedOf_of_after hxc
  have hnext : ∀ q, (s.station st).next = some q → q ≠ e.plan := fun q hq eq => (hs.second q hq).2.1 (eq ▸ hcur)
  have hopen : e ∈ entriesWhere unfinished e.plan (placementsOf x) := by
    rw [hs.queue, List.mem_append, hcur, entriesOf_some, hold] at hmem
    refine hmem.resolve_right fun hn => ?_
    cases hnx : (s.station st).next with
    | none => rw [hnx] at hn; cases hn
    | some q =>
      rw [hnx] at hn
      exact hnext q hnx (mem_entriesWhere.mp hn).1.symm
  obtain ⟨-, z, hz, -, hzp⟩ := mem_entriesWhere.mp hopen
  have hzst : z.state = some .queued := by
    have hz' : (s.placements e.plan)[e.index]? = some z := by simp [State.placements, hx, hz]
    simpa [entryState, hz'] using hstate
  obtain ⟨c, hpl⟩ := restateEntry_recut (a := .issued) (f := issuePiece) (g := g) h hx hcut hst fun y =>
    ⟨(hg y).mode, (hg y).current, (hg y).next⟩
  have hstation : StationSame { s.station st with issued := some e } ((restateEntry st e .issued issuePiece g s).station st) := by
    rw [restateEntry, station_onStation_self]
    have := hg (s.station st)
    rwa [show ((setPlacement e.plan e.index .issued s).onJobs (modPieces [e.piece] issuePiece)).station st = s.station st by
      rw [setPlacement_state]; rfl]
  have hnone : ∀ w ∈ placementsOf x, isIssued w = false := fun w hw => h.no_issued hissued hcur w (hold ▸ hw)
  refine c.records h hx hcut ?_ ?_ ?_ fun _ => hst ▸ hmode
  · have hcq : ∀ q i, PlanHolds ((restateEntry st e .issued issuePiece g s).plan e.plan) q i ↔
        if i = z.piece then placeStateOf q = some .issued else PlanHolds (s.plan e.plan) q i := fun q i => by
      rw [c.plan]; exact planHolds_modify h hx hcut c.restated.cutting hz .issued hpl q i
    have hheld : PlanHolds (s.plan e.plan) .queued e.piece := ⟨z, hold ▸ List.mem_of_getElem? hz, hzp, hzst⟩
    obtain ⟨y, hy, -, hyp⟩ := (h.pieces.held _ _ _).mp hheld
    refine h.pieces.of_modPieces (ids := [e.piece]) (f := issuePiece) (fun _ => rfl) ?_ (fun j hj => ?_) (fun i w hi hw hn => ?_)
      (fun q p i hi => ?_) (fun q p i hi => ?_)
    · show (modPieces [e.piece] issuePiece (setPlacement e.plan e.index .issued s).jobs).pieces = _
      rw [setPlacement_state]
    · have := congrArg Option.isSome (c.counts j)
      simpa [hj] using this
    · obtain rfl : i = e.piece := by simpa using hi
      rw [hy] at hw
      cases hw
      rw [show (issuePiece y).plan = y.plan from rfl, hyp] at hn
      cases hn
    · by_cases hp' : p = e.plan
      · subst hp'
        rw [hcq, if_neg]
        rw [hzp]
        simpa using hi
      · rw [c.others p hp']
    · obtain rfl : i = e.piece := by simpa using hi
      rw [hy]
      by_cases hp' : p = e.plan
      · subst hp'
        rw [hcq, if_pos hzp.symm]
        cases q <;> simp [placeStateOf, issuePiece, hyp]
      · rw [c.others p hp']
        refine iff_of_false (fun hh => hp' (h.pieces.holder_unique hheld hh).1) ?_
        rintro ⟨w, hw, -, hwp⟩
        cases hw
        rw [show (issuePiece y).plan = y.plan from rfl, hyp] at hwp
        exact hp' (Option.some.inj hwp).symm
  · rw [hst, hstation.queue, hs.queue, hcur, entriesOf_some, hold, hpl]
    congr 1
    rw [entriesWhere_modify (g := unfinished) (fun _ => true), List.filter_true]
    · intro w hw
      rw [hz] at hw
      cases hw
      simp [unfinished, withState, hzst]
    · intro i w _ _
      simp
  · rw [hst, hstation.issued, hpl, entriesWhere_modify (g := unfinished) (fun d => d == e)]
    · rw [List.filter_beq, List.count_eq_one_of_mem (entriesWhere_nodup ..) hopen]
      rfl
    · intro w hw
      rw [hz] at hw
      cases hw
      have : (⟨e.plan, e.index, z.piece⟩ : CutEntry) = e := by rw [hzp]
      simp [isIssued, withState, unfinished, hzst, this]
    · intro i w hi hw
      rw [hnone w (List.mem_of_getElem? hw)]
      have : (⟨e.plan, i, w.piece⟩ : CutEntry) ≠ e := fun he => hi (congrArg CutEntry.index he)
      simp [this]

/-- R93, R167: the issued cut ends: its placement takes an ended state, its piece is in work no more, and the entry leaves. -/
theorem endEntry_records {s : State} (h : RecordsRead s) {st : Fin 6} {e : CutEntry} (hissued : (s.station st).issued = some e)
    {a : PlaceState} (ha : a ≠ .queued ∧ a ≠ .issued) {f : Piece → Piece} (hf : ∀ x, (f x).id = x.id) (hplan : ∀ x, (f x).plan = none)
    (hwork : ∀ x, inWork (f x) = false) {g : Station → Station}
    (hg : ∀ y, StationSame { y with queue := y.queue.erase e, issued := none } (g y)) :
    RecordsRead (restateEntry st e a f g s) := by
  have hs := h.stations st
  obtain ⟨hcur, honly, x, z, hx, hcut, hst, hz, hzst, hzp⟩ := h.issued_facts hissued
  have hxc := isCutting_committedOrCutting hcut
  have hold : committedOf (s.plan e.plan) = placementsOf x := by rw [hx]; exact committedOf_of_after hxc
  rw [hold] at honly
  have hopen : e ∈ entriesWhere unfinished e.plan (placementsOf x) :=
    mem_entriesWhere.mpr ⟨rfl, z, hz, by simp [unfinished, hzst], hzp⟩
  obtain ⟨c, hpl⟩ := restateEntry_recut (a := a) (f := f) (g := g) h hx hcut hst fun y => ⟨(hg y).mode, (hg y).current, (hg y).next⟩
  have hstation : StationSame { s.station st with queue := (s.station st).queue.erase e, issued := none }
      ((restateEntry st e a f g s).station st) := by
    rw [restateEntry, station_onStation_self]
    have := hg (s.station st)
    rwa [show ((setPlacement e.plan e.index a s).onJobs (modPieces [e.piece] f)).station st = s.station st by
      rw [setPlacement_state]; rfl]
  have hentry : (⟨e.plan, e.index, z.piece⟩ : CutEntry) = e := by rw [hzp]
  have hkept : ∀ f' : Placement → Bool, f' (withState a z) = false →
      entriesWhere f' e.plan ((placementsOf x).modify e.index (withState a)) =
        (entriesWhere f' e.plan (placementsOf x)).filter fun d => d != e := fun f' hf' => by
    refine entriesWhere_modify _ (fun w hw => ?_) (fun i w hi hw => ?_)
    · rw [hz] at hw
      cases hw
      rw [hf', hentry]
      simp
    · have : (⟨e.plan, i, w.piece⟩ : CutEntry) ≠ e := fun he => hi (congrArg CutEntry.index he)
      simp [this]
  refine c.records h hx hcut ?_ ?_ ?_ fun hi => ?_
  · have hcq : ∀ q i, PlanHolds ((restateEntry st e a f g s).plan e.plan) q i ↔
        if i = z.piece then placeStateOf q = some a else PlanHolds (s.plan e.plan) q i := fun q i => by
      rw [c.plan]; exact planHolds_modify h hx hcut c.restated.cutting hz a hpl q i
    refine h.pieces.of_released (p := e.plan) (ids := [e.piece]) hf hplan hwork ?_ (fun j hj => ?_) c.others (fun i hi => ?_)
      (fun q i hi => ?_) (fun q i hi => ?_)
    · show (modPieces [e.piece] f (setPlacement e.plan e.index a s).jobs).pieces = _
      rw [setPlacement_state]
    · have := congrArg Option.isSome (c.counts j)
      simpa [hj] using this
    · obtain rfl : i = e.piece := by simpa using hi
      exact ⟨.issued, z, hold ▸ List.mem_of_getElem? hz, hzp, hzst⟩
    · obtain rfl : i = e.piece := by simpa using hi
      rw [hcq, if_pos hzp.symm]
      cases q <;> simp [placeStateOf, ha.1.symm, ha.2.symm]
    · rw [hcq, if_neg]
      rw [hzp]
      simpa using hi
  · have hqueue := hs.queue
    rw [hcur, entriesOf_some, hold] at hqueue
    rw [hst, hstation.queue, hqueue, hpl, List.erase_append_left _ hopen, (entriesWhere_nodup ..).erase_eq_filter, hkept]
    cases a <;> simp_all [unfinished, withState]
  · rw [hst, hstation.issued, hpl, hkept, honly]
    · simp
    · cases a <;> simp_all [isIssued, withState]
  · rw [hst, hstation.issued] at hi
    exact absurd rfl hi

/-! ## A broken slab's QUEUED placements (R170) -/

theorem returnPlacement_piece (z : Placement) : (returnPlacement z).piece = z.piece := by
  unfold returnPlacement; split <;> rfl

/-- The records once the QUEUED placements are returned, but for the notices. -/
def returnPlacements (st : Fin 6) (p : Fin 16) (s : State) : State :=
  unplanPieces (queuedPieces (s.placements p))
    ((s.modPlan p (onPlacements fun m => m.map returnPlacement)).onStation st (dropEntries p))

theorem returnQueued_frame (st : Fin 6) (p : Fin 16) (s : State) : RecordFrame (returnPlacements st p s) (returnQueued st p s) :=
  foldl_rel (R := RecordFrame) .refl (fun _ _ _ => .trans) (fun t j => raiseNotice .recut j t) (fun _ _ => raiseNotice_records ..)
    (returnedJobs (s.placements p)) (returnPlacements st p s)

/-- Finished placements hold no piece in work. -/
theorem not_placed_of_finished {l : List Placement} (h : ∀ z ∈ l, unfinished z = false) {q : PieceState} {i : PieceId} :
    ¬ ∃ a, placeStateOf q = some a ∧ ∃ z ∈ l, z.piece = i ∧ z.state = some a := by
  rintro ⟨a, ha, z, hz, -, hst⟩
  have hf := h z hz
  cases q with
  | queued => cases ha; simp [unfinished, hst] at hf
  | issued => cases ha; simp [unfinished, hst] at hf
  | drafted | unplanned | cut | held => cases ha

/-- R170: with no cut issued, the QUEUED placements of a station's CUTTING plan become RETURNED, and its entries and pieces go. -/
theorem returnPlacements_records {s : State} (h : RecordsRead s) {p : Fin 16} {x : Plan} (hx : s.plan p = some x)
    (hcut : isCutting x = true) (hissued : (s.station x.station).issued = none) :
    RecordsRead (returnPlacements x.station p s) ∧
      ∀ z ∈ committedOf ((returnPlacements x.station p s).plan p), unfinished z = false := by
  have hxc := isCutting_committedOrCutting hcut
  have hcur := h.current_of_cutting hx hcut
  have hold : committedOf (s.plan p) = placementsOf x := by rw [hx]; exact committedOf_of_after hxc
  have hplace : s.placements p = placementsOf x := by simp [State.placements, hx]
  have hnone : ∀ z ∈ placementsOf x, isIssued z = false := fun z hz => h.no_issued hissued hcur z (hold ▸ hz)
  have hdone : ∀ z ∈ (placementsOf x).map returnPlacement, unfinished z = false := fun z hz => by
    obtain ⟨w, hw, rfl⟩ := List.mem_map.mp hz
    have hwi := hnone w hw
    unfold returnPlacement
    split
    · rfl
    · rename_i hq
      simp only [isIssued] at hwi
      simp [unfinished, hq, hwi]
  obtain ⟨hre, hpl⟩ := restated_onPlacements hcut (f := fun m => m.map returnPlacement)
    (by simp only [List.map_map]; exact List.map_congr_left fun z _ => returnPlacement_piece z) (fun z hz => by
      obtain ⟨w, hw, rfl⟩ := List.mem_map.mp hz
      unfold returnPlacement
      split
      · simp [withState]
      · exact (h.plans p).cutting x hx hcut w hw)
  have hstate := modPlan_state p (onPlacements fun m => m.map returnPlacement) s
  have hplan := fun q => plan_modPlan q p (onPlacements fun m => m.map returnPlacement) s
  have hqueue := modPlan_queue p (onPlacements fun m => m.map returnPlacement) s
  unfold returnPlacements
  rw [hplace]
  generalize s.modPlan p (onPlacements fun m => m.map returnPlacement) = u at *
  generalize ht : unplanPieces (queuedPieces (placementsOf x)) (u.onStation x.station (dropEntries p)) = t
  have hstation : t.station x.station = dropEntries p (s.station x.station) := by
    rw [← ht]
    show (u.onStation x.station (dropEntries p)).station x.station = _
    rw [station_onStation_self, hstate]; rfl
  have c : Recut p x (onPlacements (fun m => m.map returnPlacement) x) s t := by
    refine ⟨hre, ?_, fun q hq => ?_, by rw [← ht, hstate]; rfl, fun j => by rw [← ht, hstate]; rfl, by rw [← ht, hstate]; rfl,
      by rw [← ht]; exact hqueue, by rw [hstation]; rfl, by rw [hstation]; rfl, by rw [hstation]; rfl, fun st hst => ?_⟩
    · rw [← ht]
      show u.plan p = _
      rw [hplan, if_pos rfl, hx]; rfl
    · rw [← ht]
      show u.plan q = _
      rw [hplan, if_neg hq]
    · rw [← ht]
      show StationSame _ ((u.onStation x.station (dropEntries p)).station st)
      rw [station_onStation_ne _ _ _ _ hst, hstate]; exact .refl _
  have hnew : committedOf (t.plan p) = (placementsOf x).map returnPlacement := by
    rw [c.plan, committedOf_of_after (isCutting_committedOrCutting hre.cutting), hpl]
  refine ⟨c.records h hx hcut ?_ ?_ ?_ (fun hi => ?_), by rw [hnew]; exact hdone⟩
  · refine h.pieces.of_released (p := p) (ids := queuedPieces (placementsOf x)) (f := unplan) (fun _ => rfl) (fun _ => rfl)
      (fun _ => rfl) ?_ (fun j hj => ?_) c.others (fun i hi => ⟨.queued, ?_⟩) (fun q i hi => ?_) (fun q i hi => ?_)
    · rw [← ht]
      show (modPieces _ unplan u.jobs).pieces = _
      rw [hstate]
    · have := congrArg Option.isSome (c.counts j)
      simpa [hj] using this
    · obtain ⟨z, hz, hrest⟩ := mem_queuedPieces.mp hi
      exact ⟨z, hold ▸ hz, hrest⟩
    · rw [c.plan, planHolds_of_after (isCutting_committedOrCutting hre.cutting), hpl]
      exact not_placed_of_finished hdone
    · rw [c.plan, planHolds_of_after (isCutting_committedOrCutting hre.cutting), hpl, hx, planHolds_of_after hxc]
      refine iff_of_false ?_ ?_
      · exact not_placed_of_finished hdone
      · rintro ⟨b, hb, z, hz, hzi, hst⟩
        cases q with
        | queued =>
          cases hb
          exact hi (mem_queuedPieces.mpr ⟨z, hz, hzi, hst⟩)
        | issued =>
          cases hb
          have := hnone z hz
          simp [isIssued, hst] at this
        | drafted | unplanned | cut | held => cases hb
  · have hs := (h.stations x.station).queue
    have hn : (s.station x.station).next ≠ some p := fun hn => ((h.stations x.station).second p hn).2.1 hcur
    rw [hstation, hpl, entriesWhere_eq_nil.mpr hdone, List.nil_append]
    show (s.station x.station).queue.filter _ = _
    rw [hs, List.filter_append, filter_plan_entriesOf, filter_plan_entriesOf, if_pos hcur, if_neg hn, List.nil_append]
  · rw [hstation, hpl]
    show _ = (s.station x.station).issued.toList
    rw [hissued]
    refine entriesWhere_eq_nil.mpr fun z hz => ?_
    have := hdone z hz
    simp only [unfinished, Bool.or_eq_false_iff] at this
    exact this.2
  · rw [hstation] at hi
    exact absurd hissued hi

end Sys2Proof.Machine
end

section
/-! A job's pieces cancelled in the piece table, the plans and the station queues (R172, R173): the records stay in agreement. -/

namespace Sys2Proof.Machine

/-! ## Every slot, every station -/

theorem plan_foldl_modPlan (f : Plan → Plan) {l : List (Fin 16)} (hl : l.Nodup) (s : State) (q : Fin 16) :
    (l.foldl (fun t p => t.modPlan p f) s).plan q = if q ∈ l then (s.plan q).map f else s.plan q := by
  induction l generalizing s with
  | nil => simp
  | cons p l ih =>
    obtain ⟨hp, hl⟩ := List.nodup_cons.mp hl
    rw [List.foldl_cons, ih hl, plan_modPlan]
    by_cases hq : q = p
    · subst hq; simp [hp]
    · simp [hq]

theorem foldl_modPlan_state (f : Plan → Plan) (l : List (Fin 16)) (s : State) :
    l.foldl (fun t p => t.modPlan p f) s =
      { s with plans := { s.plans with slots := (l.foldl (fun t p => t.modPlan p f) s).plans.slots } } := by
  refine foldl_rel (R := fun a b : State => b = { a with plans := { a.plans with slots := b.plans.slots } }) (fun _ => rfl)
    (fun a b c h g => by rw [g, h]) _ (fun t p => ?_) l s
  unfold State.modPlan
  split <;> rfl

theorem station_foldl_onStation (f : Fin 6 → Station → Station) {l : List (Fin 6)} (hl : l.Nodup) (s : State) (q : Fin 6) :
    (l.foldl (fun t st => t.onStation st (f st)) s).station q = if q ∈ l then f q (s.station q) else s.station q := by
  induction l generalizing s with
  | nil => simp
  | cons st l ih =>
    obtain ⟨hst, hl⟩ := List.nodup_cons.mp hl
    rw [List.foldl_cons, ih hl]
    by_cases hq : q = st
    · subst hq; simp [hst]
    · simp [hq, station_onStation_ne _ _ _ _ hq]

theorem foldl_onStation_state (f : Fin 6 → Station → Station) (l : List (Fin 6)) (s : State) :
    l.foldl (fun t st => t.onStation st (f st)) s =
      { s with stations := (l.foldl (fun t st => t.onStation st (f st)) s).stations } :=
  foldl_rel (R := fun a b : State => b = { a with stations := b.stations }) (fun _ => rfl) (fun a b c h g => by rw [g, h]) _
    (fun _ _ => rfl) l s

theorem allPlans_nodup : allPlans.Nodup := List.nodup_finRange 16

theorem mem_allPlans (p : Fin 16) : p ∈ allPlans := List.mem_finRange p

theorem allStations_nodup : allStations.Nodup := List.nodup_finRange 6

theorem mem_allStations (st : Fin 6) : st ∈ allStations := List.mem_finRange st

/-! ## One plan, one station -/

theorem cancelInPlan_serial (j : Fin 64) (x : Plan) :
    (cancelInPlan j x).serial = x.serial ∧ (cancelInPlan j x).station = x.station := by
  unfold cancelInPlan onPlacements onLayout
  split
  · split <;> exact ⟨rfl, rfl⟩
  · split <;> exact ⟨rfl, rfl⟩

/-- R172, R173: a plan not yet committed loses the job's pieces, and with one of them its layout. -/
theorem cancelInPlan_of_before {x : Plan} (hb : beforeCommit x = true) (j : Fin 64) :
    beforeCommit (cancelInPlan j x) = true ∧ (cancelInPlan j x).pieces = (x.pieces.filter fun i => i.job != j) ∧
      layingOf (some (cancelInPlan j x)) = layingOf (some x) ∧ (layoutOf (cancelInPlan j x) = none ∨ cancelInPlan j x = x) := by
  unfold cancelInPlan
  rw [if_pos hb]
  split
  · cases hp : x.phase <;>
      simp_all [redraft, layingOf, layoutOf, beforeCommit, isCommittedOrCutting, isCommitted, isCutting]
  · rename_i hno
    refine ⟨hb, (List.filter_eq_self.mpr fun i hi => ?_).symm, rfl, .inr rfl⟩
    simp only [List.any_eq_true, not_exists, not_and] at hno
    simpa using hno i hi

/-- R172: a committed plan's QUEUED placements of the job become VOID. -/
theorem cancelInPlan_of_after {x : Plan} (hc : isCommittedOrCutting x = true) (j : Fin 64) :
    isCommitted (cancelInPlan j x) = isCommitted x ∧ isCutting (cancelInPlan j x) = isCutting x ∧
      placementsOf (cancelInPlan j x) = (placementsOf x).map (voidPlacement j) ∧ (cancelInPlan j x).pieces = x.pieces ∧
      layingOf (some (cancelInPlan j x)) = none ∧ layingOf (some x) = none := by
  have hb : beforeCommit x = false := by simp [beforeCommit, hc]
  have he : cancelInPlan j x = onPlacements (fun l => l.map (voidPlacement j)) x := by simp [cancelInPlan, hb]
  rw [he]
  cases hp : x.phase <;>
    simp_all [onPlacements, onLayout, isCommittedOrCutting, isCommitted, isCutting, placementsOf, layoutOf, layingOf]

theorem isCutting_cancelInPlan (j : Fin 64) (x : Plan) : isCutting (cancelInPlan j x) = isCutting x := by
  by_cases hc : isCommittedOrCutting x = true
  · exact (cancelInPlan_of_after hc j).2.1
  · have hb := beforeCommit_of_not (by simpa using hc)
    rw [(beforeCommit_iff.mp hb).2, (beforeCommit_iff.mp (cancelInPlan_of_before hb j).1).2]

theorem isCommittedOrCutting_cancelInPlan (j : Fin 64) (x : Plan) :
    isCommittedOrCutting (cancelInPlan j x) = isCommittedOrCutting x := by
  by_cases hc : isCommittedOrCutting x = true
  · obtain ⟨h1, h2, -⟩ := cancelInPlan_of_after hc j
    simp only [isCommittedOrCutting, h1, h2]
  · have hb := beforeCommit_of_not (by simpa using hc)
    have hb' := (cancelInPlan_of_before hb j).1
    simp only [beforeCommit, Bool.not_eq_eq_eq_not, Bool.not_true] at hb hb'
    rw [hb, hb']

theorem layingOf_cancelInPlan (j : Fin 64) (o : Option Plan) : layingOf (o.map (cancelInPlan j)) = layingOf o := by
  cases o with
  | none => rfl
  | some x =>
    by_cases hc : isCommittedOrCutting x = true
    · obtain ⟨-, -, -, -, h1, h2⟩ := cancelInPlan_of_after hc j
      exact h1.trans h2.symm
    · exact (cancelInPlan_of_before (beforeCommit_of_not (by simpa using hc)) j).2.2.1

theorem committedOf_cancelInPlan (j : Fin 64) (o : Option Plan) :
    committedOf (o.map (cancelInPlan j)) = (committedOf o).map (voidPlacement j) := by
  cases o with
  | none => rfl
  | some x =>
    by_cases hc : isCommittedOrCutting x = true
    · rw [Option.map_some, committedOf_of_after hc, committedOf_of_after (by rw [isCommittedOrCutting_cancelInPlan]; exact hc)]
      exact (cancelInPlan_of_after hc j).2.2.1
    · have hb := beforeCommit_of_not (by simpa using hc)
      rw [Option.map_some, committedOf_of_before hb, committedOf_of_before (cancelInPlan_of_before hb j).1, List.map_nil]

theorem voidPlacement_piece (j : Fin 64) (z : Placement) : (voidPlacement j z).piece = z.piece := by
  unfold voidPlacement; split <;> rfl

theorem state_voidPlacement (j : Fin 64) (z : Placement) :
    (voidPlacement j z).state = if z.state = some .queued ∧ z.piece.job = j then some .void else z.state := by
  unfold voidPlacement voids
  simp only [Bool.and_eq_true, beq_iff_eq]
  split <;> rfl

/-- R57, R59: what is said of one slot stands. -/
theorem PlanOk.cancelled {o : Option Plan} (h : PlanOk o) (j : Fin 64) : PlanOk (o.map (cancelInPlan j)) := by
  refine ⟨fun y hy => ?_, ?_, fun y hy hb l hl => ?_, fun y hy hc z hz => ?_, fun y hy hc z hz => ?_⟩
  · obtain ⟨x, rfl, rfl⟩ := Option.map_eq_some_iff.mp hy
    by_cases hc : isCommittedOrCutting x = true
    · rw [(cancelInPlan_of_after hc j).2.2.2.1]
      exact h.set x rfl
    · rw [(cancelInPlan_of_before (beforeCommit_of_not (by simpa using hc)) j).2.1]
      exact (h.set x rfl).filter _
  · rw [committedOf_cancelInPlan, List.map_map]
    simpa only [Function.comp_def, voidPlacement_piece] using h.distinct
  · obtain ⟨x, rfl, rfl⟩ := Option.map_eq_some_iff.mp hy
    have hbx : beforeCommit x = true := by simpa [beforeCommit, isCommittedOrCutting_cancelInPlan] using hb
    rcases (cancelInPlan_of_before hbx j).2.2.2 with hno | hsame
    · rw [hno] at hl; cases hl
    · rw [hsame] at hl ⊢
      exact h.laid x rfl hbx l hl
  · obtain ⟨x, rfl, rfl⟩ := Option.map_eq_some_iff.mp hy
    have hcc : isCommittedOrCutting x = true := by
      rw [← isCommittedOrCutting_cancelInPlan j]; simp [isCommittedOrCutting, hc]
    obtain ⟨h1, -, h3, -⟩ := cancelInPlan_of_after hcc j
    rw [h1] at hc
    rw [h3] at hz
    obtain ⟨w, hw, rfl⟩ := List.mem_map.mp hz
    rw [state_voidPlacement]
    split
    · exact .inr rfl
    · exact h.committed x rfl hc w hw
  · obtain ⟨x, rfl, rfl⟩ := Option.map_eq_some_iff.mp hy
    rw [isCutting_cancelInPlan] at hc
    rw [(cancelInPlan_of_after (isCutting_committedOrCutting hc) j).2.2.1] at hz
    obtain ⟨w, hw, rfl⟩ := List.mem_map.mp hz
    rw [state_voidPlacement]
    split
    · simp
    · exact h.cutting x rfl hc w hw

/-- R172: a plan keeps its pieces but for the job's DRAFTED and QUEUED ones. -/
theorem planHolds_cancelInPlan (j : Fin 64) (o : Option Plan) (q : PieceState) (i : PieceId) :
    PlanHolds (o.map (cancelInPlan j)) q i ↔ PlanHolds o q i ∧ (q = .issued ∨ i.job ≠ j) := by
  cases o with
  | none => simp
  | some x =>
    rw [Option.map_some]
    by_cases hc : isCommittedOrCutting x = true
    · rw [planHolds_of_after (by rw [isCommittedOrCutting_cancelInPlan]; exact hc), planHolds_of_after hc,
        (cancelInPlan_of_after hc j).2.2.1]
      simp only [List.mem_map, exists_exists_and_eq_and, voidPlacement_piece, state_voidPlacement]
      cases q with
      | queued =>
        simp only [placeStateOf, Option.some.injEq, exists_eq_left', reduceCtorEq, false_or]
        constructor
        · rintro ⟨z, hz, rfl, hs⟩
          split at hs
          · cases hs
          · rename_i hn
            exact ⟨⟨z, hz, rfl, hs⟩, fun hj => hn ⟨hs, hj⟩⟩
        · rintro ⟨⟨z, hz, rfl, hs⟩, hj⟩
          exact ⟨z, hz, rfl, by rw [if_neg fun h => hj h.2]; exact hs⟩
      | issued =>
        simp only [placeStateOf, Option.some.injEq, exists_eq_left', true_or, and_true]
        refine exists_congr fun z => and_congr_right fun _ => and_congr_right fun _ => ?_
        split
        · rename_i hn
          simp [hn.1]
        · exact Iff.rfl
      | unplanned | drafted | cut | held => simp [placeStateOf]
    · have hb := beforeCommit_of_not (by simpa using hc)
      obtain ⟨hb', hp, -⟩ := cancelInPlan_of_before hb j
      rw [planHolds_of_before hb', planHolds_of_before hb, hp, List.mem_filter]
      constructor
      · rintro ⟨rfl, hi, hj⟩
        exact ⟨⟨rfl, hi⟩, .inr (by simpa using hj)⟩
      · rintro ⟨⟨rfl, hi⟩, hj⟩
        exact ⟨rfl, hi, by simpa using hj⟩

/-- R78: in a station's plans, the ISSUED placement is the one its issued entry names. -/
theorem StationRead.issued_iff {s : State} {st : Fin 6} (h : StationRead s st) {p : Fin 16}
    (hp : (s.station st).current = some p ∨ (s.station st).next = some p) {i : Nat} {z : Placement}
    (hz : (committedOf (s.plan p))[i]? = some z) :
    z.state = some .issued ↔ (s.station st).issued = some ⟨p, i, z.piece⟩ := by
  have hmem : ∀ e : CutEntry, (s.station st).issued = some e ↔
      e ∈ entriesOf isIssued s (s.station st).current ++ entriesOf isIssued s (s.station st).next := fun e => by
    rw [h.issued, Option.mem_toList]
  have hrole : ∀ o, (⟨p, i, z.piece⟩ : CutEntry) ∈ entriesOf isIssued s o → z.state = some .issued := fun o ho => by
    cases o with
    | none => cases ho
    | some q =>
      obtain ⟨rfl, w, hw, hwi, -⟩ := mem_entriesWhere.mp ho
      rw [hz] at hw
      cases hw
      simpa [isIssued] using hwi
  rw [hmem, List.mem_append]
  constructor
  · intro hs
    have he : (⟨p, i, z.piece⟩ : CutEntry) ∈ entriesOf isIssued s (some p) :=
      mem_entriesWhere.mpr ⟨rfl, z, hz, by simp [isIssued, hs], rfl⟩
    rcases hp with hp | hp
    · exact .inl (hp ▸ he)
    · exact .inr (hp ▸ he)
  · rintro (he | he)
    · exact hrole _ he
    · exact hrole _ he

/-! ## All the records -/

theorem plan_cancelPieces (j : Fin 64) (s : State) (p : Fin 16) : (cancelPieces j s).plan p = (s.plan p).map (cancelInPlan j) := by
  unfold cancelPieces
  dsimp only
  have hplan := plan_foldl_modPlan (cancelInPlan j) allPlans_nodup
    (s.onJobs (deletePieces fun x => x.id.job == j && cancelDeletes x)) p
  rw [if_pos (mem_allPlans p)] at hplan
  generalize allPlans.foldl _ _ = u at *
  rw [foldl_onStation_state (fun _ => cancelInQueue j)]
  exact hplan

theorem cancelPieces_state (j : Fin 64) (s : State) :
    cancelPieces j s = { s with
      jobs := deletePieces (fun x => x.id.job == j && cancelDeletes x) s.jobs
      plans := { s.plans with slots := (cancelPieces j s).plans.slots }
      stations := (cancelPieces j s).stations } := by
  unfold cancelPieces
  dsimp only
  have hplans := foldl_modPlan_state (cancelInPlan j) allPlans
    (s.onJobs (deletePieces fun x => x.id.job == j && cancelDeletes x))
  generalize allPlans.foldl _ _ = u at *
  have hstations := foldl_onStation_state (fun _ => cancelInQueue j) allStations u
  generalize allStations.foldl _ _ = v at *
  have hslots : v.plans.slots = u.plans.slots := by rw [hstations]
  refine hstations.trans ?_
  rw [hslots]
  generalize u.plans.slots = k at *
  rw [hplans]
  rfl

theorem station_cancelPieces (j : Fin 64) (s : State) (st : Fin 6) :
    (cancelPieces j s).station st = cancelInQueue j (s.station st) := by
  unfold cancelPieces
  dsimp only
  have hplans := foldl_modPlan_state (cancelInPlan j) allPlans
    (s.onJobs (deletePieces fun x => x.id.job == j && cancelDeletes x))
  generalize allPlans.foldl _ _ = u at *
  have hsame : u.station st = s.station st := by rw [hplans]; rfl
  rw [station_foldl_onStation (fun _ => cancelInQueue j) allStations_nodup, if_pos (mem_allStations st), hsame]

/-- R71, R172: the entries that stay are those of the placements still open. -/
theorem entriesOf_unfinished_cancelled {s t : State} {st : Fin 6} (h : StationRead s st) (j : Fin 64)
    (ht : ∀ p, t.plan p = (s.plan p).map (cancelInPlan j)) {o : Option (Fin 16)}
    (ho : ∀ p, o = some p → (s.station st).current = some p ∨ (s.station st).next = some p) :
    entriesOf unfinished t o =
      (entriesOf unfinished s o).filter fun e => e.piece.job != j || (s.station st).issued == some e := by
  cases o with
  | none => rfl
  | some p =>
    rw [entriesOf_some, entriesOf_some, ht, committedOf_cancelInPlan, map_eq_mapIdx]
    refine entriesWhere_mapIdx _ (fun _ z => voidPlacement_piece j z) fun i z hz => ?_
    have hi := h.issued_iff (ho p rfl) hz
    simp only [unfinished, state_voidPlacement]
    by_cases hq : z.state = some .queued
    · have hn : (s.station st).issued ≠ some ⟨p, i, z.piece⟩ := fun e => by
        rw [← hi, hq] at e; cases e
      by_cases hj : z.piece.job = j <;> simp [hq, hj, beq_eq_false_iff_ne.mpr hn]
    · by_cases his : z.state = some .issued
      · simp [his, hi.mp his]
      · simp [hq, his]

theorem entriesOf_issued_cancelled {s t : State} (j : Fin 64) (ht : ∀ p, t.plan p = (s.plan p).map (cancelInPlan j))
    (o : Option (Fin 16)) : entriesOf isIssued t o = entriesOf isIssued s o := by
  cases o with
  | none => rfl
  | some p =>
    rw [entriesOf_some, entriesOf_some, ht, committedOf_cancelInPlan, map_eq_mapIdx,
      entriesWhere_mapIdx (g := isIssued) (fun _ => true) (fun _ z => voidPlacement_piece j z) fun i z _ => ?_, List.filter_true]
    simp only [isIssued, state_voidPlacement, Bool.and_true]
    split
    · rename_i hq; simp [hq.1]
    · rfl

/-- R172, R173: the cancellation of a job's pieces. -/
theorem cancelPieces_records {s : State} (h : RecordsRead s) (j : Fin 64) : RecordsRead (cancelPieces j s) := by
  have hplan := plan_cancelPieces j s
  have hstation := station_cancelPieces j s
  have hstate := cancelPieces_state j s
  generalize cancelPieces j s = t at *
  have hjobs : t.jobs = deletePieces (fun x => x.id.job == j && cancelDeletes x) s.jobs := by rw [hstate]
  have hjob : ∀ i, t.job i = s.job i := fun i => by rw [State.job, hjobs]; rfl
  refine ⟨h.stock.of_same (by rw [hstate]) fun p => ?_, ?_, fun p => by rw [hplan]; exact (h.plans p).cancelled j,
    h.counts.of_congr (fun p => ?_) fun i => by rw [hjob],
    h.layouts.of_same (by rw [hstate]) (by rw [hstate]) fun p => by rw [hplan, layingOf_cancelInPlan], fun st => ?_⟩
  · rw [hplan, slabView, slabView, Option.map_map]
    refine congrArg (fun f => (s.plan p).map f) (funext fun x => ?_)
    obtain ⟨h1, h2⟩ := cancelInPlan_serial j x
    simp only [Function.comp, h1, h2, isCutting_cancelInPlan]
  · refine h.pieces.of_delete (by rw [hjobs]) (fun i x hx _ => ?_) fun q p i => ?_
    · rw [hjob]; exact (h.pieces.owned i x hx).2
    · rw [hplan, planHolds_cancelInPlan]
      refine and_congr_right fun hh => ?_
      obtain ⟨x, hx, hq, -⟩ := (h.pieces.held q p i).mp hh
      have hid := findPiece_id hx
      simp only [hx, Option.some.injEq, forall_eq', hid, cancelDeletes, hq]
      cases q with
      | drafted | queued | issued => simp
      | unplanned | cut | held => exact absurd hh id
  · rw [hplan, committedOf_cancelInPlan, List.map_map]
    exact List.map_congr_left fun z _ => voidPlacement_piece j z
  · have hs := h.stations st
    have hview : ∀ p, (∃ y, t.plan p = some y ∧ y.station = st ∧ isCommittedOrCutting y = true) ↔
        ∃ y, s.plan p = some y ∧ y.station = st ∧ isCommittedOrCutting y = true := fun p => by
      rw [hplan]
      simp only [Option.map_eq_some_iff, exists_exists_and_eq_and, (cancelInPlan_serial j _).2, isCommittedOrCutting_cancelInPlan]
    have hcut : currentCutting st t = currentCutting st s := by
      rw [Bool.eq_iff_iff, currentCutting_iff, currentCutting_iff, hstation]
      simp only [hplan, Option.map_eq_some_iff]
      constructor
      · rintro ⟨p, y, hp, ⟨x, hx, rfl⟩, hc⟩
        exact ⟨p, x, hp, hx, by rwa [isCutting_cancelInPlan] at hc⟩
      · rintro ⟨p, x, hp, hx, hc⟩
        exact ⟨p, _, hp, ⟨x, hx, rfl⟩, by rwa [isCutting_cancelInPlan]⟩
    refine ⟨fun p => ?_, fun p hp => ?_, ?_, ?_, ?_, ?_, ?_⟩
    · rw [hview, hstation]; exact hs.roles p
    · rw [hstation] at hp ⊢
      obtain ⟨h1, h2, h3⟩ := hs.second p hp
      refine ⟨h1, h2, fun y hy => ?_⟩
      rw [hplan] at hy
      obtain ⟨x, hx, rfl⟩ := Option.map_eq_some_iff.mp hy
      rw [isCutting_cancelInPlan]
      exact h3 x hx
    · rw [hstation]
      show (s.station st).queue.filter _ = entriesOf unfinished t (s.station st).current ++ entriesOf unfinished t (s.station st).next
      rw [entriesOf_unfinished_cancelled hs j hplan fun p hp => .inl hp,
        entriesOf_unfinished_cancelled hs j hplan fun p hp => .inr hp, ← List.filter_append, ← hs.queue]
    · rw [hstation, entriesOf_issued_cancelled j hplan, entriesOf_issued_cancelled j hplan]
      exact hs.issued
    · rw [hstation]; exact hs.atWork
    · rw [hstation, hcut]; exact hs.loaded
    · rw [hstation, hcut]; exact hs.ready

end Sys2Proof.Machine
end

section
/-! The collections and their capacities (R1, R5, R23, R57): which moves let none grow (`NoLarger`), and the few that add to one within
its bound. -/

namespace Sys2Proof.Machine

/-! ## Moves that let no collection grow -/

/-- No collection of the part grows. -/
structure NoLarger (s t : State) : Prop where
  slabs : t.stock.slabs.length ≤ s.stock.slabs.length
  racks : ∀ r, (rackList r t.stock).length ≤ (rackList r s.stock).length
  pieces : t.jobs.pieces.length ≤ s.jobs.pieces.length
  sets : ∀ p y, t.plan p = some y → ∃ x, s.plan p = some x ∧ y.pieces.length ≤ x.pieces.length

theorem NoLarger.refl (s : State) : NoLarger s s := ⟨le_rfl, fun _ => le_rfl, le_rfl, fun _ y hy => ⟨y, hy, le_rfl⟩⟩

theorem NoLarger.trans {s t u : State} (h : NoLarger s t) (g : NoLarger t u) : NoLarger s u where
  slabs := g.slabs.trans h.slabs
  racks r := (g.racks r).trans (h.racks r)
  pieces := g.pieces.trans h.pieces
  sets p z hz := by
    obtain ⟨y, hy, hzy⟩ := g.sets p z hz
    obtain ⟨x, hx, hyx⟩ := h.sets p y hy
    exact ⟨x, hx, hzy.trans hyx⟩

theorem NoLarger.capacity {s t : State} (h : NoLarger s t) (hs : CapacityOk s) : CapacityOk t := by
  obtain ⟨hslabs, hracks, hpieces, hsets⟩ := hs
  refine ⟨h.slabs.trans hslabs, fun r => (h.racks r).trans (hracks r), h.pieces.trans hpieces, fun p y hy => ?_⟩
  obtain ⟨x, hx, hle⟩ := h.sets p y hy
  exact hle.trans (hsets p x hx)

theorem RecordFrame.noLarger {s t : State} (h : RecordFrame s t) : NoLarger s t where
  slabs := by rw [h.stock]
  racks r := by rw [h.stock]
  pieces := by rw [h.pieces]
  sets p y hy := ⟨y, by rw [← h.plan p]; exact hy, le_rfl⟩

theorem onStock_noLarger {f : Stock → Stock} {s : State} (hslabs : (f s.stock).slabs.length ≤ s.stock.slabs.length)
    (hracks : ∀ r, (rackList r (f s.stock)).length ≤ (rackList r s.stock).length) : NoLarger s (s.onStock f) :=
  ⟨hslabs, hracks, le_rfl, fun _ y hy => ⟨y, hy, le_rfl⟩⟩

theorem onJobs_noLarger {f : JobTable → JobTable} {s : State} (h : (f s.jobs).pieces.length ≤ s.jobs.pieces.length) :
    NoLarger s (s.onJobs f) :=
  ⟨le_rfl, fun _ => le_rfl, h, fun _ y hy => ⟨y, hy, le_rfl⟩⟩

theorem modPieces_noLarger (ids : List PieceId) (f : Piece → Piece) (s : State) : NoLarger s (s.onJobs (modPieces ids f)) :=
  onJobs_noLarger (List.length_map _).le

theorem deletePieces_noLarger (sel : Piece → Bool) (s : State) : NoLarger s (s.onJobs (deletePieces sel)) :=
  onJobs_noLarger (List.length_filter_le _ _)

/-- The jobs' slots are no such collection. -/
theorem jobs_noLarger {s t : State} (hstate : t = { s with jobs := t.jobs }) (hpieces : t.jobs.pieces = s.jobs.pieces) :
    NoLarger s t where
  slabs := by rw [hstate]
  racks r := by rw [hstate]
  pieces := by rw [hpieces]
  sets p y hy := ⟨y, by rw [hstate] at hy; exact hy, le_rfl⟩

theorem putJob_noLarger (j : Fin 64) (b : Option Job) (s : State) : NoLarger s (s.putJob j b) := jobs_noLarger rfl rfl

theorem uncountPlacements_noLarger (l : List Placement) (s : State) : NoLarger s (uncountPlacements l s) :=
  jobs_noLarger (uncountPlacements_state l s) (uncountPlacements_pieces l s)

theorem countPlacements_noLarger (l : List Placement) (s : State) : NoLarger s (countPlacements l s) :=
  jobs_noLarger (countPlacements_state l s) (countPlacements_pieces l s)

theorem putPlan_noLarger {p : Fin 16} {o : Option Plan} {s : State}
    (h : ∀ y, o = some y → ∃ x, s.plan p = some x ∧ y.pieces.length ≤ x.pieces.length) : NoLarger s (s.putPlan p o) := by
  refine ⟨le_rfl, fun _ => le_rfl, le_rfl, fun q y hy => ?_⟩
  by_cases hq : q = p
  · subst hq
    rw [plan_putPlan_self] at hy
    exact h y hy
  · rw [plan_putPlan_ne _ _ _ _ hq] at hy
    exact ⟨y, hy, le_rfl⟩

theorem freePlan_noLarger (p : Fin 16) (s : State) : NoLarger s (s.putPlan p none) := putPlan_noLarger fun _ h => (nomatch h)

theorem modPlan_noLarger (p : Fin 16) {f : Plan → Plan} (hf : ∀ x, (f x).pieces.length ≤ x.pieces.length) (s : State) :
    NoLarger s (s.modPlan p f) := by
  unfold State.modPlan
  split
  · rename_i x hx
    refine putPlan_noLarger fun y hy => ?_
    cases hy
    exact ⟨x, hx, hf x⟩
  · exact .refl s

theorem onStation_noLarger (st : Fin 6) (f : Station → Station) (s : State) : NoLarger s (s.onStation st f) :=
  ⟨le_rfl, fun _ => le_rfl, le_rfl, fun _ y hy => ⟨y, hy, le_rfl⟩⟩

theorem onEngine_noLarger (f : Engine → Engine) (s : State) : NoLarger s (s.onEngine f) :=
  ⟨le_rfl, fun _ => le_rfl, le_rfl, fun _ y hy => ⟨y, hy, le_rfl⟩⟩

theorem layoutQueue_noLarger (f : List (Fin 16) → List (Fin 16)) (s : State) :
    NoLarger s (s.onPlans fun t => { t with queue := f t.queue }) :=
  ⟨le_rfl, fun _ => le_rfl, le_rfl, fun _ y hy => ⟨y, hy, le_rfl⟩⟩

theorem pieces_onPlacements (f : List Placement → List Placement) (x : Plan) : (onPlacements f x).pieces = x.pieces := by
  unfold onPlacements onLayout
  split <;> rfl

theorem onPlacements_noLarger (p : Fin 16) (f : List Placement → List Placement) (s : State) :
    NoLarger s (s.modPlan p (onPlacements f)) :=
  modPlan_noLarger p (fun x => by rw [pieces_onPlacements]) s

/-! ## The Stock Table -/

theorem length_leaveRack_le (x : Slab) (k : Stock) (r : Fin 32) : (rackList r (leaveRack x k)).length ≤ (rackList r k).length := by
  by_cases h : x.place = .rack r
  · rw [rackList_leaveRack_self k h]; exact List.length_erase_le
  · rw [rackList_leaveRack_ne k h]

theorem putSlab_noLarger (x : Slab) (s : State) : NoLarger s (s.onStock (putSlab x)) :=
  onStock_noLarger (length_putSlab x _).le fun _ => le_rfl

theorem dropSlab_noLarger (n : Nat) (s : State) : NoLarger s (s.onStock (dropSlab n)) :=
  onStock_noLarger (length_dropSlab_le n _) fun _ => le_rfl

theorem leaveRack_noLarger (x : Slab) (s : State) : NoLarger s (s.onStock (leaveRack x)) :=
  onStock_noLarger (by rw [slabs_leaveRack]) (length_leaveRack_le x _)

theorem removeRecord_noLarger (x : Slab) (s : State) : NoLarger s (s.onStock (removeRecord x)) :=
  (leaveRack_noLarger x s).trans (dropSlab_noLarger x.serial _)

theorem placeOnBed_noLarger (x : Slab) (st : Fin 6) (s : State) : NoLarger s (s.onStock (placeOnBed x st)) :=
  (leaveRack_noLarger x s).trans (putSlab_noLarger _ _)

theorem releaseRecord_noLarger (n : Nat) (s : State) : NoLarger s (s.onStock (releaseRecord n)) := by
  cases h : findSlab n s.stock with
  | some x =>
    refine onStock_noLarger ?_ fun r => ?_
    · rw [releaseRecord_of_find h, length_putSlab]
    · rw [releaseRecord_of_find h]; exact le_rfl
  | none =>
    have : releaseRecord n s.stock = s.stock := by simp [releaseRecord, h]
    exact onStock_noLarger (by rw [this]) fun r => by rw [this]

theorem setClass_noLarger (r : Fin 32) (c : SlabKind) (s : State) : NoLarger s (s.onStock (setClass r c)) :=
  onStock_noLarger le_rfl fun _ => le_rfl

/-! ## The Plan Table -/

theorem planLeavesStation_noLarger (st : Fin 6) (p : Fin 16) (s : State) : NoLarger s (planLeavesStation st p s) :=
  (onStation_noLarger st (stationWithout p) s).trans (planLeavesStation_frame st p s).noLarger

theorem unwindCommitted_noLarger (p : Fin 16) (s : State) : NoLarger s (unwindCommitted p s) := by
  unfold unwindCommitted
  split
  · exact (modPieces_noLarger _ unplan s).trans <| (uncountPlacements_noLarger _ _).trans <| (releaseRecord_noLarger _ _).trans <|
      (planLeavesStation_noLarger _ p _).trans (freePlan_noLarger p _)
  · exact .refl s

theorem unwindDraft_noLarger (p : Fin 16) (x : Plan) (s : State) : NoLarger s (unwindDraft p x s) :=
  (modPieces_noLarger _ unplan s).trans <| (releaseRecord_noLarger _ _).trans (freePlan_noLarger p _)

theorem leaveLayoutWork_noLarger (p : Fin 16) (number : Option Nat) (s : State) : NoLarger s (leaveLayoutWork p number s) := by
  unfold leaveLayoutWork
  dsimp only
  split
  · exact (layoutQueue_noLarger (fun l => l.filter fun q => q != p) s).trans (onEngine_noLarger _ _)
  · exact layoutQueue_noLarger (fun l => l.filter fun q => q != p) s

theorem queueForLayout_noLarger {p : Fin 16} {x : Plan} {s : State} (h : s.plan p = some x) :
    NoLarger s (queueForLayout p x s) := by
  refine (putPlan_noLarger (p := p) fun y hy => ?_).trans (layoutQueue_noLarger (fun l => l ++ [p]) _)
  cases hy
  exact ⟨x, h, le_rfl⟩

theorem commitPlan_noLarger {p : Fin 16} {x : Plan} {s : State} (kerf : Nat) (l : Layout) (h : s.plan p = some x) :
    NoLarger s (commitPlan p x kerf l s) := by
  have c := commitPlan_committed p x kerf l s
  unfold commitPlan
  refine (modPieces_noLarger _ unplan s).trans <| (modPieces_noLarger _ queuePiece _).trans <| (countPlacements_noLarger _ _).trans <|
    (onStation_noLarger _ _ _).trans (putPlan_noLarger fun y hy => ?_)
  cases hy
  refine ⟨x, ?_, le_rfl⟩
  rw [countPlacements_state]
  exact h

theorem takeHead_noLarger (s : State) : NoLarger s (takeHead s) := by
  unfold takeHead
  split
  · split
    · rename_i p _ _ x hx
      split
      · split
        · refine (layoutQueue_noLarger List.tail s).trans <| (putPlan_noLarger fun y hy => ?_).trans (onEngine_noLarger _ _)
          cases hy
          exact ⟨x, hx, le_rfl⟩
        · exact .refl s
      · exact .refl s
    · exact .refl s
  · exact .refl s

theorem handOver_noLarger (p : Fin 16) (number kerf : Nat) (l : Layout) (s : State) : NoLarger s (handOver p number kerf l s) := by
  unfold handOver
  split
  · exact .refl s
  · rename_i x hx
    have same : ∀ y : Plan, y.pieces = x.pieces → NoLarger s (s.putPlan p (some y)) := fun y hy =>
      putPlan_noLarger fun z hz => by
        cases hz
        exact ⟨x, hx, by rw [hy]⟩
    split
    · exact .refl s
    · split
      · split
        · exact (same { x with stale := false, phase := .laid kerf l } rfl).trans (raiseNotice_records ..).noLarger
        · exact (same { x with stale := true, phase := .laying none } rfl).trans (layoutQueue_noLarger (fun l => l ++ [p]) _)
      · exact .refl s

theorem completeComputation_noLarger (s : State) : NoLarger s (completeComputation s) := by
  unfold completeComputation
  split
  · exact (onEngine_noLarger _ s).trans (handOver_noLarger ..)
  · exact .refl s

theorem planRemove_noLarger {p : Fin 16} {x : Plan} {s : State} (h : s.plan p = some x) (i : PieceId) :
    NoLarger s ((unplanPieces [i] s).putPlan p (some (redraft (x.pieces.filter fun k => k != i) x))) := by
  refine (modPieces_noLarger [i] unplan s).trans (putPlan_noLarger fun y hy => ?_)
  cases hy
  exact ⟨x, h, List.length_filter_le ..⟩

theorem cancelPieces_noLarger (j : Fin 64) (s : State) : NoLarger s (cancelPieces j s) := by
  have hplan := plan_cancelPieces j s
  have hstate := cancelPieces_state j s
  generalize cancelPieces j s = t at *
  refine ⟨by rw [hstate], fun r => by rw [hstate], ?_, fun p y hy => ?_⟩
  · rw [hstate]; exact List.length_filter_le ..
  · rw [hplan] at hy
    obtain ⟨x, hx, rfl⟩ := Option.map_eq_some_iff.mp hy
    refine ⟨x, hx, ?_⟩
    unfold cancelInPlan
    split
    · split
      · exact List.length_filter_le ..
      · exact le_rfl
    · rw [pieces_onPlacements]

/-! ## The stations -/

theorem loadPlan_noLarger (p : Fin 16) (b : Slab) (st : Fin 6) (s : State) : NoLarger s (loadPlan p b st s) :=
  (placeOnBed_noLarger b st s).trans <|
    (modPlan_noLarger p (fun x => by unfold startCutting; split <;> exact le_rfl) _).trans (onStation_noLarger ..)

theorem restateEntry_noLarger (st : Fin 6) (e : CutEntry) (a : PlaceState) (f : Piece → Piece) (g : Station → Station) (s : State) :
    NoLarger s (restateEntry st e a f g s) :=
  (onPlacements_noLarger e.plan _ s).trans <| (modPieces_noLarger _ f _).trans (onStation_noLarger st g _)

theorem returnPlacements_noLarger (st : Fin 6) (p : Fin 16) (s : State) : NoLarger s (returnPlacements st p s) :=
  (onPlacements_noLarger p _ s).trans <| (onStation_noLarger st _ _).trans (modPieces_noLarger _ unplan _)

/-! ## Moves that add to a collection -/

/-- R9: a record enters a table and a rack that both have room. -/
theorem enterRecord_capacity {s : State} (h : CapacityOk s) (x : Slab) (r : Fin 32) (hslabs : s.stock.slabs.length < 512)
    (hrack : (rackList r s.stock).length < 16) : CapacityOk (s.onStock (enterRecord x r)) := by
  obtain ⟨-, hracks, hpieces, hsets⟩ := h
  refine ⟨?_, fun q => ?_, hpieces, hsets⟩
  · show (addSlab x s.stock).slabs.length ≤ 512
    rw [length_addSlab]; omega
  · show (rackList q (joinRack x.serial r (addSlab x s.stock))).length ≤ 16
    by_cases hq : q = r
    · subst hq
      rw [rackList_joinRack_self, List.length_cons]
      exact hrack
    · rw [rackList_joinRack_ne _ _ hq]
      exact hracks q

/-- R13: a record moves to a rack that has room. -/
theorem moveRecord_capacity {s : State} (h : CapacityOk s) (x : Slab) (r : Fin 32) (hrack : (rackList r s.stock).length < 16) :
    CapacityOk (s.onStock (moveRecord x r)) := by
  obtain ⟨hslabs, hracks, hpieces, hsets⟩ := h
  refine ⟨?_, fun q => ?_, hpieces, hsets⟩
  · show (putSlab _ (joinRack x.serial r (leaveRack x s.stock))).slabs.length ≤ 512
    rw [length_putSlab]
    show (leaveRack x s.stock).slabs.length ≤ 512
    rw [slabs_leaveRack]
    exact hslabs
  · show (rackList q (joinRack x.serial r (leaveRack x s.stock))).length ≤ 16
    have hle := length_leaveRack_le x s.stock q
    by_cases hq : q = r
    · subst hq
      rw [rackList_joinRack_self, List.length_cons]
      omega
    · rw [rackList_joinRack_ne _ _ hq]
      exact hle.trans (hracks q)

/-- R7, R19: a remnant enters a table that has room; its rack has room by choice. -/
theorem createRemnant_capacity {s : State} (h : CapacityOk s) (hslabs : s.stock.slabs.length < 512) (parent : Slab) (len wid : Nat) :
    CapacityOk (createRemnant parent len wid s) := by
  refine (createRemnant_frame parent len wid s).capacity ?_
  obtain ⟨-, hracks, hpieces, hsets⟩ := h
  refine ⟨?_, fun q => ?_, hpieces, hsets⟩
  · show (enterRemnant _ s.stock).slabs.length ≤ 512
    rw [slabs_enterRemnant, length_addSlab]; omega
  · show (rackList q (enterRemnant _ s.stock)).length ≤ 16
    rw [rackList_enterRemnant]
    split
    · rename_i hplace
      change remnantPlace s.stock = .rack q at hplace
      rw [List.length_cons]
      have hroom : remnantRack s.stock = some q := by
        unfold remnantPlace at hplace
        split at hplace
        · rename_i r hr
          cases hplace
          exact hr
        · cases hplace
      exact (remnantRack_room hroom).2
    · exact hracks q

/-- R157: a remnant is kept only with the table not full. -/
theorem remnantChoice_keep {broke : Bool} {c : Candidate} {gen count : Nat} (h : remnantChoice broke c gen count = .keep) :
    count ≠ Config.maxSlabs := fun he => by
  unfold remnantChoice at h
  rw [if_pos he] at h
  split_ifs at h

theorem settleRemnant_capacity {s : State} (h : CapacityOk s) (p : Fin 16) (c : Candidate) (parent : Slab) (broke : Bool) :
    CapacityOk (settleRemnant p c parent (remnantChoice broke c parent.gen s.stock.slabs.length) s) := by
  unfold settleRemnant
  split
  · exact h
  · exact (raiseNotice_records ..).capacity h
  · rename_i hkeep
    refine createRemnant_capacity h ?_ ..
    exact lt_of_le_of_ne h.1 (remnantChoice_keep hkeep)

theorem closePlan_capacity {s : State} (h : CapacityOk s) (p : Fin 16) (broke : Bool) : CapacityOk (closePlan p broke s).state := by
  unfold closePlan
  split
  · split
    · split
      · rename_i x _ kerf l rate _ _ b _
        unfold closeSteps
        dsimp only
        have h2 := settleRemnant_capacity h p l.candidate b broke
        generalize settleRemnant p l.candidate b _ s = t at *
        exact ((wasteCharges_cost ..).records.noLarger.trans <| (uncountPlacements_noLarger _ _).trans <| (dropSlab_noLarger _ _).trans <|
          (freePlan_noLarger p _).trans <| (planLeavesStation_noLarger _ p _).trans (raiseNotice_records ..).noLarger).capacity h2
      · exact h
    · exact h
  · exact h

theorem closeCheck_capacity {s : State} (h : CapacityOk s) (p : Fin 16) : CapacityOk (closeCheck p s).state := by
  unfold closeCheck
  split
  · exact h
  · exact closePlan_capacity h p false

/-- R30: a piece enters a table that has room. -/
theorem enterPiece_capacity {s : State} (h : CapacityOk s) (x : Piece) (hpieces : s.jobs.pieces.length < 1024) :
    CapacityOk (s.onJobs (enterPiece x)) := by
  obtain ⟨hslabs, hracks, -, hsets⟩ := h
  refine ⟨hslabs, hracks, ?_, hsets⟩
  show (insertBy pieceBefore x s.jobs.pieces).length ≤ 1024
  rw [(insertBy_perm pieceBefore x s.jobs.pieces).length_eq, List.length_cons]
  omega

/-- R57: a slot takes a plan whose piece set is within its capacity. -/
theorem putPlan_capacity {s : State} (h : CapacityOk s) (p : Fin 16) {x : Plan} (hx : x.pieces.length ≤ 32) :
    CapacityOk (s.putPlan p (some x)) := by
  obtain ⟨hslabs, hracks, hpieces, hsets⟩ := h
  refine ⟨hslabs, hracks, hpieces, fun q y hy => ?_⟩
  by_cases hq : q = p
  · subst hq
    rw [plan_putPlan_self] at hy
    cases hy
    exact hx
  · rw [plan_putPlan_ne _ _ _ _ hq] at hy
    exact hsets q y hy

theorem planAdd_capacity {s : State} (h : CapacityOk s) (p : Fin 16) {x : Plan} (i : PieceId) (hx : x.pieces.length < 32) :
    CapacityOk ((s.onJobs (modPieces [i] (draftPiece p))).putPlan p (some (redraft (x.pieces ++ [i]) x))) := by
  refine putPlan_capacity ((modPieces_noLarger ..).capacity h) p ?_
  show (x.pieces ++ [i]).length ≤ 32
  simp only [List.length_append, List.length_cons, List.length_nil]
  omega

theorem openPlan_capacity {s : State} (h : CapacityOk s) (p : Fin 16) (b : Slab) (serial : Nat) (st : Fin 6) :
    CapacityOk ((s.onStock (putSlab b)).putPlan p (some (newPlan serial st))) :=
  putPlan_capacity ((putSlab_noLarger ..).capacity h) p (Nat.zero_le _)

theorem reset_capacity : CapacityOk State.reset := by
  refine ⟨by decide, fun r => ?_, by decide, fun p x hx => ?_⟩
  · revert r; decide
  · have hnone : ∀ q : Fin 16, State.reset.plan q = none := by decide
    rw [hnone] at hx
    cases hx

end Sys2Proof.Machine
end

section
/-! The stations' events keep the capacities and the records' agreement (`Kept`): cuts issued and ended, broken slabs, cancelled jobs. -/

namespace Sys2Proof.Machine

/-! ## What every move keeps -/

/-- The capacities are kept, and within them the agreement of the records. -/
structure Kept (s t : State) : Prop where
  capacity : CapacityOk s → CapacityOk t
  records : CapacityOk s → RecordsRead s → RecordsRead t

theorem Kept.refl (s : State) : Kept s s := ⟨id, fun _ => id⟩

theorem Kept.trans {s t u : State} (h : Kept s t) (g : Kept t u) : Kept s u :=
  ⟨fun c => g.capacity (h.capacity c), fun c r => g.records (h.capacity c) (h.records c r)⟩

theorem RecordFrame.kept {s t : State} (h : RecordFrame s t) : Kept s t := ⟨h.capacity, fun _ => h.records⟩

theorem NoLarger.kept {s t : State} (h : NoLarger s t) (hr : RecordsRead s → RecordsRead t) : Kept s t :=
  ⟨h.capacity, fun _ => hr⟩

/-! ## Cuts issued (R88 to R90) -/

theorem RecordFrame.entryState {s t : State} (h : RecordFrame s t) (e : CutEntry) : entryState e t = entryState e s := by
  have hp : t.placements e.plan = s.placements e.plan := by simp only [State.placements, h.plan]
  simp only [Sys2Proof.Machine.entryState, hp]

theorem chooseEntry_spec {st : Fin 6} {s : State} {e : CutEntry} (h : chooseEntry st s = some e) :
    e ∈ (s.station st).queue ∧ (s.station st).current = some e.plan ∧ entryState e s = some .queued := by
  have hw := List.find?_some h
  simp only [waiting, Bool.and_eq_true, beq_iff_eq] at hw
  exact ⟨List.mem_of_find?_eq_some h, hw.1⟩

/-- R90: the station's entry issued, its hold timer idle. -/
def takeEntry (e : CutEntry) (x : Station) : Station :=
  { stopHold x with issued := some e }

theorem issueCut_eq (st : Fin 6) (e : CutEntry) (s : State) :
    issueCut st e s = restateEntry st e .issued issuePiece (takeEntry e) (chargeMeters st 0 s) := rfl

/-- R90: the chosen entry asks for water and, with the permit, is issued. -/
theorem askForCut_kept {s : State} {st : Fin 6} {e : CutEntry} (hmode : (s.station st).mode = .loaded)
    (hissued : (s.station st).issued = none) (hchosen : chooseEntry st s = some e) : Kept s (askForCut st e s).state := by
  have hwater := (waterStep_water st (entryLevel e s) s).records
  unfold askForCut
  dsimp only
  split
  · have hframe := hwater.trans (chargeMeters_records st 0 (waterStep st (entryLevel e s) s))
    rw [issueCut_eq]
    generalize chargeMeters st 0 (waterStep st (entryLevel e s) s) = u at *
    obtain ⟨hmem, hcur, hstate⟩ := chooseEntry_spec hchosen
    have same := hframe.station st
    refine hframe.kept.trans ((restateEntry_noLarger st e .issued issuePiece (takeEntry e) u).kept fun hu => ?_)
    exact issueEntry_records hu (same.mode.trans hmode) (same.issued.trans hissued) (same.current.trans hcur) (same.queue ▸ hmem)
      ((hframe.entryState e).trans hstate) fun _ => ⟨rfl, rfl, rfl, rfl, rfl⟩
  · exact hwater.kept

theorem nextCutReply_kept (st : Fin 6) (s : State) : Kept s (nextCutReply st s).state := by
  unfold nextCutReply
  split
  · exact .refl s
  · rename_i hmode
    split
    · exact .refl s
    · rename_i hissued
      split
      · exact .refl s
      · split
        · rename_i hchosen
          exact askForCut_kept (by simpa using hmode) hissued hchosen
        · exact (withdrawRequest_water st s).records.kept

/-! ## Cuts ended (R93, R167) -/

/-- R93, R167: the entry leaves the station's queue, and no cut is issued. -/
def leaveEntry (e : CutEntry) (x : Station) : Station :=
  { x with queue := x.queue.erase e, issued := none }

theorem finishCut_frame (st : Fin 6) (e : CutEntry) (s : State) :
    RecordFrame (restateEntry st e .cut cutPiece (leaveEntry e) s) (finishCut st e s) :=
  ((startHoldIf_water st _).records.trans (charge_records ..)).trans (chargeMeters_records ..)

theorem finishCut_kept {s : State} {st : Fin 6} {e : CutEntry} (hissued : (s.station st).issued = some e) :
    Kept s (finishCut st e s) :=
  ((restateEntry_noLarger st e .cut cutPiece (leaveEntry e) s).kept fun h => endEntry_records (a := .cut) (f := cutPiece) h hissued (by decide)
    (fun _ => rfl) (fun _ => rfl) (fun _ => rfl) fun _ => ⟨rfl, rfl, rfl, rfl, rfl⟩).trans (finishCut_frame st e s).kept

theorem RecordFrame.onPieces {s t : State} (h : RecordFrame s t) (ids : List PieceId) (f : Piece → Piece) :
    RecordFrame (s.onJobs (modPieces ids f)) (t.onJobs (modPieces ids f)) where
  stock := h.stock
  pieces := by simp only [onJobs_jobs, modPieces, h.pieces]
  counts := h.counts
  current := h.current
  plans := h.plans
  station := h.station

/-- R167: the placement SPOILED and the charges, before the piece's own outcome. -/
theorem spoilCut_eq (st : Fin 6) (e : CutEntry) (s : State) :
    ∃ u, spoilCut st e s = spoilPiece e.piece u ∧
      RecordFrame ((setPlacement e.plan e.index .spoiled s).onStation st (leaveEntry e)) u :=
  ⟨_, rfl, ((startHoldIf_water st _).records.trans (chargeMeters_records ..)).trans (charge_records ..)⟩

theorem spoilPiece_of_find {id : PieceId} {s : State} {x : Piece} (h : findPiece id s.jobs = some x) :
    spoilPiece id s = raiseNotice (spoilNotice x.spoil) id.job (s.onJobs (modPieces [id] spoiledPiece)) := by
  unfold spoilPiece; rw [h]

theorem spoilPiece_noLarger (id : PieceId) (s : State) : NoLarger s (spoilPiece id s) := by
  unfold spoilPiece
  split
  · exact (modPieces_noLarger ..).trans (raiseNotice_records ..).noLarger
  · exact .refl s

theorem spoilCut_noLarger (st : Fin 6) (e : CutEntry) (s : State) : NoLarger s (spoilCut st e s) := by
  obtain ⟨u, he, hu⟩ := spoilCut_eq st e s
  rw [he]
  exact (onPlacements_noLarger e.plan _ s).trans <| (onStation_noLarger ..).trans <| hu.noLarger.trans (spoilPiece_noLarger ..)

/-- R78, R93: the issued entry's piece is in the table. -/
theorem RecordsRead.issued_piece {s : State} (h : RecordsRead s) {st : Fin 6} {e : CutEntry} (he : (s.station st).issued = some e) :
    ∃ y, findPiece e.piece s.jobs = some y ∧ y.state = .issued ∧ y.plan = some e.plan := by
  obtain ⟨-, -, x, z, hx, hcut, -, hz, hst, hp⟩ := h.issued_facts he
  refine (h.pieces.held .issued e.plan e.piece).mp ⟨z, ?_, hp, hst⟩
  rw [hx, committedOf_of_after (isCutting_committedOrCutting hcut)]
  exact List.mem_of_getElem? hz

theorem spoilCut_frame {s : State} (h : RecordsRead s) {st : Fin 6} {e : CutEntry} (hissued : (s.station st).issued = some e) :
    RecordFrame (restateEntry st e .spoiled spoiledPiece (leaveEntry e) s)
      (spoilCut st e s) := by
  obtain ⟨u, he, hu⟩ := spoilCut_eq st e s
  obtain ⟨y, hy, -⟩ := h.issued_piece hissued
  have hpieces : u.jobs.pieces = s.jobs.pieces := by
    rw [hu.pieces]
    show (setPlacement e.plan e.index .spoiled s).jobs.pieces = _
    rw [setPlacement_state]
  rw [he, spoilPiece_of_find ((findPiece_congr _ hpieces).trans hy)]
  exact (hu.onPieces [e.piece] spoiledPiece).trans (raiseNotice_records ..)

theorem spoilCut_records {s : State} (h : RecordsRead s) {st : Fin 6} {e : CutEntry} (hissued : (s.station st).issued = some e) :
    RecordsRead (spoilCut st e s) := by
  refine (spoilCut_frame h hissued).records (endEntry_records (f := spoiledPiece) h hissued (by decide) (fun _ => rfl) (fun _ => rfl) (fun x => ?_)
    fun _ => ⟨rfl, rfl, rfl, rfl, rfl⟩)
  by_cases hc : x.spoil + 1 < 3 <;> simp [inWork, spoiledPiece, hc]

theorem closeCheck_kept (p : Fin 16) (s : State) : Kept s (closeCheck p s).state :=
  ⟨fun c => closeCheck_capacity c p, fun c h => closeCheck_records h c.1 p⟩

theorem afterCut_kept (st : Fin 6) (p : Fin 16) (s : State) : Kept s (afterCut st p s).state :=
  (closeCheck_kept p s).trans (releaseIfMarked_water st _).records.kept

theorem reportedEntry_issued {st : Fin 6} {plan index : Nat} {s : State} {e : CutEntry} (h : reportedEntry st plan index s = some e) :
    (s.station st).issued = some e := by
  unfold reportedEntry at h
  split at h
  · rename_i d hd
    split at h
    · cases h; exact hd
    · cases h
  · cases h

/-! ## Broken slabs (R169, R170) -/

/-- R170: once the issued cut is spoiled the station stands LOADED with its current plan and no cut issued. -/
theorem spoilIssued_records {s : State} (h : RecordsRead s) (st : Fin 6) :
    RecordsRead (spoilIssued st s) ∧ ((spoilIssued st s).station st).mode = (s.station st).mode ∧
      ((spoilIssued st s).station st).current = (s.station st).current ∧ ((spoilIssued st s).station st).issued = none := by
  unfold spoilIssued
  split
  · rename_i e he
    have same := (spoilCut_frame h he).station st
    rw [restateEntry, station_onStation_self, setPlacement_state] at same
    exact ⟨spoilCut_records h he, same.mode, same.current, same.issued⟩
  · rename_i he
    exact ⟨h, rfl, rfl, he⟩

theorem spoilIssued_noLarger (st : Fin 6) (s : State) : NoLarger s (spoilIssued st s) := by
  unfold spoilIssued
  split
  · exact spoilCut_noLarger ..
  · exact .refl s

theorem returnQueued_noLarger (st : Fin 6) (p : Fin 16) (s : State) : NoLarger s (returnQueued st p s) :=
  (returnPlacements_noLarger st p s).trans (returnQueued_frame st p s).noLarger

theorem breakPlan_kept {s : State} {st : Fin 6} {p : Fin 16} (hmode : (s.station st).mode = .loaded)
    (hcur : (s.station st).current = some p) : Kept s (breakPlan st p s).state := by
  have hle := (spoilIssued_noLarger st s).trans (returnQueued_noLarger st p _)
  refine ⟨fun c => closePlan_capacity (hle.capacity c) p true, fun c h => ?_⟩
  obtain ⟨hu, humode, hucur, huissued⟩ := spoilIssued_records h st
  unfold breakPlan
  have hclen := (hle.capacity c).1
  generalize spoilIssued st s = u at *
  obtain ⟨q, x, hq, hx, hcut⟩ := currentCutting_iff.mp ((hu.stations st).loaded (humode.trans hmode))
  obtain rfl : q = p := Option.some.inj (hq.symm.trans (hucur.trans hcur))
  obtain ⟨y, hy, hst, -⟩ := (hu.stations st).plan_of_role (.inl hq)
  obtain rfl : y = x := Option.some.inj (hy.symm.trans hx)
  subst hst
  obtain ⟨ht, hdone⟩ := returnPlacements_records hu hx hcut huissued
  have hframe := returnQueued_frame y.station q u
  exact closePlan_records (hframe.records ht) hclen true fun z hz => hdone z (by rwa [hframe.plan] at hz)

theorem breakReply_kept (st : Fin 6) (s : State) : Kept s (breakReply st s).state := by
  unfold breakReply
  split
  · exact .refl s
  · rename_i hmode
    split
    · rename_i p hcur
      exact breakPlan_kept (by simpa using hmode) hcur
    · exact .refl s

/-! ## Jobs cancelled (R171 to R174) -/

theorem modJob_records (j : Fin 64) {f : Job → Job} (hf : ∀ b, (f b).openCount = b.openCount) (s : State) :
    RecordFrame s (s.modJob j f) where
  stock := by rw [modJob_state]
  pieces := modJob_pieces ..
  counts i := by
    rw [job_modJob]
    split
    · rw [Option.map_map]
      exact congrArg (fun g => (s.job i).map g) (funext hf)
    · rfl
  current := by rw [modJob_state]
  plans := by rw [modJob_state]
  station q := by rw [modJob_state]; exact .refl _

theorem cancelPlan_kept (c : CancelTally) (p : Fin 16) : Kept c.state (cancelPlan c p).state := by
  unfold cancelPlan
  split
  · rename_i x hx
    split
    · rename_i kerf l rate hphase
      split
      · exact (unwindCommitted_noLarger ..).kept fun h => unwindCommitted_records h hx hphase
      · exact .refl _
    · exact closeCheck_kept p _
    · exact .refl _
  · exact .refl _

theorem cancelPlans_kept (l : List (Fin 16)) (c : CancelTally) : Kept c.state (l.foldl cancelPlan c).state := by
  induction l generalizing c with
  | nil => exact .refl _
  | cons p l ih => exact (cancelPlan_kept c p).trans (ih _)

theorem cancelEffects_kept (j : Fin 64) (s : State) : Kept s (cancelEffects j s).state := by
  have hmark := modJob_records j (f := fun b => { b with state := .cancelling }) (fun _ => rfl) s
  unfold cancelEffects
  generalize s.modJob j _ = t at *
  have hpieces : Kept t (cancelPieces j t) := (cancelPieces_noLarger j t).kept fun h => cancelPieces_records h j
  generalize cancelPieces j t = u at *
  exact (hmark.kept.trans hpieces).trans (cancelPlans_kept _ ⟨u, 0, 0, none⟩)

end Sys2Proof.Machine
end

section
/-! Every command keeps the capacities and the records' agreement (O23): block by block, then the dispatch. -/

namespace Sys2Proof.Machine

/-! ## The checks of a request -/

theorem withRecord_kept {serial check : Nat} {k : Slab → Reply} {s : State}
    (h : ∀ x, findSlab x.serial s.stock = some x → Kept s (k x).state) : Kept s (withRecord serial check k s).state := by
  unfold withRecord
  split
  · exact .refl s
  · split
    · rename_i x hx
      exact h x (by rw [findSlab_serial hx]; exact hx)
    · exact .refl s

theorem withJob_kept {job : Nat} {k : Fin 64 → Job → Reply} {s : State} (h : ∀ j b, s.job j = some b → Kept s (k j b).state) :
    Kept s (withJob job k s).state := by
  unfold withJob
  split
  · exact .refl s
  · split
    · rename_i b hb
      exact h _ b hb
    · exact .refl s

theorem withPiece_kept {job idx : Nat} {k : Job → Piece → Reply} {s : State}
    (h : ∀ b x, findPiece x.id s.jobs = some x → Kept s (k b x).state) : Kept s (withPiece job idx k s).state := by
  refine withJob_kept fun j b _ => ?_
  split
  · exact .refl s
  · split
    · rename_i x hx
      exact h b x (by rw [findPiece_id hx]; exact hx)
    · exact .refl s

theorem withPlan_kept {plan : Nat} {k : Fin 16 → Plan → Reply} {s : State} (h : ∀ p x, s.plan p = some x → Kept s (k p x).state) :
    Kept s (withPlan plan k s).state := by
  unfold withPlan
  split
  · exact .refl s
  · split
    · rename_i x hx
      exact h _ x hx
    · exact .refl s

theorem withStation_kept {station : Nat} {k : Fin 6 → Reply} {s : State} (h : ∀ st, Kept s (k st).state) :
    Kept s (withStation station k s).state := by
  unfold withStation
  split
  · exact .refl s
  · exact h _

theorem whenRunning_kept {k : Reply} {s : State} (h : Kept s k.state) : Kept s (whenRunning k s).state := by
  unfold whenRunning
  split
  · exact .refl s
  · exact h

/-- A served request keeps what its block's work keeps. -/
theorem serve_kept {size : Nat} {work : State → Reply} {s t : State} (hstep : serve size work s = .next t)
    (h : ∀ u, Kept u (work u).state) : Kept s t := by
  rw [serve_eq] at hstep
  cases hstep
  exact (takeFrame_records _ s).kept.trans <| (h _).trans (putResponse_records ..).kept

/-! ## The Stock Table -/

theorem RecordsRead.kept_stock {s : State} {f : Stock → Stock} (hcap : CapacityOk s → CapacityOk (s.onStock f))
    (h : StockReads s → StockReads (s.onStock f)) : Kept s (s.onStock f) :=
  ⟨hcap, fun _ hr => hr.onStock (h hr.stock)⟩

theorem admitReply_kept (serial check kind material thickness nomLen nomWid head tail near far rack : Nat) (s : State) :
    Kept s (admitReply serial check kind material thickness nomLen nomWid head tail near far rack s).state := by
  unfold admitReply
  split_ifs with _ _ hdup _ hslabs hrack
  iterate 6 exact .refl s
  refine RecordsRead.kept_stock (fun c => ?_) fun h => ?_
  · exact enterRecord_capacity c _ _ (by simpa using hslabs) (by simpa using hrack)
  · have hfree : findSlab serial s.stock = none := by simpa using hdup
    exact enterRecord_reads h hfree rfl rfl rfl

theorem listStockReply_kept (material minLen minWid selector : Nat) (s : State) :
    Kept s (listStockReply material minLen minWid selector s).state := by
  unfold listStockReply
  split
  · exact .refl s
  · split <;> exact .refl s

theorem moveReply_kept {x : Slab} {s : State} (hx : findSlab x.serial s.stock = some x) (rack : Nat) :
    Kept s (moveReply rack x s).state := by
  unfold moveReply
  split_ifs with _ hsaw _ _ hrack
  iterate 5 exact .refl s
  exact RecordsRead.kept_stock (fun c => moveRecord_capacity c x _ (by simpa using hrack)) fun h => moveRecord_reads h hx hsaw

theorem changeState_kept {x : Slab} {s : State} (hx : findSlab x.serial s.stock = some x) {before after : SlabState}
    (hbefore : before = .available ∨ before = .held) (hafter : after = .available ∨ after = .held) :
    Kept s (changeState before after x s).state := by
  unfold changeState
  split_ifs with hst
  · exact .refl s
  · have hst : x.state = before := by simpa using hst
    exact RecordsRead.kept_stock (putSlab_noLarger _ s).capacity fun h =>
      putFree_reads h (x := x) (y := { x with state := after }) hx (hst ▸ hbefore) hafter rfl rfl

theorem unclaimed_iff {x : Slab} : unclaimed x = true ↔ x.state = .available ∨ x.state = .held := by simp [unclaimed]

theorem trimReply_kept {x : Slab} {s : State} (hx : findSlab x.serial s.stock = some x) (head tail near far : Nat) :
    Kept s (trimReply head tail near far x s).state := by
  unfold trimReply
  split_ifs with hfree _
  iterate 2 exact .refl s
  have hfree : x.state = .available ∨ x.state = .held := unclaimed_iff.mp (by simpa using hfree)
  exact RecordsRead.kept_stock (putSlab_noLarger _ s).capacity fun h =>
    putFree_reads h (x := x) (y := { x with head := head, tail := tail, near := near, far := far }) hx hfree hfree rfl rfl

theorem retireReply_kept {x : Slab} {s : State} (hx : findSlab x.serial s.stock = some x) : Kept s (retireReply x s).state := by
  unfold retireReply
  split_ifs with hfree _
  iterate 2 exact .refl s
  exact RecordsRead.kept_stock (removeRecord_noLarger x s).capacity fun h => removeRecord_reads h hx (unclaimed_iff.mp (by simpa using hfree))

/-- R6: no record reads a rack's class. -/
theorem setClass_reads {s : State} (h : StockReads s) (r : Fin 32) (c : SlabKind) : StockReads (s.onStock (setClass r c)) :=
  ⟨h.ascending, h.counter, h.once, h.lists, fun n x hx => (h.fits n x hx).of_view fun _ _ => rfl, h.claimed⟩

theorem rackClassReply_kept (rack cls : Nat) (s : State) : Kept s (rackClassReply rack cls s).state := by
  unfold rackClassReply
  split
  · exact .refl s
  · split
    · exact RecordsRead.kept_stock (setClass_noLarger ..).capacity fun h => setClass_reads h _ _
    · exact .refl s

/-! ## The Job Table -/

theorem openJobReply_kept (job level budget hold : Nat) (s : State) : Kept s (openJobReply job level budget hold s).state := by
  unfold openJobReply
  split_ifs with _ hused
  iterate 2 exact .refl s
  split
  · exact (putJob_noLarger ..).kept fun h => openJob_records h (by simpa using hused) rfl
  · exact .refl s

theorem addPieceReply_kept {j : Fin 64} {b : Job} {s : State} (hj : s.job j = some b) (len wid grain : Nat) :
    Kept s (addPieceReply len wid grain j b s).state := by
  have enters : ∀ i g, s.jobs.pieces.length < 1024 → freeIndex j s.jobs = some i →
      Kept s (s.onJobs (enterPiece (newPiece j i len wid g))) := fun i g hroom hi => by
    have hfree := List.find?_some hi
    have hidx : i < 48 := List.mem_range.mp (List.mem_of_find?_eq_some hi)
    refine ⟨fun c => enterPiece_capacity c _ hroom, fun _ h => ?_⟩
    exact addPiece_records h (by simpa [newPiece] using hfree) (Nat.le_of_lt_succ hidx) (by simp [newPiece, hj]) rfl rfl
  unfold addPieceReply
  split
  · exact .refl s
  split
  · exact .refl s
  split
  · exact .refl s
  split
  · exact .refl s
  split
  · exact .refl s
  rename_i hroom
  split
  · rename_i i hi
    exact enters i _ (by simpa using hroom) hi
  · exact .refl s

theorem deletePieceReply_kept {x : Piece} {s : State} (hx : findPiece x.id s.jobs = some x) : Kept s (deletePieceReply x s).state := by
  unfold deletePieceReply
  split_ifs with hdel
  · exact .refl s
  · exact (deletePieces_noLarger _ s).kept fun h => deletePiece_records h hx (by simpa using hdel)

theorem releasePieceReply_kept {x : Piece} {s : State} (hx : findPiece x.id s.jobs = some x) (b : Job) :
    Kept s (releasePieceReply b x s).state := by
  unfold releasePieceReply
  split_ifs with _ hheld
  iterate 2 exact .refl s
  exact (modPieces_noLarger _ _ s).kept fun h => releasePiece_records h hx (by simpa using hheld)

theorem setJobReply_kept {j : Fin 64} {b : Job} {s : State} (hj : s.job j = some b) (level budget hold : Nat) :
    Kept s (setJobReply level budget hold j b s).state := by
  unfold setJobReply
  split
  · exact .refl s
  · split
    · exact .refl s
    · rename_i hflag _
      have hput := putJob_records (d := setJobRecord level budget hflag b) hj rfl
      dsimp only
      split
      · exact (hput.trans (raiseNotice_records ..)).kept
      · exact hput.kept

theorem readJobReply_kept (first : Nat) (j : Fin 64) (b : Job) (s : State) : Kept s (readJobReply first j b s).state := by
  unfold readJobReply
  split <;> exact .refl s

theorem freeJob_noLarger (j : Fin 64) (s : State) : NoLarger s (freeJob j s) :=
  (deletePieces_noLarger _ s).trans (putJob_noLarger ..)

theorem closeJobReply_kept {j : Fin 64} {b : Job} {s : State} (hj : s.job j = some b) : Kept s (closeJobReply j b s).state := by
  unfold closeJobReply
  split_ifs with _ hwork hopen
  iterate 3 exact .refl s
  exact (freeJob_noLarger j s).kept fun h => freeJob_records h hj (by omega) (by simpa using hwork)

/-! ## The Plan Table and the layout work -/

theorem openPlanReply_kept (serial check station : Nat) (s : State) : Kept s (openPlanReply serial check station s).state := by
  unfold openPlanReply
  split_ifs
  iterate 2 exact .refl s
  split
  · exact .refl s
  · rename_i x hx
    split_ifs with hst _
    iterate 2 exact .refl s
    split
    · exact .refl s
    · rename_i p hp
      have hfree : s.plan p = none := by simpa [State.plan] using List.find?_some hp
      obtain rfl := findSlab_serial hx
      exact ⟨fun c => openPlan_capacity c p _ _ _, fun _ h => openPlan_records h _ hx (by simpa using hst) hfree⟩

theorem beforeCommit_of_checks {x : Plan} (h : ¬isCommittedOrCutting x = true) : beforeCommit x = true :=
  beforeCommit_of_not (by simpa using h)

theorem planAddReply_kept {p : Fin 16} {x : Plan} {y : Piece} {s : State} (hx : s.plan p = some x)
    (hy : findPiece y.id s.jobs = some y) (b : Job) : Kept s (planAddReply p x b y s).state := by
  unfold planAddReply
  split_ifs with hlay hcom _ hst hroom
  iterate 5 exact .refl s
  refine ⟨fun c => planAdd_capacity c p y.id (by simpa using hroom), fun _ h => ?_⟩
  exact planAdd_records h hx (by simpa using hlay) (beforeCommit_of_checks hcom) hy (by simpa using hst)

theorem planRemoveReply_kept {p : Fin 16} {x : Plan} {s : State} (hx : s.plan p = some x) (y : Piece) :
    Kept s (planRemoveReply p x y s).state := by
  unfold planRemoveReply
  split_ifs with hlay hcom hin
  iterate 3 exact .refl s
  exact (planRemove_noLarger hx y.id).kept fun h =>
    planRemove_records h hx (by simpa using hlay) (beforeCommit_of_checks hcom) (by simpa using hin)

theorem layoutReply_kept {p : Fin 16} {x : Plan} {s : State} (hx : s.plan p = some x) : Kept s (layoutReply p x s).state := by
  unfold layoutReply
  split_ifs with hlay hcom _
  iterate 3 exact .refl s
  exact (queueForLayout_noLarger hx).kept fun h => queueForLayout_records h hx (by simpa using hlay) (beforeCommit_of_checks hcom)

theorem commitReply_kept {p : Fin 16} {x : Plan} {s : State} (hx : s.plan p = some x) : Kept s (commitReply p x s).state := by
  unfold commitReply
  split
  · exact .refl s
  · rename_i kerf l hphase
    split_ifs with _ _ hfull _
    iterate 4 exact .refl s
    refine (commitPlan_noLarger kerf l hx).kept fun h => (commitPlan_committed p x kerf l s).records h hx hphase ?_
    have : (s.station x.station).current.isSome = false ∨ (s.station x.station).next.isSome = false := by
      simpa only [Bool.and_eq_true, not_and_or, Bool.not_eq_true] using hfull
    simpa using this
  · exact .refl s

theorem abandonReply_kept {p : Fin 16} {x : Plan} {s : State} (hx : s.plan p = some x) : Kept s (abandonReply p x s).state := by
  unfold abandonReply
  split
  · exact .refl s
  · rename_i hphase
    exact (unwindCommitted_noLarger p s).kept fun h => unwindCommitted_records h hx hphase
  · rename_i n hphase
    exact ((leaveLayoutWork_noLarger p n s).trans (unwindDraft_noLarger p x _)).kept fun h => unwindLaying_records h hx hphase
  · rename_i hphase
    exact (unwindDraft_noLarger p x s).kept fun h =>
      unwindDraft_records h hx (draft_views hphase).1 (by simp [isLaying, hphase])
  · rename_i hphase
    exact (unwindDraft_noLarger p x s).kept fun h =>
      unwindDraft_records h hx (laid_views hphase).1 (by simp [isLaying, hphase])

theorem withPlanPart_kept {plan first : Nat} {k : Fin 16 → Plan → Reply} {s : State} (h : ∀ p x, Kept s (k p x).state) :
    Kept s (withPlanPart plan first k s).state := by
  refine withPlan_kept fun p x _ => ?_
  split
  · exact .refl s
  · exact h p x

theorem layoutPart_kept (body : Layout → List Byte) (x : Plan) (s : State) : Kept s (layoutPart body x s).state := by
  unfold layoutPart
  split <;> exact .refl s

theorem takeHead_kept (s : State) : Kept s (takeHead s) := (takeHead_noLarger s).kept fun h => takeHead_records h

theorem completeComputation_kept (s : State) : Kept s (completeComputation s) :=
  (completeComputation_noLarger s).kept fun h => completeComputation_records h

/-! ## The Station Units -/

theorem onlineReply_kept (maxThick : Nat) (st : Fin 6) (s : State) : Kept s (onlineReply maxThick st s).state := by
  unfold onlineReply
  split
  · exact .refl s
  rename_i hmode
  split
  · exact .refl s
  exact (onStation_noLarger ..).kept fun h => online_records h maxThick (by simpa using hmode)

theorem takeOffline_noLarger (st : Fin 6) (s : State) : NoLarger s (takeOffline st s) :=
  (onStation_noLarger ..).trans (dropWater_water st _).records.noLarger

theorem offlineReply_kept (st : Fin 6) (s : State) : Kept s (offlineReply st s).state := by
  unfold offlineReply
  split_ifs with hissued _ _
  iterate 3 exact .refl s
  exact (takeOffline_noLarger st s).kept fun h => takeOffline_records h (by simpa using hissued)

/-- A station's settings, meters and timers are in no other record. -/
theorem settings_kept {st : Fin 6} {f : Station → Station} {s : State} (hf : ∀ x, StationSame x (f x)) : Kept s (s.onStation st f) :=
  (onStation_records (hf _)).kept

theorem bladeReply_kept (kerf life : Nat) (st : Fin 6) (s : State) : Kept s (bladeReply kerf life st s).state := by
  unfold bladeReply
  split_ifs
  iterate 3 exact .refl s
  exact settings_kept (f := fun x => { x with kerf := kerf, life := life, bladeMeter := 0 }) fun _ => ⟨rfl, rfl, rfl, rfl, rfl⟩

theorem loadReply_kept (serial : Nat) (st : Fin 6) (s : State) : Kept s (loadReply serial st s).state := by
  unfold loadReply
  split_ifs with hmode
  · exact .refl s
  · split
    · exact .refl s
    · rename_i p hcur
      split_ifs with hserial
      · exact .refl s
      · split
        · exact .refl s
        · rename_i b hb
          unfold loadChecks
          split_ifs
          iterate 2 exact .refl s
          obtain rfl := findSlab_serial hb
          exact (loadPlan_noLarger p b st s).kept fun h => loadPlan_records h (by simpa using hmode) hcur (by simpa using hserial) hb

theorem reported_kept {station plan index : Nat} {k : Fin 6 → CutEntry → Reply} {s : State}
    (h : ∀ st e, (s.station st).issued = some e → Kept s (k st e).state) :
    Kept s (withStation station (fun st =>
      match reportedEntry st plan index s with
      | some e => k st e
      | none => refuse s .badState) s).state := by
  refine withStation_kept fun st => ?_
  split
  · rename_i e he
    exact h st e (reportedEntry_issued he)
  · exact .refl s

theorem cutDoneReply_kept {st : Fin 6} {e : CutEntry} {s : State} (h : (s.station st).issued = some e) :
    Kept s (cutDoneReply st e s).state := by
  have hafter := afterCut_kept st e.plan (finishCut st e s)
  unfold cutDoneReply
  generalize afterCut st e.plan (finishCut st e s) = c at *
  exact (finishCut_kept h).trans hafter

theorem cutSpoiledReply_kept {st : Fin 6} {e : CutEntry} {s : State} (h : (s.station st).issued = some e) :
    Kept s (cutSpoiledReply st e s).state := by
  have hafter := afterCut_kept st e.plan (spoilCut st e s)
  unfold cutSpoiledReply
  generalize afterCut st e.plan (spoilCut st e s) = c at *
  exact ((spoilCut_noLarger st e s).kept fun hr => spoilCut_records hr h).trans hafter

theorem cancelReply_kept (j : Fin 64) (b : Job) (s : State) : Kept s (cancelReply j b s).state := by
  unfold cancelReply
  split
  · exact .refl s
  · exact cancelEffects_kept j s

/-! ## Water, plant and costs -/

theorem setWaterReply_kept (flow hold : Nat) (st : Fin 6) (s : State) : Kept s (setWaterReply flow hold st s).state := by
  exact settings_kept (f := fun x => { x with flow := clampFlow flow, holdSetting := hold }) fun _ => ⟨rfl, rfl, rfl, rfl, rfl⟩

theorem setArbiterReply_kept (capacity f0 f1 f2 f3 f4 f5 f6 f7 : Nat) (s : State) :
    Kept s (setArbiterReply capacity f0 f1 f2 f3 f4 f5 f6 f7 s).state :=
  ((onArbiter_records _ s).trans <| (reformFloor_water _).records.trans (arbitrate_water _).records).kept

theorem plantStartReply_kept (mode reset : Nat) (s : State) : Kept s (plantStartReply mode reset s).state := by
  refine whenRunning_kept ?_
  split
  · exact (plantStartEffects_plantFrame ..).records.kept
  · exact .refl s

theorem bufferModeReply_kept (value : Nat) (s : State) : Kept s (bufferModeReply value s).state := by
  unfold bufferModeReply
  split
  · rename_i f _
    exact (onPlant_records (fun p => { p with bufferMode := f }) s).kept
  · exact .refl s

theorem plantSetReply_kept (name value : Nat) (s : State) : Kept s (plantSetReply name value s).state := by
  unfold plantSetReply
  split
  · exact (writeSetting_plantFrame ..).records.kept
  · split
    · exact bufferModeReply_kept value s
    · exact .refl s

theorem materialRateReply_kept (code rate : Nat) (s : State) : Kept s (materialRateReply code rate s).state := by
  unfold materialRateReply
  split
  · exact .refl s
  · exact (onRates_records _ s).kept

theorem machineRateReply_kept (rate : Nat) (st : Fin 6) (s : State) : Kept s (machineRateReply rate st s).state := by
  exact settings_kept (f := fun x => { x with machineRate := clampRate rate }) fun _ => ⟨rfl, rfl, rfl, rfl, rfl⟩

theorem clearOverheadReply_kept (s : State) : Kept s (clearOverheadReply s).state := by
  unfold clearOverheadReply
  split
  · rename_i b hb
    exact (putJob_records (d := clearCost b) hb rfl).kept
  · exact .refl s

/-! ## The Timebase -/

theorem sampleStation_records (spin : BitVec 6) (s : State) (st : Fin 6) : RecordFrame s (sampleStation spin s st) := by
  have hsample : RecordFrame s (s.onStation st (sampleSpindle spin[st])) := by
    refine onStation_records ?_
    unfold sampleSpindle
    split_ifs <;> exact ⟨rfl, rfl, rfl, rfl, rfl⟩
  unfold sampleStation
  dsimp only
  split_ifs
  · exact hsample.trans (onStation_records ⟨rfl, rfl, rfl, rfl, rfl⟩)
  · exact hsample.trans <| (onStation_records ⟨rfl, rfl, rfl, rfl, rfl⟩).trans (startHoldIf_water ..).records
  · exact hsample

theorem sampleAll_records (spin : BitVec 6) (s : State) : RecordFrame s (sampleAll spin s) :=
  (onPins_records _ s).trans (foldl_rel (R := RecordFrame) .refl (fun _ _ _ => .trans) _ (sampleStation_records spin) _ _)

theorem tickStation_same (valve permit : Bool) (x : Station) : StationSame x (tickStation valve permit x) := by
  have hrun : StationSame x (runTick x) := by
    unfold runTick
    split <;> exact ⟨rfl, rfl, rfl, rfl, rfl⟩
  have hwater : ∀ y : Station, StationSame y (waterTick y) := fun y => by
    unfold waterTick
    split_ifs <;> exact ⟨rfl, rfl, rfl, rfl, rfl⟩
  have hdry : ∀ y : Station, StationSame y (dryTick y) := fun y => by
    unfold dryTick
    split <;> exact ⟨rfl, rfl, rfl, rfl, rfl⟩
  have hhold : ∀ y : Station, StationSame y (holdTick y) := fun _ => ⟨rfl, rfl, rfl, rfl, rfl⟩
  have hvalve : StationSame (runTick x) (if valve then waterTick (runTick x) else runTick x) := by
    split
    · exact hwater _
    · exact .refl _
  unfold tickStation
  dsimp only
  generalize (if valve then waterTick (runTick x) else runTick x) = y at *
  refine (hrun.trans hvalve).trans (.trans ?_ (hhold _))
  split
  · exact hdry y
  · exact .refl y

theorem tickStations_records (s : State) : RecordFrame s (tickStations s) :=
  foldl_rel (R := RecordFrame) .refl (fun _ _ _ => .trans) _ (fun _ _ => onStation_records (tickStation_same ..)) _ _

theorem ite_records {c : Prop} [Decidable c] {s t u : State} (ht : RecordFrame s t) (hu : RecordFrame s u) :
    RecordFrame s (if c then t else u) := by
  split
  · exact ht
  · exact hu

theorem sampleSump_records (v : Fin 8) (s : State) : RecordFrame s (sampleSump v s) := by
  unfold sampleSump sumpChanged sumpTest
  have ht := onPlant_records (fun p => { p with sump := sampleFilter v p.sump }) s
  dsimp only
  refine ite_records ht (ht.trans ?_)
  generalize s.onPlant _ = t
  have hb := raiseNotice_records .band 0 t
  have hh : RecordFrame t (if t.plant.sump.accepted = 7 then raiseNotice .sumpHigh 0 (raiseNotice .band 0 t) else raiseNotice .band 0 t) :=
    ite_records (hb.trans (raiseNotice_records ..)) hb
  generalize (if t.plant.sump.accepted = 7 then _ else raiseNotice .band 0 t) = u at *
  have hf := hh.trans (reformFloor_water u).records
  exact ite_records (hf.trans (startTest_plantFrame _).records) hf

theorem sampleSettling_records (v : Fin 8) (s : State) : RecordFrame s (sampleSettling v s) := by
  unfold sampleSettling settlingChanged settlingTest
  have ht := onPlant_records (fun p => { p with settling := sampleFilter v p.settling }) s
  dsimp only
  refine ite_records ht (ht.trans ?_)
  generalize s.onPlant _ = t
  have hb := raiseNotice_records .band 1 t
  exact ite_records (hb.trans (fillTest_plantFrame _).records) (ite_records (hb.trans (decantEndTest_plantFrame _).records) hb)

theorem sampleClean_records (v : Fin 8) (s : State) : RecordFrame s (sampleClean v s) := by
  unfold sampleClean cleanChanged cleanBandTest
  have ht := onPlant_records (fun p => { p with clean := sampleFilter v p.clean }) s
  dsimp only
  refine ite_records ht (ht.trans ?_)
  generalize s.onPlant _ = t
  have hb := raiseNotice_records .band 2 t
  have hw : RecordFrame t (if t.plant.clean.accepted = 0 then revokeAll (raiseNotice .band 2 t)
      else arbitrate (reformFloor (raiseNotice .band 2 t))) :=
    ite_records (hb.trans (revokeAll_water _).records) (hb.trans <| (reformFloor_water _).records.trans (arbitrate_water _).records)
  generalize (if t.plant.clean.accepted = 0 then _ else _) = u at *
  exact ite_records (hw.trans (cleanTest_plantFrame _).records) hw

theorem sampleTurbidity_records (v : Bool) (s : State) : RecordFrame s (sampleTurbidity v s) := by
  unfold sampleTurbidity turbidityChanged
  have ht := onPlant_records (fun p => { p with turbidity := sampleFilter v p.turbidity }) s
  exact ite_records ht (ht.trans (ite_records (decantEndTest_plantFrame _).records (.refl _)))

theorem decisecond_records (sump settling clean : Fin 8) (cloudy : Bool) (s : State) :
    RecordFrame s (decisecond sump settling clean cloudy s) :=
  (onPins_records _ s).trans <| (tickStations_records _).trans <| (sampleSump_records ..).trans <|
    (sampleSettling_records ..).trans <| (sampleClean_records ..).trans (sampleTurbidity_records ..)

theorem takeDryRun_records (st : Fin 6) (s : State) : RecordFrame s (takeDryRun st s) :=
  ite_records ((onStation_records ⟨rfl, rfl, rfl, rfl, rfl⟩).trans (raiseNotice_records ..)) (.refl s)

theorem takeBladeLife_records (st : Fin 6) (s : State) : RecordFrame s (takeBladeLife st s) :=
  ite_records ((onStation_records ⟨rfl, rfl, rfl, rfl, rfl⟩).trans (raiseNotice_records ..)) (.refl s)

theorem expireHold_records (st : Fin 6) (s : State) : RecordFrame s (expireHold st s) :=
  ite_records ((onStation_records ⟨rfl, rfl, rfl, rfl, rfl⟩).trans (releaseIfHeld_water ..).records) (.refl s)

/-! ## The link and the shop mode -/

theorem changeMode_records (m : ShopMode) (s : State) : RecordFrame s (changeMode m s) :=
  (onLink_records _ s).trans <| (reformFloor_water _).records.trans (arbitrate_water _).records

theorem openShopReply_kept (shortMin longMin : Nat) (s : State) : Kept s (openShopReply shortMin longMin s).state := by
  unfold openShopReply
  split
  · exact .refl s
  · exact ((onEngine_records (f := storeMinimums shortMin longMin) rfl).trans (changeMode_records .running _)).kept

theorem closeStations_noLarger (s : State) : NoLarger s (closeStations s) :=
  foldl_rel (R := NoLarger) .refl (fun _ _ _ => .trans) _ (fun t st => takeOffline_noLarger st t) _ _

theorem closeShopReply_kept (s : State) : Kept s (closeShopReply s).state := by
  unfold closeShopReply
  split
  · exact .refl s
  split
  · exact .refl s
  rename_i hidle
  have hidle : ∀ st, (s.station st).issued = none := fun st => by
    have hall : allStations.any (holdsIssued s) = false := by simpa using hidle
    simpa [holdsIssued] using List.any_eq_false.mp hall st (mem_allStations st)
  exact ((closeStations_noLarger s).kept fun h => closeStations_records h hidle).trans
    ((stopPlant_plantFrame _).records.trans (changeMode_records .loading _)).kept

theorem answerFrame_kept {work : State → Reply} (n : Nat) {s : State} (h : ∀ t, Kept t (work t).state) :
    Kept s (answerFrame n work s) :=
  (takeFrame_records n s).kept.trans <| (h _).trans (putResponse_records ..).kept

theorem answerBadFrame_kept (bytes : List Byte) (s : State) : Kept s (answerBadFrame bytes s) := by
  unfold answerBadFrame
  split
  · exact (onLink_records _ s).kept
  · exact answerFrame_kept _ fun t => .refl t
  · exact answerFrame_kept _ fun t => .refl t
  · exact answerFrame_kept _ fun t => .refl t
  · exact answerFrame_kept _ fun t => withPlan_kept fun _ _ _ => .refl t
  · exact .refl s

theorem discardRequest_records (n : Nat) (s : State) : RecordFrame s (discardRequest n s) :=
  ite_records (onLink_records _ s) (.refl s)

end Sys2Proof.Machine
end

section
/-! The reset state is safe (O16), and no step leaves the capacities or the agreement of the records (O23). -/

namespace Sys2Proof.Machine

/-! ## The reset state -/

theorem plan_reset (p : Fin 16) : State.reset.plan p = none := by
  revert p; decide

theorem station_reset (st : Fin 6) : State.reset.station st = Station.reset := by
  rw [State.station, State.reset, Vector.get_replicate]

theorem rackList_reset (r : Fin 32) : rackList r State.reset.stock = [] := by
  rw [rackList, State.reset, Stock.reset, Vector.get_replicate]

/-- R36: job 0 alone is in use after reset. -/
theorem job_reset {j : Fin 64} {b : Job} (h : State.reset.job j = some b) : j = 0 ∧ b = Job.overhead := by
  by_cases hj : j = 0
  · subst hj
    exact ⟨rfl, (Option.some.inj h).symm⟩
  · have hnone : ∀ i : Fin 64, i ≠ 0 → State.reset.job i = none := by decide
    rw [hnone j hj] at h
    cases h

theorem reset_stock : StockReads State.reset := by
  refine ⟨.nil, by decide, fun r => by rw [rackList_reset]; exact .nil, fun r n => ?_, fun n x hx => (nomatch hx), fun p y hy => ?_⟩
  · rw [rackList_reset]
    exact iff_of_false List.not_mem_nil fun ⟨x, hx, _⟩ => (nomatch hx)
  · rw [plan_reset] at hy
    cases hy

theorem reset_pieces : PiecesRead State.reset := by
  refine ⟨.nil, fun i x hx => (nomatch hx), fun i x hx => (nomatch hx), fun q p i => ?_⟩
  rw [plan_reset]
  exact iff_of_false (planHolds_none q i) fun ⟨x, hx, _⟩ => (nomatch hx)

theorem reset_counts : CountsRead State.reset := by
  refine ⟨fun j b hb => ?_, fun p z hz => ?_⟩
  · obtain ⟨-, rfl⟩ := job_reset hb
    have : openTotal State.reset j = 0 := by simp [openTotal, plan_reset]
    rw [this]
    rfl
  · rw [plan_reset] at hz
    cases hz

theorem reset_layouts : LayoutsRead State.reset := by
  have hidle : ∀ p, layingOf (State.reset.plan p) = none := fun p => by rw [plan_reset]; rfl
  refine ⟨.nil, fun p => ?_, fun p n hn => ?_, fun c hc => (nomatch hc)⟩
  · rw [hidle]
    exact iff_of_false List.not_mem_nil (fun h => (nomatch h))
  · rw [hidle] at hn
    cases hn

theorem reset_station (st : Fin 6) : StationRead State.reset st := by
  have hcut : currentCutting st State.reset = false := currentCutting_of_none (by rw [station_reset]; rfl)
  refine ⟨fun p => ?_, fun p hp => ?_, ?_, ?_, fun h => ?_, fun h => ?_, fun _ => hcut⟩
  · rw [station_reset, plan_reset]
    simp [Station.reset]
  · rw [station_reset] at hp
    cases hp
  · rw [station_reset]; rfl
  · rw [station_reset]; rfl
  · rw [station_reset] at h
    exact absurd rfl h
  · rw [station_reset] at h
    cases h

theorem reset_records : RecordsRead State.reset where
  stock := reset_stock
  pieces := reset_pieces
  plans p := by rw [plan_reset]; exact planOk_none
  counts := reset_counts
  layouts := reset_layouts
  stations := reset_station

/-- R139: an account just opened is empty. -/
theorem reset_accounts : AccountsOk State.reset := fun j b c h => by
  obtain ⟨-, rfl⟩ := job_reset h
  cases c <;> exact Nat.zero_le _

/-- Settles O16: block by block, from the reset values. -/
theorem resetIsSafe : Obligations.ResetIsSafe := by
  unfold Obligations.ResetIsSafe
  refine ⟨⟨Nat.zero_le _, nofun, .nil⟩, reset_accounts, ⟨⟨Job.overhead, rfl, rfl, rfl, rfl, rfl, rfl⟩, nofun⟩, rfl,
    ⟨.nil, fun _ => rfl⟩, reset_capacity, recordsOk_iff.mpr reset_records⟩

/-! ## Every command -/

/-- The levels on the inputs and the waiting commands are in no record. -/
theorem releaseReset_kept (s t : State) : Kept s (releaseReset t) := by
  have hframe : RecordFrame State.reset (releaseReset t) := ⟨rfl, rfl, fun _ => rfl, rfl, rfl, fun _ => .refl _⟩
  exact ⟨fun _ => hframe.capacity reset_capacity, fun _ _ => hframe.records reset_records⟩

theorem next_kept {s u t : State} (h : Kept s u) (hstep : (.next u : Host.Outcome State Fault Refusal) = .next t) : Kept s t := by
  cases hstep
  exact h

/-- Every command keeps the capacities and the agreement of the records. -/
theorem exec_kept (i : Instr) {s t : State} (h : exec i s = .next t) : Kept s t := by
  cases i with
  | admitSlab =>
    rw [exec, execAdmitSlab] at h
    exact serve_kept h fun u => admitReply_kept _ _ _ _ _ _ _ _ _ _ _ _ u
  | findSlab =>
    rw [exec, execFindSlab] at h
    exact serve_kept h fun u => withRecord_kept fun x _ => .refl u
  | listStock =>
    rw [exec, execListStock] at h
    exact serve_kept h fun u => listStockReply_kept _ _ _ _ u
  | moveSlab =>
    rw [exec, execMoveSlab] at h
    exact serve_kept h fun u => withRecord_kept fun x hx => moveReply_kept hx _
  | holdSlab =>
    rw [exec, execHoldSlab] at h
    exact serve_kept h fun u => withRecord_kept fun x hx => changeState_kept hx (.inl rfl) (.inr rfl)
  | releaseSlab =>
    rw [exec, execReleaseSlab] at h
    exact serve_kept h fun u => withRecord_kept fun x hx => changeState_kept hx (.inr rfl) (.inl rfl)
  | trimSlab =>
    rw [exec, execTrimSlab] at h
    exact serve_kept h fun u => withRecord_kept fun x hx => trimReply_kept hx _ _ _ _
  | retireSlab =>
    rw [exec, execRetireSlab] at h
    exact serve_kept h fun u => withRecord_kept fun x hx => retireReply_kept hx
  | setRackClass =>
    rw [exec, execSetRackClass] at h
    exact serve_kept h fun u => rackClassReply_kept _ _ u
  | openJob =>
    rw [exec, execOpenJob] at h
    exact serve_kept h fun u => openJobReply_kept _ _ _ _ u
  | addPiece =>
    rw [exec, execAddPiece] at h
    exact serve_kept h fun u => withJob_kept fun j b hj => addPieceReply_kept hj _ _ _
  | deletePiece =>
    rw [exec, execDeletePiece] at h
    exact serve_kept h fun u => withPiece_kept fun b x hx => deletePieceReply_kept hx
  | releasePiece =>
    rw [exec, execReleasePiece] at h
    exact serve_kept h fun u => withPiece_kept fun b x hx => releasePieceReply_kept hx b
  | setJob =>
    rw [exec, execSetJob] at h
    exact serve_kept h fun u => withJob_kept fun j b hj => setJobReply_kept hj _ _ _
  | readJob =>
    rw [exec, execReadJob] at h
    exact serve_kept h fun u => withJob_kept fun j b _ => readJobReply_kept _ j b u
  | closeJob =>
    rw [exec, execCloseJob] at h
    exact serve_kept h fun u => withJob_kept fun j b hj => closeJobReply_kept hj
  | openPlan =>
    rw [exec, execOpenPlan] at h
    exact serve_kept h fun u => openPlanReply_kept _ _ _ u
  | planAdd =>
    rw [exec, execPlanAdd] at h
    exact serve_kept h fun u => withPlan_kept fun p x hx => withPiece_kept fun b y hy => planAddReply_kept hx hy b
  | planRemove =>
    rw [exec, execPlanRemove] at h
    exact serve_kept h fun u => withPlan_kept fun p x hx => withPiece_kept fun b y _ => planRemoveReply_kept hx y
  | layout =>
    rw [exec, execLayout] at h
    exact serve_kept h fun u => withPlan_kept fun p x hx => layoutReply_kept hx
  | commit =>
    rw [exec, execCommit] at h
    exact serve_kept h fun u => withPlan_kept fun p x hx => commitReply_kept hx
  | abandon =>
    rw [exec, execAbandon] at h
    exact serve_kept h fun u => withPlan_kept fun p x hx => abandonReply_kept hx
  | readPlanSummary =>
    rw [exec, execReadPlanSummary] at h
    exact serve_kept h fun u => withPlanPart_kept fun p x => .refl u
  | readPlanPieces =>
    rw [exec, execReadPlanPieces] at h
    exact serve_kept h fun u => withPlanPart_kept fun p x => .refl u
  | readPlanStrips =>
    rw [exec, execReadPlanStrips] at h
    exact serve_kept h fun u => withPlanPart_kept fun p x => layoutPart_kept _ x u
  | readPlanPlacements =>
    rw [exec, execReadPlanPlacements] at h
    exact serve_kept h fun u => withPlanPart_kept fun p x => layoutPart_kept _ x u
  | readPlanUnfit =>
    rw [exec, execReadPlanUnfit] at h
    exact serve_kept h fun u => withPlanPart_kept fun p x => layoutPart_kept _ x u
  | stationOnline =>
    rw [exec, execStationOnline] at h
    exact serve_kept h fun u => withStation_kept fun st => whenRunning_kept (onlineReply_kept _ st u)
  | stationOffline =>
    rw [exec, execStationOffline] at h
    exact serve_kept h fun u => withStation_kept fun st => offlineReply_kept st u
  | setBlade =>
    rw [exec, execSetBlade] at h
    exact serve_kept h fun u => withStation_kept fun st => bladeReply_kept _ _ st u
  | loadSlab =>
    rw [exec, execLoadSlab] at h
    refine serve_kept h fun u => ?_
    split
    · exact .refl u
    · exact withStation_kept fun st => whenRunning_kept (loadReply_kept _ st u)
  | nextCut =>
    rw [exec, execNextCut] at h
    exact serve_kept h fun u => withStation_kept fun st => whenRunning_kept (nextCutReply_kept st u)
  | cutDone =>
    rw [exec, execCutDone] at h
    exact serve_kept h fun u => reported_kept fun st e he => cutDoneReply_kept he
  | setWaterStation =>
    rw [exec, execSetWaterStation] at h
    exact serve_kept h fun u => withStation_kept fun st => setWaterReply_kept _ _ st u
  | setWaterArbiter =>
    rw [exec, execSetWaterArbiter] at h
    exact serve_kept h fun u => setArbiterReply_kept _ _ _ _ _ _ _ _ _ u
  | readWaterStation =>
    rw [exec, execReadWaterStation] at h
    exact serve_kept h fun u => withStation_kept fun st => .refl u
  | readWaterArbiter =>
    rw [exec, execReadWaterArbiter] at h
    exact serve_kept h fun u => .refl u
  | plantStart =>
    rw [exec, execPlantStart] at h
    exact serve_kept h fun u => plantStartReply_kept _ _ u
  | plantStop =>
    rw [exec, execPlantStop] at h
    exact serve_kept h fun u => (stopPlant_plantFrame u).records.kept
  | plantResetCycle =>
    rw [exec, execPlantResetCycle] at h
    exact serve_kept h fun u => (resetCycle_plantFrame u).records.kept
  | plantSetBufferMode =>
    rw [exec, execPlantSetBufferMode] at h
    exact serve_kept h fun u => bufferModeReply_kept _ u
  | plantSet =>
    rw [exec, execPlantSet] at h
    exact serve_kept h fun u => plantSetReply_kept _ _ u
  | readPlant =>
    rw [exec, execReadPlant] at h
    exact serve_kept h fun u => .refl u
  | setMaterialRate =>
    rw [exec, execSetMaterialRate] at h
    exact serve_kept h fun u => materialRateReply_kept _ _ u
  | setWaterRate rate =>
    rw [exec, execSetWaterRate] at h
    exact serve_kept h fun u => (onRates_records (fun r => { r with water := clampRate rate }) u).kept
  | setMachineRate =>
    rw [exec, execSetMachineRate] at h
    exact serve_kept h fun u => withStation_kept fun st => machineRateReply_kept _ st u
  | readCost =>
    rw [exec, execReadCost] at h
    exact serve_kept h fun u => withJob_kept fun j b _ => .refl u
  | clearOverhead =>
    rw [exec, execClearOverhead] at h
    exact serve_kept h fun u => clearOverheadReply_kept u
  | cutSpoiled =>
    rw [exec, execCutSpoiled] at h
    exact serve_kept h fun u => reported_kept fun st e he => cutSpoiledReply_kept he
  | breakSlab =>
    rw [exec, execBreakSlab] at h
    exact serve_kept h fun u => withStation_kept fun st => breakReply_kept st u
  | cancelJob =>
    rw [exec, execCancelJob] at h
    exact serve_kept h fun u => withJob_kept fun j b _ => cancelReply_kept j b u
  | readNotices =>
    rw [exec, execReadNotices] at h
    exact serve_kept h fun u => (onLink_records takeNotices u).kept
  | openShop =>
    rw [exec, execOpenShop] at h
    exact serve_kept h fun u => openShopReply_kept _ _ u
  | closeShop =>
    rw [exec, execCloseShop] at h
    exact serve_kept h fun u => closeShopReply_kept u
  | badFrame => exact next_kept (answerBadFrame_kept _ s) h
  | responseRead => exact next_kept (onLink_records _ s).kept h
  | requestDiscarded => exact next_kept (discardRequest_records _ s).kept h
  | reset => exact next_kept (releaseReset_kept s _) h
  | powerOn => exact next_kept (releaseReset_kept s _) h
  | sampleTick => exact next_kept (sampleAll_records _ s).kept h
  | decisecondTick => exact next_kept (decisecond_records _ _ _ _ s).kept h
  | dryRun => exact next_kept (takeDryRun_records _ s).kept h
  | bladeLife => exact next_kept (takeBladeLife_records _ s).kept h
  | holdTimerExpiry => exact next_kept (expireHold_records _ s).kept h
  | plantTick => exact next_kept (plantTick_plantFrame s).records.kept h
  | fillTimeout => exact next_kept (timeoutTest_plantFrame s).records.kept h
  | doseEnd => exact next_kept (doseEnd_plantFrame s).records.kept h
  | settleEnd => exact next_kept (settleEnd_plantFrame s).records.kept h
  | sludgeEnd => exact next_kept (sludgeEnd_plantFrame s).records.kept h
  | engineTake => exact next_kept (takeHead_kept s) h
  | layoutComplete => exact next_kept (completeComputation_kept s) h

theorem step_kept {s t : State} (h : step s = .next t) : Kept s t := by
  unfold step at h
  split at h
  · exact next_kept (.refl s) h
  · exact (withQueue_records _ s).kept.trans (exec_kept _ h)

/-- Settles O23: each command's move is one that keeps the blocks' records in agreement, within the capacities (`exec_kept`). -/
theorem capacitiesKept : Obligations.CapacitiesKept := by
  unfold Obligations.CapacitiesKept
  exact ⟨fun s t hc h => (step_kept h).capacity hc,
    fun s t hc hr h => recordsOk_iff.mpr ((step_kept h).records hc (recordsOk_iff.mp hr))⟩

end Sys2Proof.Machine
end

section
/-! What a charge does to every job and to the notices (R97, R140 to R142), and that charges and arbitration read nothing but accounts,
meters, notices and the arbiter's own records. -/

namespace Sys2Proof.Machine

/-! ## Charges, job by job -/

/-- R140 to R142: a charge changes the charged job alone. -/
theorem job_charge (i j : Fin 64) (c : Category) (q r : Nat) (s : State) :
    (charge j c q r s).job i = if i = j then (s.job i).map (chargedJob c q r) else s.job i := by
  split
  · rename_i h
    subst h
    cases hb : s.job i with
    | none =>
      unfold charge
      rw [hb]
      exact hb
    | some b =>
      obtain ⟨d, hd, hcost, hover⟩ := charge_job c q r hb
      have hpaid : d.cost = putAcc b.cost c (addProduct (getAcc b.cost c) (chargeProduct q r)) := by rw [hcost]
      rw [hpaid] at hover
      rw [hd, Option.map_some, hcost, hover]
      rfl
  · rename_i h
    exact (charge_money j c q r s).other i h

/-- R97: a charge of a station's meters, job by job. -/
theorem job_chargeMeters (i : Fin 64) (st : Fin 6) (j : Fin 64) (s : State) :
    (chargeMeters st j s).job i = if i = j then (s.job i).map (meteredJob (s.station st) s.rates.water) else s.job i := by
  unfold chargeMeters
  simp only [Nat.sub_pos_iff_lt, job_onStation]
  have hfun : meteredJob (s.station st) s.rates.water = fun d => meteredJob (s.station st) s.rates.water d := rfl
  rw [hfun]
  unfold meteredJob
  dsimp only
  by_cases hrun : (s.station st).runSnap < (s.station st).runMeter <;>
    by_cases hwater : (s.station st).waterSnap < (s.station st).waterMeter <;>
    by_cases hi : i = j <;>
    simp [hrun, hwater, hi, job_charge, Function.comp_def]

theorem stations_chargeMeters (st : Fin 6) (j : Fin 64) (s : State) :
    (chargeMeters st j s).stations = s.stations.set st (snapMeters (s.station st)) := by
  obtain ⟨t, h, e⟩ := chargeMeters_eq st j s
  rw [e, onStation_stations, h.state]
  rfl

theorem chargeMeters_state (st : Fin 6) (j : Fin 64) (s : State) :
    chargeMeters st j s = { s with
      jobs := (chargeMeters st j s).jobs
      stations := s.stations.set st (snapMeters (s.station st))
      link := (chargeMeters st j s).link } := by
  have hs := stations_chargeMeters st j s
  obtain ⟨t, h, e⟩ := chargeMeters_eq st j s
  rw [← hs, e, h.state]
  rfl

theorem chargeMeters_pieces (st : Fin 6) (j : Fin 64) (s : State) : (chargeMeters st j s).jobs.pieces = s.jobs.pieces := by
  obtain ⟨t, h, e⟩ := chargeMeters_eq st j s
  rw [e]
  exact h.pieces

theorem chargeMeters_link (st : Fin 6) (j : Fin 64) (s : State) : LinkKept s.link (chargeMeters st j s).link := by
  obtain ⟨t, h, e⟩ := chargeMeters_eq st j s
  rw [e]
  exact h.link

/-! ## What the notices depend on -/

/-- Two links with the same notice set and overflow flag. -/
structure SameNotices (l m : Link) : Prop where
  notices : m.notices = l.notices
  overflow : m.overflow = l.overflow

theorem SameNotices.refl (l : Link) : SameNotices l l := ⟨rfl, rfl⟩

theorem SameNotices.symm {l m : Link} (h : SameNotices l m) : SameNotices m l := ⟨h.1.symm, h.2.symm⟩

theorem SameNotices.trans {l m n : Link} (h : SameNotices l m) (g : SameNotices m n) : SameNotices l n :=
  ⟨g.1.trans h.1, g.2.trans h.2⟩

theorem SameNotices.post {l m : Link} (h : SameNotices l m) (k : NoticeKind) (o : Nat) :
    SameNotices (postNotice k o l) (postNotice k o m) := by
  unfold postNotice
  rw [h.notices]
  split
  · exact ⟨rfl, h.overflow⟩
  · split
    · exact ⟨rfl, h.overflow⟩
    · exact ⟨rfl, rfl⟩

theorem SameNotices.ite {c : Prop} [Decidable c] {k l m n : Link} (h : SameNotices k m) (g : SameNotices l n) :
    SameNotices (if c then k else l) (if c then m else n) := by
  split
  · exact h
  · exact g

/-! ## What charges depend on -/

/-- A job's accounts and settings, without its open-placement count. -/
def account (d : Job) : Job :=
  { d with openCount := 0 }

/-- Two states with the same accounts, rates and notices. -/
structure SameMoney (s t : State) : Prop where
  jobs : ∀ j, (t.job j).map account = (s.job j).map account
  rates : t.rates = s.rates
  link : SameNotices s.link t.link

theorem SameMoney.refl (s : State) : SameMoney s s := ⟨fun _ => rfl, rfl, .refl _⟩

theorem SameMoney.trans {s t u : State} (h : SameMoney s t) (g : SameMoney t u) : SameMoney s u :=
  ⟨fun j => (g.jobs j).trans (h.jobs j), g.rates.trans h.rates, h.link.trans g.link⟩

/-- The notices of one charge to a job (R141, R142). -/
def chargePosts (j : Fin 64) (c : Category) (q r : Nat) (b : Job) (l : Link) : Link :=
  let l1 := if (getAcc b.cost c).value + chargeProduct q r ≤ Config.accMax then l else postNotice .clipped j l
  let cost := putAcc b.cost c (addProduct (getAcc b.cost c) (chargeProduct q r))
  if 0 < b.budget ∧ b.budget ≤ totalCents cost ∧ b.overBudget = false then postNotice .budget j l1 else l1

theorem link_charge {j : Fin 64} {s : State} {b : Job} (h : s.job j = some b) (c : Category) (q r : Nat) :
    (charge j c q r s).link = chargePosts j c q r b s.link := by
  have watch : ∀ (t : State) (d : Job), t.job j = some d →
      (budgetWatch j t).link = if 0 < d.budget ∧ d.budget ≤ totalCents d.cost ∧ d.overBudget = false then postNotice .budget j t.link
        else t.link := fun t d hd => by
    unfold budgetWatch
    rw [hd]
    dsimp only
    split <;> rfl
  unfold charge
  rw [h]
  dsimp only
  rw [watch (d := { b with cost := putAcc b.cost c (addProduct (getAcc b.cost c) (chargeProduct q r)) })]
  · simp only [apply_ite State.link, putJob_link, raiseNotice_link]
    rfl
  · split
    · exact job_putJob_self ..
    · exact job_putJob_self ..

theorem charge_of_none {j : Fin 64} {s : State} (h : s.job j = none) (c : Category) (q r : Nat) : charge j c q r s = s := by
  unfold charge; rw [h]

/-- R140 to R142: a charge reads the account charged, and the notices. -/
theorem SameMoney.charge {s t : State} (h : SameMoney s t) (j : Fin 64) (c : Category) (q r : Nat) :
    SameMoney (charge j c q r s) (charge j c q r t) := by
  refine ⟨fun i => ?_, ?_, ?_⟩
  · rw [job_charge, job_charge]
    split
    · have := congrArg (Option.map (chargedJob c q r)) (h.jobs i)
      rw [Option.map_map, Option.map_map] at this ⊢
      exact (Option.map_map ..).symm.trans (by rw [Option.map_map]; exact this)
    · exact h.jobs i
  · rw [(charge_money ..).state, (charge_money j c q r s).state]
    exact h.rates
  · have hj := h.jobs j
    cases hb : s.job j with
    | none =>
      have hd : t.job j = none := by simpa [hb] using hj
      rw [charge_of_none hb, charge_of_none hd]
      exact h.link
    | some b =>
      rw [hb] at hj
      obtain ⟨d, hd, hacc⟩ := Option.map_eq_some_iff.mp hj
      rw [link_charge hb, link_charge hd]
      have hposts : ∀ l, chargePosts j c q r d l = chargePosts j c q r b l := fun l => by
        show chargePosts j c q r (account d) l = chargePosts j c q r (account b) l
        rw [hacc]
      rw [hposts]
      have hclipped := SameNotices.ite (c := (getAcc b.cost c).value + chargeProduct q r ≤ Config.accMax) h.link (h.link.post .clipped j)
      exact (hclipped.post ..).ite hclipped

/-- Two stations with the same meters, snapshots and machine rate. -/
structure SameMeters (x y : Station) : Prop where
  run : y.runMeter = x.runMeter
  runSnap : y.runSnap = x.runSnap
  water : y.waterMeter = x.waterMeter
  waterSnap : y.waterSnap = x.waterSnap
  rate : y.machineRate = x.machineRate

/-- R97: a charge of meters reads the meters, the account charged, the water rate and the notices. -/
theorem SameMoney.chargeMeters {s t : State} (h : SameMoney s t) {st : Fin 6} (hm : SameMeters (s.station st) (t.station st))
    (j : Fin 64) : SameMoney (chargeMeters st j s) (chargeMeters st j t) := by
  have key : ∀ {u v : State} {f g : Station → Station}, SameMoney u v → SameMoney (u.onStation st f) (v.onStation st g) :=
    fun h => ⟨h.jobs, h.rates, h.link⟩
  unfold Machine.chargeMeters
  dsimp only
  rw [hm.run, hm.runSnap, hm.water, hm.waterSnap, hm.rate, h.rates]
  refine key ?_
  split <;> split
  · exact (h.charge ..).charge ..
  · exact h.charge ..
  · exact h.charge ..
  · exact h

/-! ## What arbitration depends on -/

/-- Two states with the same stations, arbiter, clean band and notices. -/
structure SameWater (s t : State) : Prop where
  stations : t.stations = s.stations
  arbiter : t.arbiter = s.arbiter
  clean : t.plant.clean = s.plant.clean
  link : SameNotices s.link t.link

theorem SameWater.station {s t : State} (h : SameWater s t) (st : Fin 6) : t.station st = s.station st := by
  rw [State.station, State.station, h.stations]

theorem SameWater.makeGrant {s t : State} (h : SameWater s t) (r : Request) : SameWater (makeGrant r s) (makeGrant r t) := by
  have hstart : ∀ {u v : State}, SameWater u v → SameWater (startHoldIf r.station u) (startHoldIf r.station v) := fun {u v} g => by
    have hc : v.holdCondition r.station = u.holdCondition r.station := by
      simp only [State.holdCondition, State.permit, State.grant, g.arbiter, g.station]
    unfold startHoldIf
    rw [hc]
    split
    · exact ⟨by simp only [onStation_stations, g.stations], g.arbiter, g.clean, g.link⟩
    · exact g
  unfold Machine.makeGrant
  have hgrant : SameWater
      ((s.onArbiter fun a => enterGrant ⟨r.station, r.level, r.stamp, false⟩ (dropRequest r.station a)).onStation r.station
        fun x => { x with dryTimer := 0 })
      ((t.onArbiter fun a => enterGrant ⟨r.station, r.level, r.stamp, false⟩ (dropRequest r.station a)).onStation r.station
        fun x => { x with dryTimer := 0 }) :=
    ⟨by simp only [onStation_stations, onArbiter_stations, h.stations], by simp only [onStation_arbiter, onArbiter_arbiter, h.arbiter],
      h.clean, h.link⟩
  have g := hstart hgrant
  exact ⟨g.stations, g.arbiter, g.clean, g.link.post ..⟩

theorem SameWater.nextGrant {s t : State} (h : SameWater s t) : nextGrant t = nextGrant s := by
  simp only [Machine.nextGrant, h.arbiter, h.clean]

/-- R104: arbitration reads the arbiter, the stations and the clean band. -/
theorem SameWater.arbitrate {s t : State} (h : SameWater s t) : SameWater (arbitrate s) (arbitrate t) := by
  unfold Machine.arbitrate
  rw [h.arbiter]
  generalize s.arbiter.pending.length = n
  induction n generalizing s t with
  | zero => exact h
  | succ n ih =>
    unfold arbitrateUpTo
    rw [h.nextGrant]
    split
    · exact ih (h.makeGrant _)
    · exact h

theorem SameWater.dropped {s t : State} (h : SameWater s t) (st : Fin 6) (had : Bool) :
    SameWater (waterDropped st had s) (waterDropped st had t) := by
  unfold waterDropped
  dsimp only
  have g : SameWater
      { s with arbiter := { s.arbiter with
          pending := s.arbiter.pending.filter fun r => r.station != st, grants := s.arbiter.grants.filter fun g => g.station != st } }
      { t with arbiter := { t.arbiter with
          pending := t.arbiter.pending.filter fun r => r.station != st, grants := t.arbiter.grants.filter fun g => g.station != st } } :=
    ⟨h.stations, by simp only [h.arbiter], h.clean, h.link⟩
  split
  · exact g.arbitrate
  · exact g

end Sys2Proof.Machine
end

section
/-! A station losing its water (R81, R82, R105, R111): what the release of its grant and the withdrawal of its request leave, written
with `waterDropped`. -/

namespace Sys2Proof.Machine

/-! ## Grants and requests of one station -/

theorem grant_eq_none {s : State} {st : Fin 6} : s.grant st = none ↔ ∀ g ∈ s.arbiter.grants, g.station ≠ st := by
  simp [State.grant, List.find?_eq_none]

theorem request_eq_none {s : State} {st : Fin 6} : s.request st = none ↔ ∀ r ∈ s.arbiter.pending, r.station ≠ st := by
  simp [State.request, List.find?_eq_none]

theorem permit_eq_false {s : State} {st : Fin 6} : s.permit st = false ↔ s.grant st = none := by
  simp [State.permit]

/-- R99: a station with a grant has no request. -/
theorem WaterOk.request_of_permit {s : State} (h : WaterOk s) {st : Fin 6} (hp : s.permit st = true) : s.request st = none := by
  obtain ⟨g, hg⟩ := Option.isSome_iff_exists.mp hp
  have hgm := List.mem_of_find?_eq_some hg
  have hgs : g.station = st := by simpa using List.find?_some hg
  have hdisj := (List.nodup_append'.mp h.1).2.2
  refine request_eq_none.mpr fun r hr he => ?_
  exact hdisj (List.mem_map_of_mem hr) (by rw [he, ← hgs]; exact List.mem_map_of_mem hgm)

/-! ## What arbitration leaves -/

theorem makeGrant_state (r : Request) (s : State) :
    makeGrant r s = { s with
      stations := (makeGrant r s).stations
      arbiter := enterGrant ⟨r.station, r.level, r.stamp, false⟩ (dropRequest r.station s.arbiter)
      link := postNotice .granted r.station s.link } := by
  unfold makeGrant startHoldIf
  split <;> rfl

theorem station_makeGrant_ne {r : Request} {st : Fin 6} (h : st ≠ r.station) (s : State) :
    (makeGrant r s).station st = s.station st := by
  have hraise : ∀ t : State, (raiseNotice .granted r.station t).station st = t.station st := fun _ => rfl
  unfold makeGrant startHoldIf
  rw [hraise]
  split
  · rw [station_onStation_ne _ _ _ _ h, station_onStation_ne _ _ _ _ h]; rfl
  · rw [station_onStation_ne _ _ _ _ h]; rfl

theorem arbitrate_state (s : State) :
    arbitrate s = { s with stations := (arbitrate s).stations, arbiter := (arbitrate s).arbiter, link := (arbitrate s).link } := by
  unfold arbitrate
  generalize s.arbiter.pending.length = n
  induction n generalizing s with
  | zero => rfl
  | succ n ih =>
    unfold arbitrateUpTo
    split
    · rename_i r _
      rw [ih]
      generalize arbitrateUpTo n (makeGrant r s) = t
      rw [makeGrant_state]
    · rfl

/-- R104: arbitration gives a station that asks for nothing neither a grant nor any change. -/
theorem arbitrate_of_absent {s : State} {st : Fin 6} (h : s.request st = none) :
    (arbitrate s).station st = s.station st ∧ (arbitrate s).request st = none ∧
      (s.grant st = none → (arbitrate s).grant st = none) := by
  unfold arbitrate
  generalize s.arbiter.pending.length = n
  induction n generalizing s with
  | zero => exact ⟨rfl, h, id⟩
  | succ n ih =>
    unfold arbitrateUpTo
    split
    · rename_i r hr
      have hne : st ≠ r.station := fun he => request_eq_none.mp h r (nextGrant_spec hr).1 he.symm
      have hstate := makeGrant_state r s
      have hreq : (makeGrant r s).request st = none := by
        rw [request_eq_none, hstate]
        exact fun q hq => request_eq_none.mp h q (List.mem_filter.mp hq).1
      obtain ⟨h1, h2, h3⟩ := ih hreq
      refine ⟨h1.trans (station_makeGrant_ne hne s), h2, fun hg => h3 ?_⟩
      rw [grant_eq_none, hstate]
      intro g hg'
      rcases List.mem_cons.mp ((insertBy_perm _ _ _).mem_iff.mp hg') with rfl | hg'
      · exact fun he => hne he.symm
      · exact grant_eq_none.mp hg g hg'
    · exact ⟨rfl, h, id⟩

/-! ## Water dropped -/

/-- The arbiter without a station's grant and request. -/
def arbiterWithout (st : Fin 6) (a : Arbiter) : Arbiter :=
  { a with pending := a.pending.filter fun r => r.station != st, grants := a.grants.filter fun g => g.station != st }

theorem arbiterWithout_of_none {s : State} {st : Fin 6} (hg : s.grant st = none) (hr : s.request st = none) :
    arbiterWithout st s.arbiter = s.arbiter := by
  have h1 : (s.arbiter.pending.filter fun r => r.station != st) = s.arbiter.pending :=
    List.filter_eq_self.mpr fun r hr' => by simpa using request_eq_none.mp hr r hr'
  have h2 : (s.arbiter.grants.filter fun g => g.station != st) = s.arbiter.grants :=
    List.filter_eq_self.mpr fun g hg' => by simpa using grant_eq_none.mp hg g hg'
  unfold arbiterWithout
  rw [h1, h2]

theorem waterDropped_true (st : Fin 6) (s : State) : waterDropped st true s = arbitrate (s.onArbiter (arbiterWithout st)) := rfl

theorem waterDropped_false (st : Fin 6) (s : State) : waterDropped st false s = s.onArbiter (arbiterWithout st) := rfl

/-- R105, R111: the station has no water and its records stand. -/
theorem waterDropped_gone (st : Fin 6) (had : Bool) (s : State) :
    (waterDropped st had s).station st = s.station st ∧ (waterDropped st had s).permit st = false ∧
      (waterDropped st had s).request st = none := by
  have hg : (s.onArbiter (arbiterWithout st)).grant st = none :=
    grant_eq_none.mpr fun g hg => by simpa using (List.mem_filter.mp hg).2
  have hr : (s.onArbiter (arbiterWithout st)).request st = none :=
    request_eq_none.mpr fun r hr => by simpa using (List.mem_filter.mp hr).2
  cases had with
  | true =>
    rw [waterDropped_true]
    obtain ⟨h1, h2, h3⟩ := arbitrate_of_absent hr
    exact ⟨h1, permit_eq_false.mpr (h3 hg), h2⟩
  | false => exact ⟨rfl, permit_eq_false.mpr hg, hr⟩

theorem waterDropped_state (st : Fin 6) (had : Bool) (s : State) :
    waterDropped st had s = { s with
      stations := (waterDropped st had s).stations
      arbiter := (waterDropped st had s).arbiter
      link := (waterDropped st had s).link } := by
  cases had with
  | true =>
    rw [waterDropped_true, arbitrate_state]
    rfl
  | false => rfl

/-- R105: a station whose grant, if it had one, is released. -/
def withoutGrant (permit : Bool) (x : Station) : Station :=
  { x with
    hold := if permit then none else x.hold
    runSnap := if permit then x.runMeter else x.runSnap
    waterSnap := if permit then x.waterMeter else x.waterSnap }

/-- The state before arbitration, as a station loses its water. -/
def meteredOff (st : Fin 6) (x : Station) (s : State) : State :=
  { (if s.permit st then chargeMeters st 0 s else s) with stations := s.stations.set st x }

theorem set_get_self {α : Type} {n : Nat} (v : Vector α n) (i : Fin n) : v.set i (v.get i) = v := by
  refine Vector.ext fun j hj => ?_
  rw [Vector.getElem_set]
  split
  · rename_i h
    subst h
    rfl
  · rfl

theorem dropWater_of_dry {s : State} {st : Fin 6} (hg : s.grant st = none) (hr : s.request st = none) : dropWater st s = s := by
  simp [dropWater, releaseIfHeld, withdrawRequest, permit_eq_false.mpr hg, hr]

/-- R81, R82, R105, R111: the release and the withdrawal in one form. -/
theorem dropWater_eq {s : State} {st : Fin 6} (hone : s.permit st = true → s.request st = none) :
    dropWater st s = waterDropped st (s.permit st || (s.request st).isSome)
      (meteredOff st (withoutGrant (s.permit st) (s.station st)) s) := by
  unfold dropWater releaseIfHeld withdrawRequest meteredOff
  cases hp : s.permit st with
  | true =>
    have hr := hone hp
    simp only [if_true, Bool.true_or, waterDropped_true]
    have hsame : removeGrant st (chargeMeters st 0 s) = State.onArbiter (arbiterWithout st)
        { chargeMeters st 0 s with stations := s.stations.set st (withoutGrant true (s.station st)) } := by
      have hpend : (s.arbiter.pending.filter fun r => r.station != st) = s.arbiter.pending :=
        List.filter_eq_self.mpr fun r hr' => by simpa using request_eq_none.mp hr r hr'
      rw [chargeMeters_state]
      simp only [removeGrant, State.onArbiter, State.onStation, dropGrant, arbiterWithout, hpend, get_set_self, Vector.set_set]
      rfl
    have hgone : (removeGrant st (chargeMeters st 0 s)).request st = none := by
      rw [hsame]
      exact request_eq_none.mpr fun r hr => by simpa using (List.mem_filter.mp hr).2
    unfold releaseGrant
    rw [(arbitrate_of_absent hgone).2.1, hsame]
    rfl
  | false =>
    have hg := permit_eq_false.mp hp
    have hsame : ({ s with stations := s.stations.set st (withoutGrant false (s.station st)) } : State) = s := by
      have : withoutGrant false (s.station st) = s.stations.get st := rfl
      rw [this, set_get_self]
    simp only [Bool.false_eq_true, if_false, Bool.false_or]
    rw [hsame]
    cases hr : s.request st with
    | none =>
      rw [Option.isSome_none, if_neg (by decide), waterDropped_false, State.onArbiter, arbiterWithout_of_none hg hr]
    | some r =>
      have hgrants : (s.arbiter.grants.filter fun g => g.station != st) = s.arbiter.grants :=
        List.filter_eq_self.mpr fun g hg' => by simpa using grant_eq_none.mp hg g hg'
      rw [Option.isSome_some, if_pos rfl, waterDropped_true]
      simp only [State.onArbiter, arbiterWithout, hgrants]
      rfl

end Sys2Proof.Machine
end

section
/-! A committed plan given up (R74, R82): what leaves the pieces, the counts, the slab and the station, and the statement about ABANDON. -/

namespace Sys2Proof.Machine

/-- States with the same records are one. -/
theorem state_eq {s t : State} (h1 : s.stock = t.stock) (h2 : s.jobs = t.jobs) (h3 : s.engine = t.engine) (h4 : s.plans = t.plans)
    (h5 : s.stations = t.stations) (h6 : s.arbiter = t.arbiter) (h7 : s.plant = t.plant) (h8 : s.rates = t.rates)
    (h9 : s.link = t.link) (h10 : s.pins = t.pins) (h11 : s.pending = t.pending) : s = t := by
  cases s
  cases t
  simp only at h1 h2 h3 h4 h5 h6 h7 h8 h9 h10 h11
  subst h1 h2 h3 h4 h5 h6 h7 h8 h9 h10 h11
  rfl

theorem link_eq {l : Link} {m : ShopMode} {d : List Byte} (hm : l.mode = m) (hd : l.miso = d) : l = { l with mode := m, miso := d } := by
  subst hm hd
  rfl

/-! ## A plan leaves its station (R82) -/

/-- R97: a charge reads no open-placement count. -/
theorem meteredJob_openCount (x : Station) (w n : Nat) (d : Job) :
    meteredJob x w { d with openCount := n } = { meteredJob x w d with openCount := n } := by
  unfold meteredJob
  dsimp only
  split <;> split <;> rfl

theorem job_meteredOff (j : Fin 64) (st : Fin 6) (x : Station) (s : State) :
    (meteredOff st x s).job j =
      if j = 0 ∧ s.permit st = true then (s.job j).map (meteredJob (s.station st) s.rates.water) else s.job j := by
  unfold meteredOff
  cases hp : s.permit st with
  | true =>
    show (chargeMeters st 0 s).job j = _
    rw [job_chargeMeters]
    simp
  | false =>
    simp only [Bool.false_eq_true, and_false, if_false]
    rfl

theorem meteredOff_state (st : Fin 6) (x : Station) (s : State) :
    meteredOff st x s = { s with
      jobs := (meteredOff st x s).jobs
      stations := s.stations.set st x
      link := (meteredOff st x s).link } := by
  unfold meteredOff
  split
  · rw [chargeMeters_state]
  · rfl

/-- The release of a grant reads the accounts, the notices, the arbiter and the station's meters. -/
theorem SameMoney.meteredOff {s t : State} (h : SameMoney s t) {st : Fin 6} {x : Station}
    (hstations : t.stations.set st x = s.stations.set st x) (harbiter : t.arbiter = s.arbiter)
    (hclean : t.plant.clean = s.plant.clean) (hmeters : SameMeters (s.station st) (t.station st)) :
    SameWater (meteredOff st x s) (meteredOff st x t) := by
  have hp : t.permit st = s.permit st := by simp only [State.permit, State.grant, harbiter]
  refine ⟨?_, ?_, ?_, ?_⟩
  · rw [meteredOff_state, meteredOff_state st x s]; exact hstations
  · rw [meteredOff_state, meteredOff_state st x s]; exact harbiter
  · rw [meteredOff_state, meteredOff_state st x s]; exact hclean
  · unfold Machine.meteredOff
    rw [hp]
    split
    · exact (h.chargeMeters hmeters 0).link
    · exact h.link

/-- R82, R97, R105, R111: what the departure of its current plan makes of a station and its water; `w` is any state with the same
accounts, stations and water. -/
structure CurrentLeft (st : Fin 6) (p : Fin 16) (w s t : State) : Prop where
  water : SameWater (waterDropped st (w.permit st || (w.request st).isSome)
    (meteredOff st (advanced p (w.permit st) (w.station st)) w)) t
  station : t.station st = advanced p (w.permit st) (w.station st)
  permit : t.permit st = false
  request : t.request st = none
  job : ∀ j, t.job j =
    if j = 0 ∧ w.permit st = true then (s.job j).map (meteredJob (w.station st) w.rates.water) else s.job j

theorem planLeavesStation_current {w s : State} {st : Fin 6} {p : Fin 16} (hcur : (w.station st).current = some p)
    (hone : w.permit st = true → w.request st = none) (hmoney : SameMoney w s) (hstations : s.stations = w.stations)
    (harbiter : s.arbiter = w.arbiter) (hclean : s.plant.clean = w.plant.clean) :
    CurrentLeft st p w s (planLeavesStation st p s) := by
  have hst : s.station st = w.station st := by rw [State.station, State.station, hstations]
  obtain ⟨u, hu⟩ : ∃ u, u = s.onStation st fun x => advanceStation (dropEntries p x) := ⟨_, rfl⟩
  have hleave : planLeavesStation st p s = dropWater st u := by
    rw [hu, planLeavesStation, if_pos (by rw [hst]; exact hcur)]
  have hustation : u.station st = advanceStation (dropEntries p (w.station st)) := by rw [hu, station_onStation_self, hst]
  have hpermit : u.permit st = w.permit st := by
    rw [hu]
    show (s.arbiter.grants.find? _).isSome = _
    rw [harbiter]; rfl
  have hrequest : u.request st = w.request st := by
    rw [hu]
    show s.arbiter.pending.find? _ = _
    rw [harbiter]; rfl
  have hjob : ∀ j, u.job j = s.job j := fun j => by rw [hu]; rfl
  have hrates : u.rates = w.rates := by rw [hu]; exact hmoney.rates
  have heq : planLeavesStation st p s = waterDropped st (w.permit st || (w.request st).isSome)
      (meteredOff st (advanced p (w.permit st) (w.station st)) u) := by
    rw [hleave, dropWater_eq (by rw [hpermit, hrequest]; exact hone), hpermit, hrequest, hustation]
    rfl
  have hsame : SameWater (meteredOff st (advanced p (w.permit st) (w.station st)) w)
      (meteredOff st (advanced p (w.permit st) (w.station st)) u) := by
    have hmoney' : SameMoney w u := by rw [hu]; exact ⟨hmoney.jobs, hmoney.rates, hmoney.link⟩
    refine hmoney'.meteredOff ?_ (by rw [hu]; exact harbiter) (by rw [hu]; exact hclean) ?_
    · rw [hu, onStation_stations, hstations, Vector.set_set]
    · rw [hustation]; exact ⟨rfl, rfl, rfl, rfl, rfl⟩
  obtain ⟨h1, h2, h3⟩ := waterDropped_gone st (w.permit st || (w.request st).isSome)
    (meteredOff st (advanced p (w.permit st) (w.station st)) u)
  rw [heq]
  refine ⟨hsame.dropped st _, h1.trans ?_, h2, h3, fun j => ?_⟩
  · rw [meteredOff_state, State.station]
    exact get_set_self _ st _
  · rw [waterDropped_state]
    show (meteredOff st (advanced p (w.permit st) (w.station st)) u).job j = _
    rw [job_meteredOff, hpermit, hustation, hrates, hjob]
    rfl

theorem planLeavesStation_other {s : State} {st : Fin 6} {p : Fin 16} (h : (s.station st).current ≠ some p) :
    planLeavesStation st p s = { s with stations := (s.stations.set st
      { s.station st with
        queue := (s.station st).queue.filter fun e => e.plan != p
        next := if (s.station st).next = some p then none else (s.station st).next }) } := by
  rw [planLeavesStation, if_neg h]
  rfl

/-! ## A committed plan's pieces, counts and slab -/

/-- The pieces returned, the counts fallen, the Stock Table changed. -/
def freed (ids : List PieceId) (l : List Placement) (f : Stock → Stock) (s : State) : State :=
  (uncountPlacements l (unplanPieces ids s)).onStock f

theorem freed_state (ids : List PieceId) (l : List Placement) (f : Stock → Stock) (s : State) :
    freed ids l f s = { s with stock := f s.stock, jobs := (freed ids l f s).jobs } := by
  unfold freed
  rw [uncountPlacements_state]
  rfl

theorem freed_pieces (ids : List PieceId) (l : List Placement) (f : Stock → Stock) (s : State) :
    (freed ids l f s).jobs.pieces = (modPieces ids unplan s.jobs).pieces :=
  uncountPlacements_pieces ..

theorem freed_job (ids : List PieceId) (l : List Placement) (f : Stock → Stock) (s : State) (j : Fin 64) :
    (freed ids l f s).job j = (s.job j).map fun d => { d with openCount := d.openCount - l.countP fun y => y.piece.job == j } := by
  have h := uncountPlacements_job j l (unplanPieces ids s)
  simp only [beq_eq_decide]
  exact h

theorem freed_money (ids : List PieceId) (l : List Placement) (f : Stock → Stock) (s : State) : SameMoney s (freed ids l f s) := by
  have hstate := freed_state ids l f s
  refine ⟨fun j => ?_, by rw [hstate], by rw [hstate]; exact .refl _⟩
  rw [freed_job, Option.map_map]
  rfl

theorem unwindCommitted_eq {s : State} {p : Fin 16} {x : Plan} (h : s.plan p = some x) :
    unwindCommitted p s = (planLeavesStation x.station p
      (freed (queuedPieces (placementsOf x)) (placementsOf x) (releaseRecord x.serial) s)).putPlan p none := by
  unfold unwindCommitted
  rw [h]
  rfl

theorem findPiece_unplanned {ids : List PieceId} {i : PieceId} (t : JobTable) (h : i ∈ ids) :
    findPiece i (modPieces ids unplan t) = (findPiece i t).map fun y => { y with state := .unplanned, plan := none } := by
  rw [findPiece_modPieces ids unplan fun _ => rfl]
  simp only [h, if_true]
  rfl

theorem findPiece_not_unplanned {ids : List PieceId} {i : PieceId} (t : JobTable) (h : i ∉ ids) :
    findPiece i (modPieces ids unplan t) = findPiece i t := by
  rw [findPiece_modPieces ids unplan fun _ => rfl]
  simp [h]

/-- R17: the slab of a plan given up is AVAILABLE where it stands. -/
theorem releaseRecord_replaced {k : Stock} {n : Nat} {b : Slab} (h : findSlab n k = some b) :
    RecordReplaced k (releaseRecord n k) { b with state := .available, plan := none } := by
  rw [releaseRecord_of_find h]
  obtain rfl := findSlab_serial h
  exact putSlab_replaced { b with state := .available, plan := none } h

/-- R74, R82: the unwinding of a COMMITTED plan; `u` is the state it starts from, but for the transaction's marks. -/
theorem unwindCommitted_unwound {u s : State} {p : Fin 16} {x : Plan} {kerf rate : Nat} {l : Layout} {b : Slab}
    (hs : s = { u with link := s.link }) (hlink : SameNotices u.link s.link) (hmode : s.link.mode = u.link.mode)
    (hmiso : s.link.miso = u.link.miso) (hx : u.plan p = some x) (hphase : x.phase = .committed kerf l rate)
    (hb : findSlab x.serial u.stock = some b) (hwater : WaterOk u) : Unwound p x l b u (unwindCommitted p s) := by
  have hplan : s.plan p = some x := by rw [hs]; exact hx
  have hplace : placementsOf x = l.placements := (committed_views hphase).2.2.2.2.1
  rw [unwindCommitted_eq hplan, hplace]
  have hfree := freed_state (queuedPieces l.placements) l.placements (releaseRecord x.serial) s
  have hpieces := freed_pieces (queuedPieces l.placements) l.placements (releaseRecord x.serial) s
  have hjob := freed_job (queuedPieces l.placements) l.placements (releaseRecord x.serial) s
  have hmoney := freed_money (queuedPieces l.placements) l.placements (releaseRecord x.serial) s
  generalize freed (queuedPieces l.placements) l.placements (releaseRecord x.serial) s = v at *
  have husame : SameMoney u s := ⟨fun j => by rw [hs]; rfl, by rw [hs], hlink⟩
  have hvstock : v.stock = releaseRecord x.serial u.stock := by rw [hfree, hs]
  have hvstations : v.stations = u.stations := by rw [hfree, hs]
  have hvarbiter : v.arbiter = u.arbiter := by rw [hfree, hs]
  have hvclean : v.plant.clean = u.plant.clean := by rw [hfree, hs]
  have hvlink : v.link = s.link := by rw [hfree]
  have hvstation : v.station x.station = u.station x.station := by rw [State.station, State.station, hvstations]
  have hvjob : ∀ j, v.job j = (u.job j).map fun d =>
      { d with openCount := d.openCount - l.placements.countP fun y => y.piece.job == j } := fun j => by
    rw [hjob, hs]; rfl
  have hleft := planLeavesStation_state x.station p v
  have hwframe := (planLeavesStation_frame x.station p v)
  have hleftpieces : (planLeavesStation x.station p v).jobs.pieces = v.jobs.pieces := hwframe.pieces
  have hleftlink : LinkKept v.link (planLeavesStation x.station p v).link := by
    unfold planLeavesStation
    split
    · exact (dropWater_water x.station (v.onStation x.station _)).link
    · exact .refl _
  have hcurrent := fun hc => planLeavesStation_current (w := u) (s := v) (st := x.station) (p := p) hc hwater.request_of_permit
    (husame.trans hmoney) hvstations hvarbiter hvclean
  have hother := fun hc : (v.station x.station).current ≠ some p => planLeavesStation_other hc
  have hfind : ∀ i, findPiece i (planLeavesStation x.station p v).jobs = findPiece i (modPieces (queuedPieces l.placements) unplan u.jobs) :=
    fun i => findPiece_congr i (by rw [hleftpieces, hpieces, hs])
  generalize planLeavesStation x.station p v = t at *
  refine ⟨?_, ?_, fun i hi => ?_, fun i hi => ?_, fun hc => ?_, fun hc => ?_⟩
  · refine state_eq rfl rfl ?_ ?_ rfl rfl ?_ ?_ (link_eq ?_ ?_) ?_ ?_
    iterate 4 (show _ = _; rw [hleft, hfree, hs]; rfl)
    · exact hleftlink.mode.trans (by rw [hvlink]; exact hmode)
    · exact hleftlink.miso.trans (by rw [hvlink]; exact hmiso)
    iterate 2 (show _ = _; rw [hleft, hfree, hs]; rfl)
  · show RecordReplaced u.stock t.stock _
    rw [hleft, hvstock]
    exact releaseRecord_replaced hb
  · exact (hfind i).trans (findPiece_unplanned _ (mem_queuedPieces.mpr hi))
  · exact (hfind i).trans (findPiece_not_unplanned _ fun hm => hi (mem_queuedPieces.mp hm))
  · have c := hcurrent hc
    refine ⟨_, _, rfl, rfl, c.water.stations, c.water.arbiter, c.water.link.notices, c.water.link.overflow, c.station, c.permit,
      c.request, fun j => ?_⟩
    show t.job j = _
    rw [c.job, hvjob]
    split
    · rw [Option.map_map]; exact congrArg (fun f => (u.job j).map f) (funext fun d => meteredJob_openCount ..)
    · rfl
  · have ht := hother (by rw [hvstation]; exact hc)
    rw [ht]
    refine ⟨by rw [← hvstations, ← hvstation]; rfl, hvarbiter, ?_, ?_, hvjob⟩
    · show v.link.notices = _
      rw [hvlink]; exact hlink.notices
    · show v.link.overflow = _
      rw [hvlink]; exact hlink.overflow

end Sys2Proof.Machine
end

section
/-! ABANDON (R72 to R74): the statement O35. -/

namespace Sys2Proof.Machine

theorem withPlan_of_some {s : State} {p : Fin 16} {x : Plan} (h : s.plan p = some x) (k : Fin 16 → Plan → Reply) :
    withPlan p k s = k p x := by
  unfold withPlan
  rw [if_neg (by omega), Fin.ofNat_val_eq_self, h]

/-- ABANDON of a plan that there is: the block's work with its response placed. -/
theorem exec_abandon {s : State} {p : Fin 16} {x : Plan} (h : s.plan p = some x) {r : Reply}
    (hr : abandonReply p x (takeFrame 3 s) = r) : exec (.abandon p) s = .next (putResponse r.status r.body r.state) := by
  rw [exec, execAbandon]
  exact serve_of_work ((withPlan_of_some (s := takeFrame 3 s) h _).trans hr)

/-! ## Before commitment (R72, R73) -/

/-- R73: the layout work of a plan given up is ended. -/
def leftLayoutWork (p : Fin 16) (x : Plan) (s : State) : State :=
  match x.phase with
  | .laying n => leaveLayoutWork p n s
  | _ => s

theorem abandonReply_of_before {x : Plan} (hcom : isCommitted x = false) (hcut : isCutting x = false) (p : Fin 16) (s : State) :
    abandonReply p x s = ⟨unwindDraft p x (leftLayoutWork p x s), .ok, []⟩ := by
  unfold abandonReply leftLayoutWork
  cases hp : x.phase with
  | draft => rfl
  | laying n => rfl
  | laid k l => rfl
  | committed k l r => simp [isCommitted, hp] at hcom
  | cutting k l r => simp [isCutting, hp] at hcut

/-- R40: the stop ends the computation on the plan, if there is one. -/
theorem stopComputation_eq (n : Nat) (e : Engine) :
    stopComputation n e = { e with current := match e.current with
      | some c => if Phase.laying (some n) = .laying (some c.number) then none else some c
      | none => none } := by
  obtain ⟨c, n', a, b⟩ := e
  unfold stopComputation
  cases c with
  | none => rfl
  | some c =>
    by_cases h : c.number = n
    · simp [h]
    · have h' : ¬n = c.number := fun e => h e.symm
      simp [h, h']

theorem leftLayoutWork_state (p : Fin 16) (x : Plan) (s : State) :
    leftLayoutWork p x s = { s with
      engine := { s.engine with current := match s.engine.current with
        | some c => if x.phase = .laying (some c.number) then none else some c
        | none => none }
      plans := { slots := s.plans.slots, queue := if isLaying x then s.plans.queue.filter (fun q => q != p) else s.plans.queue } } := by
  have still : ∀ e : Engine, (∀ c : Computation, x.phase ≠ .laying (some c.number)) →
      ({ e with current := match e.current with
        | some c => if x.phase = .laying (some c.number) then none else some c
        | none => none } : Engine) = e := fun e h => by
    obtain ⟨c, n, a, b⟩ := e
    cases c with
    | none => rfl
    | some c => simp [h c]
  unfold leftLayoutWork
  cases hp : x.phase with
  | laying n =>
    cases n with
    | none =>
      have := still s.engine (by simp [hp])
      rw [hp] at this
      rw [this]
      simp only [isLaying, hp, if_true]
      rfl
    | some n =>
      rw [← stopComputation_eq]
      simp only [isLaying, hp, if_true]
      rfl
  | draft | laid | committed | cutting =>
    have := still s.engine (by simp [hp])
    rw [hp] at this
    rw [this]
    simp [isLaying, hp]

/-- What ABANDON of a plan not yet committed leaves. -/
theorem abandon_before {s : State} {p : Fin 16} {x : Plan} {b : Slab} (hx : s.plan p = some x) (hb : findSlab x.serial s.stock = some b)
    (hcom : isCommitted x = false) (hcut : isCutting x = false) :
    ∃ t, exec (.abandon p) s = .next t ∧
      t = { s with
        stock := t.stock
        jobs := t.jobs
        engine := { s.engine with current := match s.engine.current with
          | some c => if x.phase = .laying (some c.number) then none else some c
          | none => none }
        plans :=
          { slots := s.plans.slots.set p none
            queue := if isLaying x then s.plans.queue.filter (fun q => q != p) else s.plans.queue }
        link := answeredLink s 1 .ok [] } ∧
      (∀ i, i ∈ x.pieces → findPiece i t.jobs = (findPiece i s.jobs).map fun y => { y with state := .unplanned, plan := none }) ∧
      (∀ i, i ∉ x.pieces → findPiece i t.jobs = findPiece i s.jobs) ∧ t.jobs.slots = s.jobs.slots ∧
      RecordReplaced s.stock t.stock { b with state := .available, plan := none } := by
  have hleft := leftLayoutWork_state p x (takeFrame 3 s)
  refine ⟨_, exec_abandon hx (abandonReply_of_before hcom hcut p _), ?_, fun i hi => ?_, fun i hi => ?_, ?_, ?_⟩
  · rw [hleft]; rfl
  · show findPiece i (modPieces x.pieces unplan (leftLayoutWork p x (takeFrame 3 s)).jobs) = _
    rw [hleft]
    exact findPiece_unplanned _ hi
  · show findPiece i (modPieces x.pieces unplan (leftLayoutWork p x (takeFrame 3 s)).jobs) = _
    rw [hleft]
    exact findPiece_not_unplanned _ hi
  · show (modPieces x.pieces unplan (leftLayoutWork p x (takeFrame 3 s)).jobs).slots = _
    rw [hleft]
    rfl
  · show RecordReplaced s.stock (releaseRecord x.serial (leftLayoutWork p x (takeFrame 3 s)).stock) _
    rw [hleft]
    exact releaseRecord_replaced hb

/-! ## Committed (R74) -/

theorem abandonReply_of_committed {x : Plan} {k r : Nat} {l : Layout} (h : x.phase = .committed k l r) (p : Fin 16) (s : State) :
    abandonReply p x s = ⟨unwindCommitted p s, .ok, []⟩ := by
  unfold abandonReply
  rw [h]

/-- R82: a current plan whose station has neither grant nor request leaves with no move of the arbiter. -/
theorem planLeavesStation_dry {s : State} {st : Fin 6} {p : Fin 16} (hcur : (s.station st).current = some p)
    (hg : s.grant st = none) (hr : s.request st = none) :
    planLeavesStation st p s = { s with stations := (s.stations.set st
      { s.station st with
        queue := (s.station st).queue.filter fun e => e.plan != p
        mode := if (s.station st).mode = .loaded then .ready else (s.station st).mode
        current := (s.station st).next
        next := none }) } := by
  rw [planLeavesStation, if_pos hcur]
  exact dropWater_of_dry (s := s.onStation st fun x => advanceStation (dropEntries p x)) hg hr

/-- The frame of a plan's departure survives a change of the notices or the response. -/
theorem frame_relinked {u t t' : State} {a : Stock} {k : PlanTable} {l : Link}
    (h : t = { u with
      stock := a
      jobs := t.jobs
      plans := k
      stations := t.stations
      arbiter := t.arbiter
      link := l })
    (ht : t' = { t with link := t'.link }) (hmode : t'.link.mode = u.link.mode) (hmiso : t'.link.miso = u.link.miso) :
    t' = { u with
      stock := t'.stock
      jobs := t'.jobs
      plans := k
      stations := t'.stations
      arbiter := t'.arbiter
      link := { t'.link with mode := u.link.mode, miso := u.link.miso } } := by
  have hengine := congrArg State.engine h
  have hplans := congrArg State.plans h
  have hplant := congrArg State.plant h
  have hrates := congrArg State.rates h
  have hpins := congrArg State.pins h
  have hpending := congrArg State.pending h
  rw [ht]
  exact state_eq rfl rfl hengine hplans rfl rfl hplant hrates (link_eq hmode hmiso) hpins hpending

/-- The response placed changes nothing that the unwinding's statement speaks of. -/
theorem Unwound.answered {p : Fin 16} {x : Plan} {l : Layout} {b : Slab} {u t : State} (h : Unwound p x l b u t) (q : Status)
    (body : List Byte) : Unwound p x l b u (putResponse q body t) := by
  have hmode := congrArg (fun v : State => v.link.mode) h.frame
  have hmiso := congrArg (fun v : State => v.link.miso) h.frame
  exact ⟨frame_relinked h.frame rfl hmode hmiso, h.slab, h.returned, h.otherPieces, h.current, h.notCurrent⟩

/-- What ABANDON of a COMMITTED plan leaves where the arbiter does not move: the station's next plan, or its current plan with neither
grant nor request. -/
theorem abandon_still {s : State} {p : Fin 16} {x : Plan} {b : Slab} {kerf rate : Nat} {l : Layout} (hx : s.plan p = some x)
    (hb : findSlab x.serial s.stock = some b) (hphase : x.phase = .committed kerf l rate)
    (hne : (s.station x.station).current ≠ (s.station x.station).next)
    (hrole : (s.station x.station).next = some p ∨
      ((s.station x.station).current = some p ∧ s.grant x.station = none ∧ s.request x.station = none)) :
    ∃ t, exec (.abandon p) s = .next t ∧
      t = { s with
        stock := t.stock
        jobs := t.jobs
        plans := { s.plans with slots := s.plans.slots.set p none }
        stations := s.stations.set x.station
          (if (s.station x.station).current = some p then
            { s.station x.station with
              queue := (s.station x.station).queue.filter fun e => e.plan != p
              mode := if (s.station x.station).mode = .loaded then .ready else (s.station x.station).mode
              current := (s.station x.station).next
              next := none }
          else
            { s.station x.station with
              queue := (s.station x.station).queue.filter fun e => e.plan != p
              next := none })
        link := answeredLink s 1 .ok [] } ∧
      (∀ j, t.job j = (s.job j).map fun c =>
        { c with openCount := c.openCount - l.placements.countP fun y => decide (y.piece.job = j) }) ∧
      (∀ i, (∃ y ∈ l.placements, y.piece = i ∧ y.state = some .queued) →
        findPiece i t.jobs = (findPiece i s.jobs).map fun y => { y with state := .unplanned, plan := none }) ∧
      (∀ i, (¬∃ y ∈ l.placements, y.piece = i ∧ y.state = some .queued) → findPiece i t.jobs = findPiece i s.jobs) ∧
      RecordReplaced s.stock t.stock { b with state := .available, plan := none } := by
  have hplace : placementsOf x = l.placements := (committed_views hphase).2.2.2.2.1
  have hexec := exec_abandon hx (abandonReply_of_committed hphase p (takeFrame 3 s))
  rw [unwindCommitted_eq (s := takeFrame 3 s) hx, hplace] at hexec
  have hfree := freed_state (queuedPieces l.placements) l.placements (releaseRecord x.serial) (takeFrame 3 s)
  have hpieces := freed_pieces (queuedPieces l.placements) l.placements (releaseRecord x.serial) (takeFrame 3 s)
  have hjob := freed_job (queuedPieces l.placements) l.placements (releaseRecord x.serial) (takeFrame 3 s)
  generalize freed (queuedPieces l.placements) l.placements (releaseRecord x.serial) (takeFrame 3 s) = v at *
  have hstations : v.stations = s.stations := by rw [hfree]; rfl
  have hstation : v.station x.station = s.station x.station := by rw [State.station, State.station, hstations]
  have hleft : planLeavesStation x.station p v = { v with stations := (s.stations.set x.station
      (if (s.station x.station).current = some p then
        { s.station x.station with
          queue := (s.station x.station).queue.filter fun e => e.plan != p
          mode := if (s.station x.station).mode = .loaded then .ready else (s.station x.station).mode
          current := (s.station x.station).next
          next := none }
      else
        { s.station x.station with
          queue := (s.station x.station).queue.filter fun e => e.plan != p
          next := none })) } := by
    by_cases hcur : (s.station x.station).current = some p
    · obtain ⟨-, hg, hr⟩ := hrole.resolve_left fun hn => hne (hcur.trans hn.symm)
      rw [if_pos hcur, planLeavesStation_dry (by rw [hstation]; exact hcur) (by rw [hfree]; exact hg) (by rw [hfree]; exact hr),
        hstations, hstation]
    · have hnext := hrole.resolve_right fun h => hcur h.1
      rw [if_neg hcur, planLeavesStation_other (by rw [hstation]; exact hcur), hstations, hstation, if_pos hnext]
  rw [hleft] at hexec
  refine ⟨_, hexec, ?_, fun j => ?_, fun i hi => ?_, fun i hi => ?_, ?_⟩
  · refine state_eq rfl rfl ?_ ?_ rfl ?_ ?_ ?_ ?_ ?_ ?_ <;> (rw [hfree]; rfl)
  · show v.job j = _
    rw [hjob]
    simp only [beq_eq_decide]
    rfl
  · exact (findPiece_congr i hpieces).trans (findPiece_unplanned _ (mem_queuedPieces.mpr hi))
  · exact (findPiece_congr i hpieces).trans (findPiece_not_unplanned _ fun hm => hi (mem_queuedPieces.mp hm))
  · show RecordReplaced s.stock v.stock _
    rw [hfree]
    exact releaseRecord_replaced hb

/-- Settles O35: before commitment, with the arbiter still, and with the station's water released (`unwindCommitted_unwound`). -/
theorem abandonUnwinds : Obligations.AbandonUnwinds := by
  unfold Obligations.AbandonUnwinds
  intro s p x b hx hb
  refine ⟨abandon_before hx hb, fun kerf l rate hphase hne hrole => abandon_still hx hb hphase hne hrole,
    fun kerf l rate hwater hphase _ => ?_⟩
  refine ⟨_, exec_abandon hx (abandonReply_of_committed hphase p _), Unwound.answered ?_ _ _, rfl, ?_⟩
  · exact unwindCommitted_unwound (u := { s with link := { s.link with miso := presented s 3 } }) rfl ⟨rfl, rfl⟩ rfl rfl hx hphase hb hwater
  · show waitingFrame (unwindCommitted p (takeFrame 3 s)).pending = _
    rw [unwindCommitted_eq (s := takeFrame 3 s) hx, putPlan_pending, planLeavesStation_state, freed_state]
    rfl

end Sys2Proof.Machine
end

section
/-! The close of a slab (R155 to R165): the remnant, the WASTE charges and the plan's departure, in the words of `SlabClosed`. -/

namespace Sys2Proof.Machine

/-! ## The candidate's fate (R157) -/

theorem remnantChoice_keep_iff {broke : Bool} {c : Candidate} {b : Slab} {k : Stock} :
    remnantChoice broke c b.gen k.slabs.length = .keep ↔ CandidateKept broke c b k := by
  unfold remnantChoice CandidateKept
  simp only [Config.maxSlabs]
  split_ifs <;> simp_all

theorem remnantChoice_discard_iff {broke : Bool} {c : Candidate} {b : Slab} {k : Stock} :
    remnantChoice broke c b.gen k.slabs.length = .discard ↔ CandidateLost broke c b k := by
  unfold remnantChoice CandidateLost
  simp only [Config.maxSlabs]
  split_ifs <;> simp_all

/-- R7, R19, R158, R163: the candidate entered as a remnant, and the slab's own record retired. -/
theorem remnantMade_enter {b : Slab} {c : Candidate} {k : Stock} (hb : findSlab b.serial k = some b) (h1 : 0xF00000 ≤ k.nextSerial)
    (h2 : k.nextSerial ≤ 0xFFFFFF) (hlen : k.slabs.length ≤ 512) :
    RemnantMade b c k (dropSlab b.serial (enterRemnant (createdRemnant b c.len c.wid k) k)) (createdRemnant b c.len c.wid k) := by
  have hfirst : FirstFreeSerial k (createdRemnant b c.len c.wid k).serial := issuedSerial_firstFree h1 h2 hlen
  have hgoes : RemnantGoes k (createdRemnant b c.len c.wid k).place := remnantPlace_goes k
  have hrec : createdRemnant b c.len c.wid k = ⟨(createdRemnant b c.len c.wid k).serial, .remnant, b.material, b.thickness, c.len, c.wid,
      0, 0, 0, 0, .available, (createdRemnant b c.len c.wid k).place, none, some b.serial, b.gen + 1⟩ := rfl
  generalize createdRemnant b c.len c.wid k = m at *
  obtain ⟨i, -, hfree, -⟩ := id hfirst
  have hne : m.serial ≠ b.serial := fun he => by
    rw [he, hb] at hfree
    cases hfree
  refine ⟨hrec, hfirst, hgoes, ?_, findSlab_dropSlab_self .., fun n hn hn' => ?_, fun r => ?_, ?_, ?_⟩
  · rw [findSlab_dropSlab_ne _ hne]
    exact findSlab_enterRemnant_self hfree
  · rw [findSlab_dropSlab_ne _ hn']
    exact findSlab_enterRemnant_ne _ hn
  · rw [rackList_dropSlab]
    exact rackList_enterRemnant ..
  · exact classes_enterRemnant ..
  · exact nextSerial_enterRemnant ..

/-! ## The WASTE charges as one list (R160 to R162) -/

theorem entries_of_job {l : List (Fin 64)} (hl : l.Nodup) (f : Fin 64 → Nat) (j : Fin 64) :
    (((l.map fun i => (i, f i)).filter fun x => x.1 == j).map fun x => x.2) = if j ∈ l then [f j] else [] := by
  induction l with
  | nil => rfl
  | cons i l ih =>
    obtain ⟨hi, hl⟩ := List.nodup_cons.mp hl
    have ih := ih hl
    by_cases h : i = j
    · subst h
      simp only [hi, if_false] at ih
      simp [ih]
    · have h' : j ≠ i := fun e => h e.symm
      simp [h, h', ih]

/-- R160, R161: the shares are of ascending, different jobs. -/
theorem wasteShares_ascending (pool : Nat) (l : List Placement) : ∃ (p : Fin 64 → Bool) (f : Fin 64 → Nat),
    wasteShares pool l = ((List.finRange 64).filter p).map fun j => (j, f j) := by
  unfold wasteShares
  split
  · refine ⟨fun j => decide (j = 0), fun _ => pool, ?_⟩
    have : ((List.finRange 64).filter fun j => decide (j = 0)) = [0] := by decide
    rw [this]
    rfl
  · exact ⟨_, _, rfl⟩

theorem chargedShares_eq (pool : Nat) (l : List Placement) : chargedShares pool l =
    ((List.finRange 64).filter fun j => decide (0 < closeShare pool l j)).map fun j => (j, closeShare pool l j) := by
  obtain ⟨p, f, h⟩ := wasteShares_ascending pool l
  have hshare : ∀ j, closeShare pool l j = if p j then f j else 0 := fun j => by
    unfold closeShare
    rw [h, entries_of_job ((List.nodup_finRange 64).filter p)]
    cases hp : p j <;> simp [hp]
  unfold chargedShares
  rw [h, List.filter_map, List.filter_filter]
  have hfilter : ((List.finRange 64).filter fun j => decide (0 < closeShare pool l j)) =
      (List.finRange 64).filter fun j => (((fun x : Fin 64 × Nat => decide (0 < x.2)) ∘ fun j => (j, f j)) j && p j) := by
    refine List.filter_congr fun j _ => ?_
    rw [hshare]
    cases p j <;> simp
  rw [hfilter]
  refine List.map_congr_left fun j hj => ?_
  rw [hshare]
  have hp : p j = true := by
    simp only [List.mem_filter, Bool.and_eq_true] at hj
    exact hj.2.2
  rw [hp, if_pos rfl]

/-- R162: the WASTE charges of a list of jobs and areas, in its order. -/
def wasteAll (rate : Nat) (l : List (Fin 64 × Nat)) (s : State) : State :=
  l.foldl (fun x c => charge c.1 .waste c.2 rate x) s

theorem wasteCharges_eq (rate pool : Nat) (l : List Placement) (s : State) :
    wasteCharges rate pool l s = wasteAll rate (closeCharges pool l) s := by
  unfold wasteCharges wasteAll closeCharges
  rw [List.foldl_append, List.foldl_map (f := fun x : Placement => (x.piece.job, x.area)), ← chargedShares_eq]

theorem wasteAll_cost (rate : Nat) (l : List (Fin 64 × Nat)) (s : State) : CostFrame s (wasteAll rate l s) := by
  induction l generalizing s with
  | nil => exact .refl s
  | cons c l ih => exact (charge_money ..).cost.trans (ih _)

theorem SameMoney.wasteAll {s t : State} (h : SameMoney s t) (rate : Nat) (l : List (Fin 64 × Nat)) :
    SameMoney (wasteAll rate l s) (wasteAll rate l t) := by
  induction l generalizing s t with
  | nil => exact h
  | cons c l ih => exact ih (h.charge ..)

theorem job_wasteAll (rate : Nat) (l : List (Fin 64 × Nat)) (j : Fin 64) (s : State) : (wasteAll rate l s).job j =
    (s.job j).map fun d => ((l.filter fun x => x.1 == j).map fun x => x.2).foldl (fun e n => chargedJob .waste n rate e) d := by
  induction l generalizing s with
  | nil => simp [wasteAll]
  | cons c l ih =>
    show (wasteAll rate l (charge c.1 .waste c.2 rate s)).job j = _
    rw [ih, job_charge]
    by_cases h : j = c.1
    · subst h
      simp [Option.map_map, Function.comp_def]
    · have h' : c.1 ≠ j := fun e => h e.symm
      simp [h, h']

end Sys2Proof.Machine
end

section
/-! The steps of a close of a plan on its station, as `SlabClosed` states them. -/

namespace Sys2Proof.Machine

/-! ## The counts, the slab and the plan let go (R163) -/

theorem letGo_state (p : Fin 16) (serial : Nat) (l : List Placement) (s : State) : letGo p serial l s = { s with
    stock := dropSlab serial s.stock
    jobs := (letGo p serial l s).jobs
    plans := { s.plans with slots := s.plans.slots.set p none } } := by
  unfold letGo
  rw [uncountPlacements_state]
  rfl

theorem letGo_pieces (p : Fin 16) (serial : Nat) (l : List Placement) (s : State) : (letGo p serial l s).jobs.pieces = s.jobs.pieces :=
  uncountPlacements_pieces ..

theorem letGo_job (p : Fin 16) (serial : Nat) (l : List Placement) (s : State) (j : Fin 64) :
    (letGo p serial l s).job j = (s.job j).map fun d => { d with openCount := d.openCount - l.countP fun x => x.piece.job == j } := by
  have h := uncountPlacements_job j l s
  simp only [beq_eq_decide]
  exact h

theorem letGo_money (p : Fin 16) (serial : Nat) (l : List Placement) (s : State) : SameMoney s (letGo p serial l s) := by
  have hstate := letGo_state p serial l s
  refine ⟨fun j => ?_, by rw [hstate], by rw [hstate]; exact .refl _⟩
  rw [letGo_job, Option.map_map]
  rfl

theorem openCount_wasteCharges (rate : Nat) (l : List Nat) (d : Job) :
    (l.foldl (fun e n => chargedJob .waste n rate e) d).openCount = d.openCount := by
  induction l generalizing d with
  | nil => rfl
  | cons n l ih => exact ih _

/-- R162, R163: the WASTE charges and the fall of the count, job by job. -/
theorem letGo_wasteAll_job (p : Fin 16) (serial rate pool : Nat) (l : List Placement) (s : State) (j : Fin 64) :
    (letGo p serial l (wasteAll rate (closeCharges pool l) s)).job j = (s.job j).map (wastedJob rate pool l j) := by
  rw [letGo_job, job_wasteAll, Option.map_map]
  refine congrArg (fun f => (s.job j).map f) (funext fun d => ?_)
  simp only [Function.comp_apply, openCount_wasteCharges]
  rfl

theorem planLeavesStation_link (st : Fin 6) (p : Fin 16) (s : State) : LinkKept s.link (planLeavesStation st p s).link := by
  unfold planLeavesStation
  split
  · exact (dropWater_water st (s.onStation st _)).link
  · exact .refl _

/-! ## From the remnant to the plan's departure (R158 to R163) -/

/-- R158 to R163: the steps of a close before its notice. -/
def closeWork (p : Fin 16) (x : Plan) (l : Layout) (rate pool : Nat) (b : Slab) (c : RemnantChoice) (s : State) : State :=
  planLeavesStation x.station p (letGo p x.serial l.placements (wasteAll rate (closeCharges pool l.placements)
    (settleRemnant p l.candidate b c s)))

theorem closeSteps_eq (p : Fin 16) (x : Plan) (l : Layout) (rate : Nat) (b : Slab) (broke : Bool) (s : State) :
    closeSteps p x l rate b broke s = raiseNotice .slabClosed p (closeWork p x l rate (closeReport p x l b broke s).pool b
      (remnantChoice broke l.candidate b.gen s.stock.slabs.length) s) := by
  unfold closeSteps closeWork
  dsimp only
  rw [wasteCharges_eq]
  rfl

/-- What the steps of a close leave, with the departure of the plan from its station told from any state `v` that has the accounts, the
stations, the water and the notices of the state after the remnant. -/
structure ClosedWork (p : Fin 16) (x : Plan) (l : Layout) (rate pool : Nat) (b : Slab) (c : RemnantChoice) (s t : State) : Prop where
  state : t = { s with
    stock := dropSlab x.serial (settleRemnant p l.candidate b c s).stock
    jobs := t.jobs
    plans := { s.plans with slots := s.plans.slots.set p none }
    stations := t.stations
    arbiter := t.arbiter
    link := t.link }
  link : LinkKept s.link t.link
  pieces : t.jobs.pieces = s.jobs.pieces
  job : ∀ j, t.job j = (s.job j).map fun d =>
    if j = 0 ∧ s.permit x.station = true then meteredJob (s.station x.station) s.rates.water (wastedJob rate pool l.placements j d)
    else wastedJob rate pool l.placements j d
  station : t.station x.station = advanced p (s.permit x.station) (s.station x.station)
  permit : t.permit x.station = false
  request : t.request x.station = none
  left : ∀ v w : State, v = { s with link := v.link } → SameNotices v.link (settleRemnant p l.candidate b c s).link →
    w = wasteAll rate (closeCharges pool l.placements) v →
    SameWater (waterDropped x.station (s.permit x.station || (s.request x.station).isSome)
      { (if s.permit x.station then chargeMeters x.station 0 w else w) with
        stations := s.stations.set x.station (advanced p (s.permit x.station) (s.station x.station)) }) t

theorem closeWork_closed {s : State} {p : Fin 16} {x : Plan} (l : Layout) (rate pool : Nat) (b : Slab) (c : RemnantChoice)
    (hcur : (s.station x.station).current = some p) (hwater : WaterOk s) :
    ClosedWork p x l rate pool b c s (closeWork p x l rate pool b c s) := by
  obtain ⟨hs2, hlink2⟩ := settleRemnant_state p l.candidate b c s
  unfold closeWork
  generalize hset : settleRemnant p l.candidate b c s = s2 at *
  have hcost := wasteAll_cost rate (closeCharges pool l.placements) s2
  have hjob6 := letGo_wasteAll_job p x.serial rate pool l.placements s2
  have hmoney5 := fun (v : State) (h : SameMoney v s2) => h.wasteAll rate (closeCharges pool l.placements)
  generalize wasteAll rate (closeCharges pool l.placements) s2 = s5 at *
  have hs5 := hcost.state
  have hs6 := letGo_state p x.serial l.placements s5
  have hpieces6 := letGo_pieces p x.serial l.placements s5
  have hmoney6 := letGo_money p x.serial l.placements s5
  generalize letGo p x.serial l.placements s5 = s6 at *
  have hleft : ∀ v w : State, v = { s with link := v.link } → SameNotices v.link s2.link →
      w = wasteAll rate (closeCharges pool l.placements) v →
      w = { s with jobs := w.jobs, link := w.link } ∧ CurrentLeft x.station p w s6 (planLeavesStation x.station p s6) := fun v w hv hn hw => by
    have hsame : SameMoney v s2 := ⟨fun j => by rw [hs2, hv]; rfl, by rw [hs2, hv], hn⟩
    have hwstate := (wasteAll_cost rate (closeCharges pool l.placements) v).state
    have hmoney := (hmoney5 v hsame).trans hmoney6
    rw [← hw] at hwstate hmoney
    have hws : w = { s with jobs := w.jobs, link := w.link } := by rw [hwstate, hv]
    refine ⟨hws, planLeavesStation_current ?_ ?_ hmoney ?_ ?_ ?_⟩
    · rw [hws]; exact hcur
    · rw [hws]; exact hwater.request_of_permit
    all_goals rw [hs6, hs5, hs2, hws]
  have hs7 := planLeavesStation_state x.station p s6
  have hpieces7 := (planLeavesStation_frame x.station p s6).pieces
  have hlink7 := planLeavesStation_link x.station p s6
  generalize planLeavesStation x.station p s6 = t at *
  obtain ⟨hws, c⟩ := hleft { s with link := s2.link } _ rfl (.refl _) rfl
  generalize wasteAll rate (closeCharges pool l.placements) { s with link := s2.link } = w at *
  have hstation : w.station x.station = s.station x.station := by rw [hws]; rfl
  have hpermit : w.permit x.station = s.permit x.station := by rw [hws]; rfl
  have hrates : w.rates = s.rates := by rw [hws]
  refine ⟨?_, ?_, ?_, fun j => ?_, ?_, c.permit, c.request, fun v w hv hn hw => ?_⟩
  · refine state_eq (by rw [hset, hs7, hs6, hs5]) rfl ?_ ?_ rfl rfl ?_ ?_ rfl ?_ ?_ <;> rw [hs7, hs6, hs5, hs2]
  · have h6 : s6.link = s5.link := by rw [hs6]
    exact hlink2.trans (hcost.link.trans (h6 ▸ hlink7))
  · have h2 : s2.jobs = s.jobs := by rw [hs2]
    exact hpieces7.trans (hpieces6.trans (hcost.pieces.trans (by rw [h2])))
  · have h2 : s2.job j = s.job j := by rw [hs2]; rfl
    rw [c.job, hjob6, h2, hstation, hpermit, hrates]
    split
    · rw [Option.map_map]; rfl
    · rfl
  · rw [c.station, hstation, hpermit]
  · obtain ⟨hws, c⟩ := hleft v w hv (hset ▸ hn) hw
    have hwater := c.water
    have hstation : w.station x.station = s.station x.station := by rw [hws]; rfl
    have hpermit : w.permit x.station = s.permit x.station := by rw [hws]; rfl
    have hrequest : w.request x.station = s.request x.station := by rw [hws]; rfl
    have hstations : w.stations = s.stations := by rw [hws]
    rw [meteredOff, hstation, hpermit, hrequest, hstations] at hwater
    exact hwater

/-- R155 to R165: the close of a plan on its station. -/
theorem closeSteps_closed {s : State} {p : Fin 16} {x : Plan} (l : Layout) (rate : Nat) {b : Slab} (broke : Bool)
    (hcur : (s.station x.station).current = some p) (hwater : WaterOk s) (hb : findSlab x.serial s.stock = some b)
    (h1 : 0xF00000 ≤ s.stock.nextSerial) (h2 : s.stock.nextSerial ≤ 0xFFFFFF) (hlen : s.stock.slabs.length ≤ 512) :
    SlabClosed p x.station l rate b broke s (closeSteps p x l rate b broke s) (closeReport p x l b broke s) := by
  have hserial := findSlab_serial hb
  have hk := remnantChoice_keep_iff (broke := broke) (c := l.candidate) (b := b) (k := s.stock)
  have hd := remnantChoice_discard_iff (broke := broke) (c := l.candidate) (b := b) (k := s.stock)
  have hwork := fun pool c => closeWork_closed (s := s) (p := p) (x := x) l rate pool b c hcur hwater
  rw [closeSteps_eq]
  unfold closeReport
  dsimp only
  generalize remnantChoice broke l.candidate b.gen s.stock.slabs.length = c at *
  generalize hpool : wastePool b.usableArea l.placements (remnantArea l.candidate c) = pool at *
  have hw := hwork pool c
  generalize closeWork p x l rate pool b c s = t at *
  have hstate := hw.state
  have hstock := congrArg State.stock hstate
  refine ⟨?_, fun hc => ?_, fun hc => ?_, ?_, ?_, hw.pieces, hw.job, hw.station, ⟨hw.permit, hw.request⟩, ?_⟩
  · have hlink := hw.link.trans (postNotice_kept .slabClosed p t.link)
    exact frame_relinked hstate rfl hlink.mode hlink.miso
  · obtain rfl := hk.mpr hc
    refine ⟨_, ?_, rfl, rfl, rfl⟩
    show RemnantMade b l.candidate s.stock t.stock _
    rw [hstock, settleRemnant, createRemnant_state, ← hserial]
    exact remnantMade_enter (hserial ▸ hb) h1 h2 hlen
  · have hgone : (settleRemnant p l.candidate b c s).stock = s.stock →
        OnlyRecord s.stock t.stock b.serial none ∧ t.stock.racks = s.stock.racks := fun hsame => by
      rw [hstock, hsame, ← hserial]
      exact ⟨⟨findSlab_dropSlab_self .., fun n hn => findSlab_dropSlab_ne _ hn, rfl, rfl⟩, rfl⟩
    cases c with
    | nothing => exact ⟨(hgone rfl).1, (hgone rfl).2, rfl, rfl, fun hl => (nomatch hd.mpr hl), fun _ => rfl⟩
    | discard => exact ⟨(hgone rfl).1, (hgone rfl).2, rfl, rfl, fun _ => rfl, fun hl => absurd (hd.mp rfl) hl⟩
    | keep => exact absurd (hk.mp rfl) hc
  · exact hpool.symm
  · refine ⟨rfl, rfl, hserial.symm, rfl, ?_⟩
    rw [chargedShares_eq, List.length_map, List.countP_eq_length_filter]
  · have key : ∀ k : Link, SameNotices k (settleRemnant p l.candidate b c s).link → SameWater
        (waterDropped x.station (s.permit x.station || (s.request x.station).isSome)
          { (if s.permit x.station then
              chargeMeters x.station 0 (wasteAll rate (closeCharges pool l.placements) { s with link := k })
            else wasteAll rate (closeCharges pool l.placements) { s with link := k }) with
            stations := (s.stations.set x.station (advanced p (s.permit x.station) (s.station x.station))) }) t :=
      fun k hk => hw.left _ _ rfl hk rfl
    suffices hsame : SameNotices _ (settleRemnant p l.candidate b c s).link from
      ⟨_, _, _, rfl, rfl, rfl, (key _ hsame).stations, (key _ hsame).arbiter, ((key _ hsame).link.post ..).notices,
        ((key _ hsame).link.post ..).overflow⟩
    cases c with
    | nothing => exact ⟨rfl, rfl⟩
    | discard => exact ⟨rfl, rfl⟩
    | keep =>
      unfold settleRemnant createRemnant
      cases hplace : (createdRemnant b l.candidate.len l.candidate.wid s.stock).place <;>
        simp only [remnantOutcome, hplace, reduceCtorEq, if_false, if_true] <;> exact ⟨rfl, rfl⟩

end Sys2Proof.Machine
end

section
/-! A job's over-budget flag after the charges of a cut (R142): the last charge's watch says whether the total has reached the budget. -/

namespace Sys2Proof.Machine

theorem centsOf_mono {m n : Nat} (h : m ≤ n) : centsOf m ≤ centsOf n := by
  unfold centsOf
  have : (m + 32768) / 65536 ≤ (n + 32768) / 65536 := Nat.div_le_div_right (by omega)
  omega

theorem value_addProduct {a : Acc} (h : a.value ≤ Config.accMax) (n : Nat) :
    a.value ≤ (addProduct a n).value ∧ (addProduct a n).value ≤ Config.accMax := by
  unfold addProduct
  split
  · exact ⟨Nat.le_add_right .., by assumption⟩
  · exact ⟨h, Nat.le_refl _⟩

/-- R147: the total does not fall where an accumulator does not. -/
theorem totalCents_putAcc {d : CostRecord} {c : Category} {a : Acc} (h : (getAcc d c).value ≤ a.value) :
    totalCents d ≤ totalCents (putAcc d c a) := by
  have hcents := centsOf_mono h
  unfold totalCents centsSum
  cases c <;> simp only [getAcc, putAcc] at hcents ⊢ <;> omega

theorem getAcc_putAcc (d : CostRecord) (c k : Category) (a : Acc) : getAcc (putAcc d c a) k = if k = c then a else getAcc d k := by
  cases c <;> cases k <;> rfl

/-- R142: the total of the costs has reached the budget, if there is one. -/
def reached (budget : Nat) (d : CostRecord) : Bool :=
  decide (0 < budget ∧ budget ≤ totalCents d)

theorem reached_mono {budget : Nat} {d e : CostRecord} (h : totalCents d ≤ totalCents e) (hd : reached budget d = true) :
    reached budget e = true := by
  unfold reached at *
  simp only [decide_eq_true_eq] at *
  omega

/-- What any number of charges makes of the account `b`: its flag stands, and a flag newly set says that the total has reached the
budget. -/
structure Paid (b c : Job) : Prop where
  budget : c.budget = b.budget
  range : ∀ k, (getAcc c.cost k).value ≤ Config.accMax
  kept : b.overBudget = true → c.overBudget = true
  earned : c.overBudget = true → b.overBudget = true ∨ reached b.budget c.cost = true

theorem Paid.refl {b : Job} (h : ∀ k, (getAcc b.cost k).value ≤ Config.accMax) : Paid b b := ⟨rfl, h, id, .inl⟩

/-- R142: after a charge the flag says whether it was set before or the total has reached the budget. -/
theorem Paid.watched {b m : Job} (h : Paid b m) (c : Category) (q r : Nat) :
    (chargedJob c q r m).overBudget = (b.overBudget || reached b.budget (chargedJob c q r m).cost) := by
  have hrise : totalCents m.cost ≤ totalCents (chargedJob c q r m).cost := totalCents_putAcc (value_addProduct (h.range c) _).1
  have hflag : (chargedJob c q r m).overBudget = (m.overBudget || reached m.budget (chargedJob c q r m).cost) := rfl
  rw [hflag, h.budget, Bool.eq_iff_iff, Bool.or_eq_true, Bool.or_eq_true]
  constructor
  · rintro (hm | hc)
    · exact (h.earned hm).imp_right (reached_mono hrise)
    · exact .inr hc
  · exact Or.imp_left h.kept

theorem Paid.charged {b m : Job} (h : Paid b m) (c : Category) (q r : Nat) : Paid b (chargedJob c q r m) := by
  have hwatched := h.watched c q r
  refine ⟨h.budget, fun k => ?_, fun hb => ?_, fun hc => ?_⟩
  · show (getAcc (putAcc m.cost c _) k).value ≤ _
    rw [getAcc_putAcc]
    split
    · exact (value_addProduct (h.range c) _).2
    · exact h.range k
  · rw [hwatched, hb, Bool.true_or]
  · rwa [hwatched, Bool.or_eq_true] at hc

theorem Paid.metered {b m : Job} (h : Paid b m) (x : Station) (w : Nat) : Paid b (meteredJob x w m) := by
  unfold meteredJob
  dsimp only
  split <;> split
  · exact (h.charged ..).charged ..
  · exact h.charged ..
  · exact h.charged ..
  · exact h

/-- R93: the flag after MATERIAL and then the meters. -/
theorem overBudget_metered {b : Job} (h : ∀ k, (getAcc b.cost k).value ≤ Config.accMax) (x : Station) (w : Nat) (c : Category) (q r : Nat) :
    (meteredJob x w (chargedJob c q r b)).overBudget =
      (b.overBudget || reached b.budget (meteredJob x w (chargedJob c q r b)).cost) := by
  have hpaid := (Paid.refl h).charged c q r
  unfold meteredJob
  dsimp only
  split <;> split
  · exact (hpaid.charged ..).watched ..
  · exact hpaid.watched ..
  · exact hpaid.watched ..
  · exact (Paid.refl h).watched ..

end Sys2Proof.Machine
end

section
/-! The end of a cut (R93, R154, R167): the issued entry leaves, and the plan goes on, its station loses a marked grant, or it closes. -/

namespace Sys2Proof.Machine

/-! ## The entry leaves (R93, R167) -/

/-- R93 step 2, R109: the station without its issued entry, its hold timer started if the hold condition now holds. -/
def endedStation (e : CutEntry) (permit : Bool) (x : Station) : Station :=
  { x with
    queue := x.queue.erase e
    issued := none
    hold := if permit = true ∧ x.spindle = false then (startHold x).hold else x.hold }

/-- The placement of the entry restated in its plan, now `x`, and the entry gone from its station. -/
def cutEnded (st : Fin 6) (e : CutEntry) (x : Plan) (s : State) : State :=
  { s with
    plans := { s.plans with slots := s.plans.slots.set e.plan (some x) }
    stations := s.stations.set st (endedStation e (s.permit st) (s.station st)) }

theorem endEntry_eq (st : Fin 6) (e : CutEntry) (s : State) :
    endEntry st e s = { s with stations := s.stations.set st (endedStation e (s.permit st) (s.station st)) } := by
  have hcond : (s.onStation st fun x => { x with queue := x.queue.erase e, issued := none }).holdCondition st =
      (s.permit st && !(s.station st).spindle) := by
    unfold State.holdCondition
    rw [station_onStation_self, Option.isSome_none, Bool.not_false, Bool.and_true]
    rfl
  unfold endEntry startHoldIf endedStation
  rw [hcond]
  have hiff : ((s.permit st && !(s.station st).spindle) = true) = (s.permit st = true ∧ (s.station st).spindle = false) := by simp
  simp only [hiff]
  split
  · simp only [State.onStation, get_set_self, Vector.set_set]
    rfl
  · rfl

theorem endEntry_onJobs (st : Fin 6) (e : CutEntry) (f : JobTable → JobTable) (s : State) :
    endEntry st e (s.onJobs f) = (endEntry st e s).onJobs f := by
  rw [endEntry_eq, endEntry_eq]
  rfl

theorem setPlacement_cutting {s : State} {p : Fin 16} {x : Plan} {kerf rate i : Nat} {l : Layout} {y : Placement}
    (hx : s.plan p = some x) (hphase : x.phase = .cutting kerf l rate) (hy : l.placements[i]? = some y) (q : PlaceState) :
    setPlacement p i q s = s.putPlan p (some
      { x with phase := .cutting kerf { l with placements := l.placements.set i { y with state := some q } } rate }) := by
  have hset : l.placements.modify i (withState q) = l.placements.set i { y with state := some q } := by
    rw [List.modify_eq_set_getElem?, hy]
    rfl
  unfold setPlacement State.modPlan
  rw [hx]
  dsimp only
  rw [onPlacements_cutting hphase, hset]

theorem endEntry_setPlacement {s : State} {st : Fin 6} {e : CutEntry} {x : Plan} {kerf rate : Nat} {l : Layout} {y : Placement}
    (hx : s.plan e.plan = some x) (hphase : x.phase = .cutting kerf l rate) (hy : l.placements[e.index]? = some y) (q : PlaceState) :
    endEntry st e (setPlacement e.plan e.index q s) = cutEnded st e
      { x with phase := .cutting kerf { l with placements := l.placements.set e.index { y with state := some q } } rate } s := by
  rw [setPlacement_cutting hx hphase hy, endEntry_eq]
  rfl

theorem entryArea_eq {s : State} {e : CutEntry} {x : Plan} {kerf rate : Nat} {l : Layout} {y : Placement}
    (hx : s.plan e.plan = some x) (hphase : x.phase = .cutting kerf l rate) (hy : l.placements[e.index]? = some y) :
    entryArea e s = y.xe * y.ye ∧ entryRate e s = rate := by
  have hplace : s.placements e.plan = l.placements := by
    unfold State.placements
    rw [hx]
    exact (cutting_views hphase).2.2.2.2.1
  constructor
  · unfold entryArea entryPlacement
    rw [hplace, hy]
    rfl
  · unfold entryRate
    rw [hx]
    simp [rateOf, hphase]

/-! ## What a cut's end leaves -/

/-- After the charges and the snapshots: `u` is `s` but for its jobs and its notices, with the entry gone. -/
structure CutOver (st : Fin 6) (e : CutEntry) (x : Plan) (s u : State) : Prop where
  state : u = { s with
    jobs := u.jobs
    plans := { s.plans with slots := s.plans.slots.set e.plan (some x) }
    stations := s.stations.set st (snapMeters (endedStation e (s.permit st) (s.station st)))
    link := u.link }
  link : LinkKept s.link u.link

theorem CutOver.station {st : Fin 6} {e : CutEntry} {x : Plan} {s u : State} (h : CutOver st e x s u) :
    u.station st = snapMeters (endedStation e (s.permit st) (s.station st)) := by
  rw [h.state]
  exact get_set_self _ st _

theorem CutOver.plan {st : Fin 6} {e : CutEntry} {x : Plan} {s u : State} (h : CutOver st e x s u) : u.plan e.plan = some x := by
  rw [h.state]
  exact get_set_self _ e.plan _

/-- The state before a cut's end and after differ from what the statements name by the marks of the transaction alone. -/
theorem CutOver.explicit {st : Fin 6} {e : CutEntry} {x : Plan} {s u v : State} {n : Nat} (h : CutOver st e x (takeFrame n s) u)
    (hn : SameNotices v.link u.link) : u = { s with
      jobs := u.jobs
      plans := { s.plans with slots := s.plans.slots.set e.plan (some x) }
      stations := s.stations.set st { s.station st with
        queue := (s.station st).queue.erase e
        issued := none
        hold := if s.permit st = true ∧ (s.station st).spindle = false then
            (if (s.station st).holdSetting = 0 then none else some ((s.station st).holdSetting * 5))
          else (s.station st).hold
        runSnap := (s.station st).runMeter
        waterSnap := (s.station st).waterMeter }
      link := { s.link with
        miso := presented s n
        response := none
        held := false
        notices := v.link.notices
        overflow := v.link.overflow } } := by
  have hstate := h.state
  have hl : u.link = { s.link with
      miso := presented s n
      response := none
      held := false
      notices := v.link.notices
      overflow := v.link.overflow } := by
    have ⟨h1, h2, h3, h4⟩ := h.link
    have h5 := hn.notices
    have h6 := hn.overflow
    generalize u.link = k at *
    cases k
    simp only at h1 h2 h3 h4 h5 h6
    subst h1 h2 h3 h4 h5 h6
    rfl
  rw [← hl]
  exact hstate

/-! ## The close check (R154) and the mark (R102) -/

theorem any_unfinished {l : List Placement} {i : Nat} {y : Placement} (h : ∃ k z, k ≠ i ∧ l[k]? = some z ∧
    (z.state = some .queued ∨ z.state = some .issued)) : (l.set i y).any unfinished = true := by
  obtain ⟨k, z, hk, hz, hstate⟩ := h
  refine List.any_eq_true.mpr ⟨z, List.mem_of_getElem? (i := k) ?_, ?_⟩
  · rw [List.getElem?_set_ne (fun e => hk e.symm)]
    exact hz
  · unfold unfinished
    rcases hstate with h | h <;> simp [h]

theorem releaseIfMarked_of_unmarked {st : Fin 6} {s : State} (h : ∀ g, s.grant st = some g → g.mark = false) :
    releaseIfMarked st s = s := by
  unfold releaseIfMarked
  split
  · rename_i g hg
    rw [h g hg, if_neg (by decide)]
  · rfl

theorem snapMeters_of_snapped {x : Station} (hrun : x.runSnap = x.runMeter) (hwater : x.waterSnap = x.waterMeter) : snapMeters x = x := by
  cases x
  simp only at hrun hwater
  subst hrun hwater
  rfl

/-- R97: the meters charged to the cut's job, the release charges nothing. -/
theorem releaseGrant_of_snapped {st : Fin 6} {s : State} (hrun : (s.station st).runSnap = (s.station st).runMeter)
    (hwater : (s.station st).waterSnap = (s.station st).waterMeter) : releaseGrant st s = arbitrate { s with
      stations := s.stations.set st { s.station st with hold := none }
      arbiter := { s.arbiter with grants := s.arbiter.grants.filter fun g => g.station != st } } := by
  have hsnap := snapMeters_of_snapped hrun hwater
  have hcharge : chargeMeters st 0 s = s := by
    unfold chargeMeters
    dsimp only
    rw [hrun, hwater, Nat.sub_self, Nat.sub_self, if_neg (Nat.lt_irrefl 0), if_neg (Nat.lt_irrefl 0), State.onStation]
    have hset : s.stations.set st (snapMeters (s.stations.get st)) = s.stations := by
      rw [State.station] at hsnap
      rw [hsnap]
      exact set_get_self _ _
    rw [hset]
  unfold releaseGrant
  rw [hcharge]
  rfl

section
variable {st : Fin 6} {e : CutEntry} {x : Plan} {kerf rate : Nat} {l : Layout} {s u : State}

theorem CutOver.placements (h : CutOver st e x s u) (hphase : x.phase = .cutting kerf l rate) : u.placements e.plan = l.placements := by
  unfold State.placements
  rw [h.plan]
  exact (cutting_views hphase).2.2.2.2.1

theorem CutOver.grant (h : CutOver st e x s u) : u.grant st = s.grant st := by rw [h.state]; rfl

/-- Other work is left, and the station keeps its grant, if it has one. -/
theorem CutOver.goesOn (h : CutOver st e x s u) (hphase : x.phase = .cutting kerf l rate) (hleft : l.placements.any unfinished = true)
    (hmark : ∀ g, s.grant st = some g → g.mark = false) : afterCut st e.plan u = ⟨u, none⟩ := by
  unfold afterCut
  rw [closeCheck_of_unfinished (by rw [h.placements hphase]; exact hleft)]
  dsimp only
  rw [releaseIfMarked_of_unmarked (by rw [h.grant]; exact hmark)]

/-- Other work is left, and the station's grant is released. -/
theorem CutOver.released (h : CutOver st e x s u) (hphase : x.phase = .cutting kerf l rate) (hleft : l.placements.any unfinished = true)
    (hmark : ∃ g, s.grant st = some g ∧ g.mark = true) : afterCut st e.plan u = ⟨arbitrate { u with
      stations := u.stations.set st { u.station st with hold := none }
      arbiter := { u.arbiter with grants := u.arbiter.grants.filter fun g => g.station != st } }, none⟩ := by
  obtain ⟨g, hg, hm⟩ := hmark
  unfold afterCut releaseIfMarked
  rw [closeCheck_of_unfinished (by rw [h.placements hphase]; exact hleft)]
  dsimp only
  rw [h.grant, hg]
  dsimp only
  rw [if_pos hm, releaseGrant_of_snapped (by rw [h.station]; rfl) (by rw [h.station]; rfl)]

/-- It was the plan's last work: the plan closes, and no grant is left to release. -/
theorem CutOver.closed (h : CutOver st e x s u) (hphase : x.phase = .cutting kerf l rate) {b : Slab}
    (hdone : ∀ z ∈ l.placements, z.state ≠ some .queued ∧ z.state ≠ some .issued) (hwater : WaterOk s) (hst : x.station = st)
    (hcur : (s.station st).current = some e.plan) (hb : findSlab x.serial s.stock = some b) (h1 : 0xF00000 ≤ s.stock.nextSerial)
    (h2 : s.stock.nextSerial ≤ 0xFFFFFF) (hlen : s.stock.slabs.length ≤ 512) :
    ∃ r, (afterCut st e.plan u).report = some r ∧ SlabClosed e.plan st l rate b false u (afterCut st e.plan u).state r := by
  have hstock : u.stock = s.stock := by rw [h.state]
  have hcheck : closeCheck e.plan u =
      ⟨closeSteps e.plan x l rate b false u, some (closeReport e.plan x l b false u)⟩ := by
    have hnone : (l.placements.any unfinished) = false := by
      rw [List.any_eq_false]
      intro z hz
      obtain ⟨hq, hi⟩ := hdone z hz
      simp [unfinished, hq, hi]
    unfold closeCheck closePlan
    rw [h.placements hphase, hnone, if_neg (by decide), h.plan]
    dsimp only
    rw [hphase]
    dsimp only
    rw [hstock, hb]
  have hclosed := closeSteps_closed (s := u) (p := e.plan) (x := x) l rate (b := b) false
    (by rw [hst, h.station]; exact hcur) (by rw [h.state]; exact hwater) (by rw [hstock]; exact hb) (by rw [hstock]; exact h1)
    (by rw [hstock]; exact h2) (by rw [hstock]; exact hlen)
  rw [hst] at hclosed
  unfold afterCut
  rw [hcheck]
  dsimp only
  have hgrant := permit_eq_false.mp hclosed.water.1
  rw [releaseIfMarked_of_unmarked fun g hg => by rw [hgrant] at hg; cases hg]
  exact ⟨_, rfl, hclosed⟩

end

/-- The response placed changes nothing that the close's statement speaks of. -/
theorem SlabClosed.answered {p : Fin 16} {st : Fin 6} {l : Layout} {rate : Nat} {b : Slab} {broke : Bool} {u t : State} {r : CloseReport}
    (h : SlabClosed p st l rate b broke u t r) (q : Status) (body : List Byte) :
    SlabClosed p st l rate b broke u (putResponse q body t) r := by
  have hmode := congrArg (fun v : State => v.link.mode) h.frame
  have hmiso := congrArg (fun v : State => v.link.miso) h.frame
  exact ⟨frame_relinked h.frame rfl hmode hmiso, h.kept, h.notKept, h.pool, h.report, h.pieces, h.jobs, h.station, h.water, h.rest⟩

end Sys2Proof.Machine
end

section
/-! CUT_DONE and CUT_SPOILED: the statements O42 and O43. -/

namespace Sys2Proof.Machine

/-! ## The reports served (R92, R166) -/

theorem withStation_of_lt (st : Fin 6) (k : Fin 6 → Reply) (s : State) : withStation st k s = k st := by
  unfold withStation
  rw [if_neg (by omega), Fin.ofNat_val_eq_self]

theorem reportedEntry_of_issued {s : State} {st : Fin 6} {e : CutEntry} (h : (s.station st).issued = some e) :
    reportedEntry st e.plan e.index s = some e := by
  unfold reportedEntry
  rw [h]
  simp

theorem exec_cutDone {s : State} {st : Fin 6} {e : CutEntry} (he : (s.station st).issued = some e) {c : Closed}
    (hc : afterCut st e.plan (finishCut st e (takeFrame 5 s)) = c) : exec (.cutDone st e.plan e.index) s =
      .next (putResponse .ok (stationSummary st (c.state.station st) ++ indication c.report) c.state) := by
  rw [exec, execCutDone]
  refine serve_of_work (r := ⟨c.state, .ok, _⟩) ?_
  rw [withStation_of_lt, reportedEntry_of_issued (s := takeFrame 5 s) he]
  dsimp only
  rw [cutDoneReply, hc]

theorem exec_cutSpoiled {s : State} {st : Fin 6} {e : CutEntry} (he : (s.station st).issued = some e) {c : Closed}
    (hc : afterCut st e.plan (spoilCut st e (takeFrame 5 s)) = c) : exec (.cutSpoiled st e.plan e.index) s =
      .next (putResponse .ok (stationSummary st (c.state.station st) ++ pieceOutcome e.piece c.state ++ indication c.report) c.state) := by
  rw [exec, execCutSpoiled]
  refine serve_of_work (r := ⟨c.state, .ok, _⟩) ?_
  rw [withStation_of_lt, reportedEntry_of_issued (s := takeFrame 5 s) he]
  dsimp only
  rw [cutSpoiledReply, hc]

/-! ## The charges of a cut (R93, R167) -/

theorem station_cutEnded (st : Fin 6) (e : CutEntry) (x : Plan) (s : State) :
    (cutEnded st e x s).station st = endedStation e (s.permit st) (s.station st) :=
  get_set_self _ st _

/-- A charge to a job, and the meters of the station to it, leave the end of the cut as it is. -/
theorem CutOver.of_money {st : Fin 6} {e : CutEntry} {x : Plan} {s t u : State} (ht : t = { cutEnded st e x s with jobs := t.jobs })
    (hstate : u = { t with jobs := u.jobs, stations := t.stations.set st (snapMeters (t.station st)), link := u.link })
    (hlink : LinkKept t.link u.link) : CutOver st e x s u := by
  have hstation : t.station st = endedStation e (s.permit st) (s.station st) := by
    rw [ht]
    exact station_cutEnded st e x s
  have hstations : t.stations = s.stations.set st (endedStation e (s.permit st) (s.station st)) := by rw [ht]; rfl
  have htlink : t.link = s.link := by rw [ht]; rfl
  refine ⟨?_, htlink ▸ hlink⟩
  have hset := Vector.set_set (xs := s.stations) (a := endedStation e (s.permit st) (s.station st))
    (b := snapMeters (endedStation e (s.permit st) (s.station st))) (i := st) st.2
  rw [hstation, hstations, hset] at hstate
  rw [hstate, ht]
  rfl

section
variable {s : State} {st : Fin 6} {e : CutEntry} {x x' : Plan} {kerf rate : Nat} {l : Layout} {y : Placement}

theorem finishCut_eq (hx : s.plan e.plan = some x) (hphase : x.phase = .cutting kerf l rate) (hy : l.placements[e.index]? = some y)
    (hx' :
      x' = { x with phase := .cutting kerf { l with placements := l.placements.set e.index { y with state := some .cut } } rate }) :
    finishCut st e s = chargeMeters st e.piece.job (charge e.piece.job .material (y.xe * y.ye) rate
      ((cutEnded st e x' s).onJobs (modPieces [e.piece] cutPiece))) := by
  obtain ⟨harea, hrate⟩ := entryArea_eq hx hphase hy
  unfold finishCut
  dsimp only
  rw [endEntry_onJobs, endEntry_setPlacement hx hphase hy, harea, hrate, hx']

/-- R167: the spoiled cut: the meters, the SPOIL charge, then the piece's spoil with its notice. -/
theorem spoilCut_charges (hx : s.plan e.plan = some x) (hphase : x.phase = .cutting kerf l rate) (hy : l.placements[e.index]? = some y)
    (hx' :
      x' = { x with phase := .cutting kerf { l with placements := l.placements.set e.index { y with state := some .spoiled } } rate })
    {q : Piece} (hq : findPiece e.piece s.jobs = some q) :
    spoilCut st e s = raiseNotice (spoilNotice q.spoil) e.piece.job ((charge e.piece.job .spoil (y.xe * y.ye) rate
      (chargeMeters st e.piece.job (cutEnded st e x' s))).onJobs (modPieces [e.piece] spoiledPiece)) := by
  obtain ⟨harea, hrate⟩ := entryArea_eq hx hphase hy
  unfold spoilCut
  dsimp only
  rw [endEntry_setPlacement hx hphase hy, harea, hrate, ← hx']
  refine spoilPiece_of_find ((findPiece_congr _ ?_).trans hq)
  exact (charge_money ..).pieces.trans (chargeMeters_pieces ..)

end

/-- R93: what the end of a good cut leaves, with the charges told from any state with the same accounts, meters and notices. -/
structure CutDoneLeaves (st : Fin 6) (e : CutEntry) (x : Plan) (area rate : Nat) (s t u : State) : Prop where
  ended : CutOver st e x t u
  notices : SameNotices (chargeMeters st e.piece.job (charge e.piece.job .material area rate s)).link u.link
  job : ∀ j, u.job j = if j = e.piece.job then
      (s.job j).map fun d => meteredJob (s.station st) s.rates.water (chargedJob .material area rate d)
    else s.job j
  pieces : u.jobs.pieces = (modPieces [e.piece] cutPiece s.jobs).pieces

theorem cutDone_leaves (st : Fin 6) (e : CutEntry) (x : Plan) (area rate n : Nat) (s : State) :
    CutDoneLeaves st e x area rate s (takeFrame n s) (chargeMeters st e.piece.job (charge e.piece.job .material area rate
      ((cutEnded st e x (takeFrame n s)).onJobs (modPieces [e.piece] cutPiece)))) := by
  have hstation : ((cutEnded st e x (takeFrame n s)).onJobs (modPieces [e.piece] cutPiece)).station st =
      endedStation e (s.permit st) (s.station st) := station_cutEnded st e x (takeFrame n s)
  have hmoney : SameMoney s ((cutEnded st e x (takeFrame n s)).onJobs (modPieces [e.piece] cutPiece)) := ⟨fun _ => rfl, rfl, ⟨rfl, rfl⟩⟩
  have hjob : ∀ j, ((cutEnded st e x (takeFrame n s)).onJobs (modPieces [e.piece] cutPiece)).job j = s.job j := fun _ => rfl
  have hpieces : ((cutEnded st e x (takeFrame n s)).onJobs (modPieces [e.piece] cutPiece)).jobs.pieces =
      (modPieces [e.piece] cutPiece s.jobs).pieces := rfl
  have hrates := hmoney.rates
  have ht : (cutEnded st e x (takeFrame n s)).onJobs (modPieces [e.piece] cutPiece) = { cutEnded st e x (takeFrame n s) with
      jobs := ((cutEnded st e x (takeFrame n s)).onJobs (modPieces [e.piece] cutPiece)).jobs } := rfl
  generalize (cutEnded st e x (takeFrame n s)).onJobs (modPieces [e.piece] cutPiece) = t at *
  have hcharge := charge_money e.piece.job .material area rate t
  have hcstate := hcharge.state
  have hcjob := fun j => job_charge j e.piece.job .material area rate t
  have hcmoney := hmoney.charge e.piece.job .material area rate
  generalize charge e.piece.job .material area rate t = v at *
  have hvstation : v.station st = endedStation e (s.permit st) (s.station st) := by rw [hcstate]; exact hstation
  refine ⟨.of_money ht ?_ (hcharge.link.trans (chargeMeters_link ..)), ?_, fun j => ?_, ?_⟩
  · rw [chargeMeters_state, hvstation, hcstate, hstation]
  · refine (hcmoney.chargeMeters ?_ _).link
    rw [hvstation, (charge_money ..).state]
    exact ⟨rfl, rfl, rfl, rfl, rfl⟩
  · rw [job_chargeMeters, hcjob, hvstation, hjob]
    have hvrates : v.rates = s.rates := by rw [hcstate]; exact hrates
    rw [hvrates]
    split
    · rw [Option.map_map]; rfl
    · rfl
  · exact (chargeMeters_pieces ..).trans (hcharge.pieces.trans hpieces)

/-- R167: what the end of a spoiled cut leaves, its piece having been spoiled `spoils` times before. -/
structure CutSpoiledLeaves (st : Fin 6) (e : CutEntry) (x : Plan) (area rate spoils : Nat) (s t u : State) : Prop where
  ended : CutOver st e x t u
  notices : SameNotices (raiseNotice (spoilNotice spoils) e.piece.job
    (charge e.piece.job .spoil area rate (chargeMeters st e.piece.job s))).link u.link
  job : ∀ j, u.job j = if j = e.piece.job then
      (s.job j).map fun d => chargedJob .spoil area rate (meteredJob (s.station st) s.rates.water d)
    else s.job j
  pieces : u.jobs.pieces = (modPieces [e.piece] spoiledPiece s.jobs).pieces

theorem cutSpoiled_leaves (st : Fin 6) (e : CutEntry) (x : Plan) (area rate spoils n : Nat) (s : State) :
    CutSpoiledLeaves st e x area rate spoils s (takeFrame n s) (raiseNotice (spoilNotice spoils) e.piece.job
      ((charge e.piece.job .spoil area rate (chargeMeters st e.piece.job (cutEnded st e x (takeFrame n s)))).onJobs
        (modPieces [e.piece] spoiledPiece))) := by
  have hstation : (cutEnded st e x (takeFrame n s)).station st = endedStation e (s.permit st) (s.station st) :=
    station_cutEnded st e x (takeFrame n s)
  have hmoney : SameMoney s (cutEnded st e x (takeFrame n s)) := ⟨fun _ => rfl, rfl, ⟨rfl, rfl⟩⟩
  have hjob : ∀ j, (cutEnded st e x (takeFrame n s)).job j = s.job j := fun _ => rfl
  have hpieces : (cutEnded st e x (takeFrame n s)).jobs.pieces = s.jobs.pieces := rfl
  generalize ht : cutEnded st e x (takeFrame n s) = t at *
  have hmstate := chargeMeters_state st e.piece.job t
  have hmlink := chargeMeters_link st e.piece.job t
  have hmpieces := chargeMeters_pieces st e.piece.job t
  have hmjob := fun j => job_chargeMeters j st e.piece.job t
  have hmmoney := hmoney.chargeMeters (st := st) (by rw [hstation]; exact ⟨rfl, rfl, rfl, rfl, rfl⟩) e.piece.job
  generalize chargeMeters st e.piece.job t = w at *
  have hcharge := charge_money e.piece.job .spoil area rate w
  have hcstate := hcharge.state
  have hcjob := fun j => job_charge j e.piece.job .spoil area rate w
  have hcmoney := hmmoney.charge e.piece.job .spoil area rate
  generalize charge e.piece.job .spoil area rate w = v at *
  refine ⟨.of_money (t := t) (by rw [← ht]) ?_ (hmlink.trans (hcharge.link.trans (postNotice_kept ..))), hcmoney.link.post .., fun j => ?_, ?_⟩
  · rw [hcstate, hmstate]; rfl
  · show v.job j = _
    rw [hcjob, hmjob, hstation, hjob, hmoney.rates]
    split
    · rw [Option.map_map]; rfl
    · rfl
  · show (modPieces [e.piece] spoiledPiece v.jobs).pieces = _
    simp only [modPieces, hcharge.pieces, hmpieces, hpieces]

end Sys2Proof.Machine
end

section
/-! CUT_DONE and CUT_SPOILED (R93, R167): the statements O42 and O43, outcome by outcome. -/

namespace Sys2Proof.Machine

/-! ## The three outcomes of a cut's end, with their answers -/

theorem CutOver.pending_eq {st : Fin 6} {e : CutEntry} {x : Plan} {s u : State} (h : CutOver st e x s u) : u.pending = s.pending := by
  rw [h.state]

section
variable {s u : State} {st : Fin 6} {e : CutEntry} {x : Plan} {kerf rate : Nat} {l : Layout} {run : Host.Outcome State Fault Refusal}
  {body : State → Option CloseReport → List Byte}

/-- Other work is left, and no marked grant: the answer alone is added. -/
theorem CutOver.answer_goesOn (h : CutOver st e x (takeFrame 5 s) u) (hphase : x.phase = .cutting kerf l rate)
    (hleft : l.placements.any unfinished = true) (hmark : ∀ g, s.grant st = some g → g.mark = false)
    (hrun : ∀ c, afterCut st e.plan u = c → run = .next (putResponse .ok (body c.state c.report) c.state)) :
    run = .next { u with link := { u.link with response := some ⟨.ok, body u none⟩, held := waitingFrame s.pending } } := by
  have hpending : u.pending = s.pending := h.pending_eq
  rw [← hpending]
  exact hrun _ (h.goesOn hphase hleft hmark)

/-- Other work is left, and a marked grant is released. -/
theorem CutOver.answer_released (h : CutOver st e x (takeFrame 5 s) u) (hphase : x.phase = .cutting kerf l rate)
    (hleft : l.placements.any unfinished = true) (hmark : ∃ g, s.grant st = some g ∧ g.mark = true)
    (hrun : ∀ c, afterCut st e.plan u = c → run = .next (putResponse .ok (body c.state c.report) c.state)) :
    ∃ t : State, t = arbitrate { u with
        stations := u.stations.set st { u.station st with hold := none }
        arbiter := { u.arbiter with grants := u.arbiter.grants.filter fun g => g.station != st } } ∧
      t.jobs = u.jobs ∧
      run = .next { t with link := { t.link with response := some ⟨.ok, body t none⟩, held := waitingFrame s.pending } } := by
  have hafter := h.released hphase hleft hmark
  have hstate := arbitrate_state { u with
    stations := u.stations.set st { u.station st with hold := none }
    arbiter := { u.arbiter with grants := u.arbiter.grants.filter fun g => g.station != st } }
  refine ⟨_, rfl, by rw [hstate], ?_⟩
  generalize arbitrate _ = t at *
  have hpending : t.pending = s.pending := (congrArg State.pending hstate).trans h.pending_eq
  rw [← hpending]
  exact hrun _ hafter

/-- It was the plan's last work: the plan closes. -/
theorem CutOver.answer_closed (h : CutOver st e x (takeFrame 5 s) u) (hphase : x.phase = .cutting kerf l rate) {b : Slab}
    (hdone : ∀ z ∈ l.placements, z.state ≠ some .queued ∧ z.state ≠ some .issued) (hwater : WaterOk s) (hst : x.station = st)
    (hcur : (s.station st).current = some e.plan) (hb : findSlab x.serial s.stock = some b) (h1 : 0xF00000 ≤ s.stock.nextSerial)
    (h2 : s.stock.nextSerial ≤ 0xFFFFFF) (hlen : s.stock.slabs.length ≤ 512)
    (hrun : ∀ c, afterCut st e.plan u = c → run = .next (putResponse .ok (body c.state c.report) c.state)) :
    ∃ t r, run = .next (putResponse .ok (body t (some r)) t) ∧ SlabClosed e.plan st l rate b false u t r ∧ t.pending = s.pending := by
  obtain ⟨r, hr, hclosed⟩ := h.closed hphase hdone hwater hst hcur hb h1 h2 hlen
  have hpending := congrArg State.pending hclosed.frame
  have hanswer := hrun _ rfl
  rw [hr] at hanswer
  exact ⟨_, r, hanswer, hclosed, hpending.trans h.pending_eq⟩

end

/-! ## The piece (R24, R168) -/

theorem findPiece_one {t u : JobTable} {i : PieceId} {f : Piece → Piece} (hf : ∀ x, (f x).id = x.id)
    (h : u.pieces = (modPieces [i] f t).pieces) :
    findPiece i u = (findPiece i t).map f ∧ ∀ k, k ≠ i → findPiece k u = findPiece k t := by
  refine ⟨?_, fun k hk => ?_⟩
  · rw [findPiece_congr i h, findPiece_modPieces [i] f hf]
    simp
  · rw [findPiece_congr k h, findPiece_modPieces [i] f hf]
    simp [hk]

/-! ## The statements -/

/-- Settles O42: the charges and the piece by `cutDone_leaves`, the three outcomes by `CutOver`. -/
theorem cutDoneCharges : Obligations.CutDoneCharges := by
  unfold Obligations.CutDoneCharges
  intro s st e x x' kerf l l' rate y b hissued hx hphase hy hb hl hx'
  have hphase' : x'.phase = .cutting kerf l' rate := by rw [hx']
  have hcut := finishCut_eq (s := takeFrame 5 s) (st := st) (x' := x') hx hphase hy (by rw [hx', hl])
  have hleaves := cutDone_leaves st e x' (y.xe * y.ye) rate 5 s
  rw [← hcut] at hleaves
  have hrun := fun c => exec_cutDone hissued (c := c)
  generalize finishCut st e (takeFrame 5 s) = u at *
  have hjob : u.job e.piece.job = some (meteredJob (s.station st) s.rates.water (chargedJob .material (y.xe * y.ye) rate b)) := by
    rw [hleaves.job, if_pos rfl, hb]
    rfl
  obtain ⟨hpiece, hpieces⟩ := findPiece_one (f := cutPiece) (fun _ => rfl) hleaves.pieces
  have hleft := fun h => any_unfinished (l := l.placements) (i := e.index) (y := { y with state := some .cut }) h
  have hends := hleaves.ended
  refine ⟨_, u, rfl, hends.explicit hleaves.notices, ⟨_, hjob, ?_, rfl, fun hok => ?_⟩, fun j hj => ?_, hpiece, hpieces,
    fun hother hmark => ?_, fun hother hmark => ?_, fun k hdone hwater hst hcur hk h1 h2 hlen => ?_⟩
  · unfold meteredJob
    dsimp only
    split <;> split <;> rfl
  · exact overBudget_metered (fun k => hok e.piece.job b k hb) ..
  · rw [hleaves.job, if_neg hj]
  · exact hends.answer_goesOn (body := fun t r => stationSummary st (t.station st) ++ indication r) hphase' (hl ▸ hleft hother) hmark hrun
  · obtain ⟨t, ht, -, hanswer⟩ := hends.answer_released (body := fun t r => stationSummary st (t.station st) ++ indication r) hphase'
      (hl ▸ hleft hother) hmark hrun
    exact ⟨t, ht, hanswer⟩
  · obtain ⟨t, r, hanswer, hclosed, hpending⟩ := hends.answer_closed
      (body := fun t r => stationSummary st (t.station st) ++ indication r) hphase' hdone hwater (by rw [hx']; exact hst) hcur
      (by rw [hx']; exact hk) h1 h2 hlen hrun
    exact ⟨_, r, hanswer, hclosed.answered .., rfl, congrArg waitingFrame hpending⟩

theorem pieceOutcome_of_find {i : PieceId} {t : State} {z : Piece} (h : findPiece i t.jobs = some z) :
    pieceOutcome i t = be 1 (pieceStateCode z.state) ++ be 1 z.spoil := by
  unfold pieceOutcome
  rw [h]

/-- Settles O43: the charges and the piece by `cutSpoiled_leaves`, the three outcomes by `CutOver`. -/
theorem cutSpoiledCharges : Obligations.CutSpoiledCharges := by
  unfold Obligations.CutSpoiledCharges
  intro s st e x x' kerf l l' rate y b q hissued hx hphase hy hb hq hl hx'
  have hphase' : x'.phase = .cutting kerf l' rate := by rw [hx']
  have hcut := spoilCut_charges (s := takeFrame 5 s) (st := st) (x' := x') hx hphase hy (by rw [hx', hl]) hq
  have hleaves := cutSpoiled_leaves st e x' (y.xe * y.ye) rate q.spoil 5 s
  rw [← hcut] at hleaves
  have hrun := fun c => exec_cutSpoiled hissued (c := c)
  generalize spoilCut st e (takeFrame 5 s) = u at *
  have hjob : u.job e.piece.job = some (chargedJob .spoil (y.xe * y.ye) rate (meteredJob (s.station st) s.rates.water b)) := by
    rw [hleaves.job, if_pos rfl, hb]
    rfl
  obtain ⟨hpiece, hpieces⟩ := findPiece_one (f := spoiledPiece) (fun _ => rfl) hleaves.pieces
  rw [hq] at hpiece
  have houtcome : ∀ t : State, t.jobs.pieces = u.jobs.pieces →
      pieceOutcome e.piece t = be 1 (if q.spoil + 1 < 3 then 0 else 5) ++ be 1 (q.spoil + 1) := fun t ht => by
    rw [pieceOutcome_of_find ((findPiece_congr _ ht).trans hpiece)]
    show be 1 (pieceStateCode (if q.spoil + 1 < 3 then .unplanned else .held)) ++ be 1 (q.spoil + 1) = _
    split <;> rfl
  have hleft := fun h => any_unfinished (l := l.placements) (i := e.index) (y := { y with state := some .spoiled }) h
  have hends := hleaves.ended
  refine ⟨_, u, rfl, hends.explicit hleaves.notices, ⟨_, hjob, ?_, rfl, fun hok => ?_⟩, fun j hj => ?_, hpiece, hpieces,
    fun hother hmark => ?_, fun hother hmark => ?_, fun k hdone hwater hst hcur hk h1 h2 hlen => ?_⟩
  · unfold meteredJob
    dsimp only
    split <;> split <;> rfl
  · exact ((Paid.refl fun k => hok e.piece.job b k hb).metered ..).watched ..
  · rw [hleaves.job, if_neg hj]
  · rw [← houtcome u rfl]
    exact hends.answer_goesOn (body := fun t r => stationSummary st (t.station st) ++ pieceOutcome e.piece t ++ indication r) hphase'
      (hl ▸ hleft hother) hmark hrun
  · obtain ⟨t, ht, hjobs, hanswer⟩ := hends.answer_released
      (body := fun t r => stationSummary st (t.station st) ++ pieceOutcome e.piece t ++ indication r) hphase' (hl ▸ hleft hother) hmark hrun
    refine ⟨t, ht, ?_⟩
    rw [← houtcome t (by rw [hjobs])]
    exact hanswer
  · obtain ⟨t, r, hanswer, hclosed, hpending⟩ := hends.answer_closed
      (body := fun t r => stationSummary st (t.station st) ++ pieceOutcome e.piece t ++ indication r) hphase' hdone hwater
      (by rw [hx']; exact hst) hcur (by rw [hx']; exact hk) h1 h2 hlen hrun
    refine ⟨_, r, hanswer, hclosed.answered .., ?_, congrArg waitingFrame hpending⟩
    rw [← houtcome t hclosed.pieces]
    rfl

end Sys2Proof.Machine
end

section
/-! Every change the part makes to the Job Table is a chain of a few kinds of moves (`JobMove`): the operations that charge, count, restate
and delete.  A fact about the Job Table that each kind keeps, every command keeps. -/

namespace Sys2Proof.Machine

/-! ## The moves -/

/-- One change of the Job Table (chapters 2 and 8). -/
inductive JobMove (t : JobTable) : JobTable → Prop
  /-- Pieces restated or deleted: no name is new. -/
  | repieced (l : List Piece) (h : ∀ x ∈ l, ∃ y ∈ t.pieces, y.id = x.id) : JobMove t { t with pieces := l }
  /-- R30: a piece enters, of a job other than 0. -/
  | entered (x : Piece) (h : x.id.job ≠ 0) : JobMove t (enterPiece x t)
  /-- R29: a free slot is opened. -/
  | opened (j : Fin 64) (level budget : Nat) (hold : Bool) (h : t.slots.get j = none) :
      JobMove t { t with slots := t.slots.set j (some (newJob level budget hold)) }
  /-- R33, R171: a job other than 0 changes, but not its accounts. -/
  | settled (j : Fin 64) (b d : Job) (hj : j ≠ 0) (h : t.slots.get j = some b) (hd : d.cost = b.cost) :
      JobMove t { t with slots := t.slots.set j (some d) }
  /-- R35: a slot other than 0 is freed. -/
  | freed (j : Fin 64) (hj : j ≠ 0) : JobMove t { t with slots := t.slots.set j none }
  /-- R26: a job's open-placement count changes. -/
  | counted (j : Fin 64) (b : Job) (n : Nat) (h : t.slots.get j = some b) :
      JobMove t { t with slots := t.slots.set j (some { b with openCount := n }) }
  /-- R140 to R142: a job is charged. -/
  | charged (j : Fin 64) (b : Job) (c : Category) (q r : Nat) (h : t.slots.get j = some b) :
      JobMove t { t with slots := t.slots.set j (some (chargedJob c q r b)) }
  /-- R149: job 0's accounts are cleared. -/
  | cleared (b : Job) (h : t.slots.get 0 = some b) : JobMove t { t with slots := t.slots.set 0 (some (clearCost b)) }
  /-- R36: the reset value. -/
  | reset : JobMove t JobTable.reset

/-- The Job Table of one state comes from that of another by moves. -/
def MovesJobs (s t : State) : Prop :=
  Relation.ReflTransGen JobMove s.jobs t.jobs

theorem MovesJobs.of_same {s t : State} (h : t.jobs = s.jobs) : MovesJobs s t := by
  rw [MovesJobs, h]

theorem MovesJobs.refl (s : State) : MovesJobs s s := .of_same rfl

theorem MovesJobs.trans {s t u : State} (h : MovesJobs s t) (g : MovesJobs t u) : MovesJobs s u :=
  Relation.ReflTransGen.trans h g

theorem MovesJobs.of_move {s t : State} (h : JobMove s.jobs t.jobs) : MovesJobs s t := .single h

theorem MovesJobs.ite {c : Prop} [Decidable c] {s t u : State} (ht : MovesJobs s t) (hu : MovesJobs s u) :
    MovesJobs s (if c then t else u) := by
  split
  · exact ht
  · exact hu

theorem MovesJobs.foldl {α : Type} {f : State → α → State} (hf : ∀ s a, MovesJobs s (f s a)) (l : List α) (s : State) :
    MovesJobs s (l.foldl f s) :=
  foldl_rel (R := MovesJobs) .refl (fun _ _ _ => .trans) f hf l s

/-- What every kind of move keeps, a chain of moves keeps. -/
theorem MovesJobs.keeps {P : JobTable → Prop} (hP : ∀ t u, JobMove t u → P t → P u) {s t : State} (h : MovesJobs s t)
    (hs : P s.jobs) : P t.jobs := by
  unfold MovesJobs at h
  generalize t.jobs = u at *
  induction h with
  | refl => exact hs
  | tail _ hmove ih => exact hP _ _ hmove ih

/-! ## Pieces, counts and charges -/

theorem modPieces_moves {f : Piece → Piece} (hf : ∀ x, (f x).id = x.id) (ids : List PieceId) (s : State) :
    MovesJobs s (s.onJobs (modPieces ids f)) := by
  refine .of_move (.repieced _ fun x hx => ?_)
  obtain ⟨y, hy, rfl⟩ := List.mem_map.mp hx
  refine ⟨y, hy, ?_⟩
  split
  · exact (hf y).symm
  · rfl

theorem unplanPieces_moves (ids : List PieceId) (s : State) : MovesJobs s (unplanPieces ids s) :=
  modPieces_moves (f := unplan) (fun _ => rfl) ids s

theorem deletePieces_moves (sel : Piece → Bool) (s : State) : MovesJobs s (s.onJobs (deletePieces sel)) :=
  .of_move (.repieced _ fun x hx => ⟨x, (List.mem_filter.mp hx).1, rfl⟩)

theorem recount_moves (f : Nat → Nat) (s : State) (j : Fin 64) :
    MovesJobs s (s.modJob j fun b => { b with openCount := f b.openCount }) := by
  unfold State.modJob
  split
  · rename_i b hb
    exact .of_move (.counted j b _ hb)
  · exact .refl s

theorem countPlacements_moves (l : List Placement) (s : State) : MovesJobs s (countPlacements l s) :=
  .foldl (fun s (x : Placement) => recount_moves (· + 1) s x.piece.job) l s

theorem uncountPlacements_moves (l : List Placement) (s : State) : MovesJobs s (uncountPlacements l s) :=
  .foldl (fun s (x : Placement) => recount_moves (· - 1) s x.piece.job) l s

theorem jobTable_ext {t u : JobTable} (hp : t.pieces = u.pieces) (hs : ∀ j, t.slots.get j = u.slots.get j) : t = u := by
  obtain ⟨a, l⟩ := t
  obtain ⟨b, m⟩ := u
  obtain rfl : l = m := hp
  have : a = b := Vector.ext fun i hi => hs ⟨i, hi⟩
  rw [this]

/-- R140 to R142: the Job Table after a charge. -/
theorem jobs_charge {j : Fin 64} {s : State} {b : Job} (h : s.job j = some b) (c : Category) (q r : Nat) :
    (charge j c q r s).jobs = { s.jobs with slots := s.jobs.slots.set j (some (chargedJob c q r b)) } := by
  refine jobTable_ext (charge_money j c q r s).pieces fun i => (job_charge i j c q r s).trans ?_
  split
  · rename_i hi
    rw [hi, h, get_set_self]
    rfl
  · rename_i hi
    rw [get_set_ne _ _ _ _ hi]
    rfl

theorem charge_moves (j : Fin 64) (c : Category) (q r : Nat) (s : State) : MovesJobs s (charge j c q r s) := by
  cases hb : s.job j with
  | none => rw [charge_of_none hb]; exact .refl s
  | some b => exact .of_move (jobs_charge hb c q r ▸ .charged j b c q r hb)

theorem chargeMeters_moves (st : Fin 6) (j : Fin 64) (s : State) : MovesJobs s (chargeMeters st j s) :=
  have hsaw := MovesJobs.ite (charge_moves ..) (.refl s)
  hsaw.trans (.ite (charge_moves ..) (.refl _))

/-! ## The Grant Arbiter and the plant -/

theorem arbitrate_moves (s : State) : MovesJobs s (arbitrate s) := .of_same (by rw [arbitrate_state])

theorem releaseGrant_moves (st : Fin 6) (s : State) : MovesJobs s (releaseGrant st s) :=
  (chargeMeters_moves st 0 s).trans (arbitrate_moves (removeGrant st (chargeMeters st 0 s)))

theorem releaseIfHeld_moves (st : Fin 6) (s : State) : MovesJobs s (releaseIfHeld st s) :=
  .ite (releaseGrant_moves st s) (.refl s)

theorem withdrawRequest_moves (st : Fin 6) (s : State) : MovesJobs s (withdrawRequest st s) :=
  .ite (arbitrate_moves (s.onArbiter (dropRequest st))) (.refl s)

theorem dropWater_moves (st : Fin 6) (s : State) : MovesJobs s (dropWater st s) :=
  (releaseIfHeld_moves st s).trans (withdrawRequest_moves st _)

theorem releaseIfMarked_moves (st : Fin 6) (s : State) : MovesJobs s (releaseIfMarked st s) := by
  unfold releaseIfMarked
  split
  · exact .ite (releaseGrant_moves st s) (.refl s)
  · exact .refl s

theorem reformFloor_moves (s : State) : MovesJobs s (reformFloor s) :=
  have hmarked := MovesJobs.foldl (f := releaseMarkedIdle) (fun s st => .ite (.refl s) (releaseIfMarked_moves st s)) allStations
    ((storeFloor s).onArbiter markGrants)
  .ite (.refl s) (hmarked.trans (arbitrate_moves _))

theorem revokeGrant_moves (s : State) (st : Fin 6) : MovesJobs s (revokeGrant s st) := by
  unfold revokeGrant
  split
  · exact .ite (.refl s) (chargeMeters_moves st 0 s)
  · exact .refl s

theorem revokeAll_moves (s : State) : MovesJobs s (revokeAll s) :=
  have hrevoked := MovesJobs.foldl revokeGrant_moves allStations (storeFloor s)
  hrevoked.trans (arbitrate_moves _)

theorem waterStep_moves (st : Fin 6) (level : Nat) (s : State) : MovesJobs s (waterStep st level s) := by
  have hasks : ∀ (f : Arbiter → Arbiter) (u : State), MovesJobs u (arbitrate (u.onArbiter f)) := fun f u => arbitrate_moves (u.onArbiter f)
  exact .ite (.ite (hasks _ s) ((releaseGrant_moves st s).trans (hasks _ _))) (.ite (hasks _ s) (hasks _ s))

theorem PlantFrame.moves {s t : State} (h : PlantFrame s t) : MovesJobs s t := .of_same (by rw [h.state])

/-! ## Closes, cuts, breaks and cancellations -/

theorem planLeavesStation_moves (st : Fin 6) (p : Fin 16) (s : State) : MovesJobs s (planLeavesStation st p s) :=
  .ite (dropWater_moves st (s.onStation st fun x => advanceStation (dropEntries p x))) (.refl s)

theorem unwindCommitted_moves (p : Fin 16) (s : State) : MovesJobs s (unwindCommitted p s) := by
  unfold unwindCommitted
  split
  · exact (unplanPieces_moves _ s).trans <| (uncountPlacements_moves _ _).trans
      (planLeavesStation_moves _ p (State.onStock (releaseRecord _) _))
  · exact .refl s

theorem wasteCharges_moves (rate pool : Nat) (l : List Placement) (s : State) : MovesJobs s (wasteCharges rate pool l s) :=
  (MovesJobs.foldl (fun s (x : Fin 64 × Nat) => charge_moves x.1 .waste x.2 rate s) _ s).trans
    (.foldl (fun s (x : Placement) => charge_moves x.piece.job .waste x.area rate s) _ _)

theorem closeSteps_moves (p : Fin 16) (x : Plan) (l : Layout) (rate : Nat) (b : Slab) (broke : Bool) (s : State) :
    MovesJobs s (closeSteps p x l rate b broke s) := by
  have hremnant : ∀ c, MovesJobs s (settleRemnant p l.candidate b c s) := fun c => .of_same (by rw [(settleRemnant_state ..).1])
  exact (hremnant _).trans <| (wasteCharges_moves ..).trans <| (uncountPlacements_moves l.placements _).trans
    (planLeavesStation_moves x.station p (letGo p x.serial l.placements _))

theorem closePlan_moves (p : Fin 16) (broke : Bool) (s : State) : MovesJobs s (closePlan p broke s).state := by
  unfold closePlan
  split
  · split
    · split
      · exact closeSteps_moves ..
      · exact .refl s
    · exact .refl s
  · exact .refl s

theorem closeCheck_moves (p : Fin 16) (s : State) : MovesJobs s (closeCheck p s).state := by
  unfold closeCheck
  split
  · exact .refl s
  · exact closePlan_moves p false s

theorem afterCut_moves (st : Fin 6) (p : Fin 16) (s : State) : MovesJobs s (afterCut st p s).state :=
  (closeCheck_moves p s).trans (releaseIfMarked_moves st _)

theorem setPlacement_moves (p : Fin 16) (i : Nat) (q : PlaceState) (s : State) : MovesJobs s (setPlacement p i q s) :=
  .of_same (by rw [setPlacement_state])

theorem endEntry_moves (st : Fin 6) (e : CutEntry) (s : State) : MovesJobs s (endEntry st e s) := .of_same (by rw [endEntry_state])

theorem issueCut_moves (st : Fin 6) (e : CutEntry) (s : State) : MovesJobs s (issueCut st e s) :=
  (chargeMeters_moves st 0 s).trans <| (setPlacement_moves e.plan e.index .issued _).trans
    (modPieces_moves (f := issuePiece) (fun _ => rfl) [e.piece] _)

theorem finishCut_moves (st : Fin 6) (e : CutEntry) (s : State) : MovesJobs s (finishCut st e s) :=
  (setPlacement_moves e.plan e.index .cut s).trans <| (modPieces_moves (f := cutPiece) (fun _ => rfl) [e.piece] _).trans <|
    (endEntry_moves ..).trans <| (charge_moves ..).trans (chargeMeters_moves ..)

theorem spoilPiece_moves (id : PieceId) (s : State) : MovesJobs s (spoilPiece id s) := by
  unfold spoilPiece
  split
  · exact modPieces_moves (f := spoiledPiece) (fun _ => rfl) [id] s
  · exact .refl s

theorem spoilCut_moves (st : Fin 6) (e : CutEntry) (s : State) : MovesJobs s (spoilCut st e s) :=
  (setPlacement_moves e.plan e.index .spoiled s).trans <| (endEntry_moves ..).trans <| (chargeMeters_moves ..).trans <|
    (charge_moves ..).trans (spoilPiece_moves ..)

theorem spoilIssued_moves (st : Fin 6) (s : State) : MovesJobs s (spoilIssued st s) := by
  unfold spoilIssued
  split
  · exact spoilCut_moves ..
  · exact .refl s

theorem returnPlacements_moves (st : Fin 6) (p : Fin 16) (s : State) : MovesJobs s (returnPlacements st p s) := by
  have hplan : MovesJobs s (s.modPlan p (onPlacements fun m => m.map returnPlacement)) := .of_same (by rw [modPlan_state])
  exact hplan.trans (unplanPieces_moves (queuedPieces (s.placements p)) (State.onStation st (dropEntries p) _))

theorem returnQueued_moves (st : Fin 6) (p : Fin 16) (s : State) : MovesJobs s (returnQueued st p s) :=
  (returnPlacements_moves st p s).trans
    (MovesJobs.foldl (f := fun t j => raiseNotice .recut j t) (fun s _ => .refl s) (returnedJobs (s.placements p))
      (returnPlacements st p s))

theorem breakPlan_moves (st : Fin 6) (p : Fin 16) (s : State) : MovesJobs s (breakPlan st p s).state :=
  (spoilIssued_moves st s).trans <| (returnQueued_moves st p _).trans (closePlan_moves ..)

theorem cancelPieces_moves (j : Fin 64) (s : State) : MovesJobs s (cancelPieces j s) :=
  (deletePieces_moves (fun x => x.id.job == j && cancelDeletes x) s).trans (.of_same (by rw [cancelPieces_state]; rfl))

theorem cancelPlan_moves (c : CancelTally) (p : Fin 16) : MovesJobs c.state (cancelPlan c p).state := by
  unfold cancelPlan
  split
  · split
    · split
      · exact unwindCommitted_moves ..
      · exact .refl _
    · exact closeCheck_moves ..
    · exact .refl _
  · exact .refl _

/-- R171: the mark of a cancellation. -/
theorem markCancelling_moves {j : Fin 64} (hj : j ≠ 0) (s : State) :
    MovesJobs s (s.modJob j fun b => { b with state := .cancelling }) := by
  unfold State.modJob
  split
  · rename_i b hb
    exact .of_move (.settled j b _ hj hb rfl)
  · exact .refl s

theorem cancelPlans_moves (l : List (Fin 16)) (c : CancelTally) : MovesJobs c.state (l.foldl cancelPlan c).state := by
  induction l generalizing c with
  | nil => exact .refl _
  | cons p l ih => exact (cancelPlan_moves c p).trans (ih _)

theorem cancelEffects_moves {j : Fin 64} (hj : j ≠ 0) (s : State) : MovesJobs s (cancelEffects j s).state := by
  have hmark := markCancelling_moves hj s
  unfold cancelEffects
  generalize s.modJob j _ = t at *
  exact hmark.trans <| (cancelPieces_moves j t).trans (cancelPlans_moves _ ⟨cancelPieces j t, 0, 0, none⟩)

end Sys2Proof.Machine
end

section
/-! What each command does to the Job Table is a chain of moves (`JobMove`): block by block, then the dispatch.  Job 0 stays as R21 fixes it
(O29). -/

namespace Sys2Proof.Machine

/-! ## The checks of a request -/

theorem withRecord_moves {serial check : Nat} {k : Slab → Reply} {s : State} (h : ∀ x, MovesJobs s (k x).state) :
    MovesJobs s (withRecord serial check k s).state := by
  unfold withRecord
  split
  · exact .refl s
  · split
    · exact h _
    · exact .refl s

theorem withJob_moves {job : Nat} {k : Fin 64 → Job → Reply} {s : State} (h : ∀ j b, s.job j = some b → MovesJobs s (k j b).state) :
    MovesJobs s (withJob job k s).state := by
  unfold withJob
  split
  · exact .refl s
  · split
    · rename_i b hb
      exact h _ b hb
    · exact .refl s

theorem withPiece_moves {job idx : Nat} {k : Job → Piece → Reply} {s : State} (h : ∀ b x, MovesJobs s (k b x).state) :
    MovesJobs s (withPiece job idx k s).state := by
  refine withJob_moves fun j b _ => ?_
  split
  · exact .refl s
  · split
    · exact h ..
    · exact .refl s

theorem withPlan_moves {plan : Nat} {k : Fin 16 → Plan → Reply} {s : State} (h : ∀ p x, MovesJobs s (k p x).state) :
    MovesJobs s (withPlan plan k s).state := by
  unfold withPlan
  split
  · exact .refl s
  · split
    · exact h ..
    · exact .refl s

theorem withPlanPart_moves {plan first : Nat} {k : Fin 16 → Plan → Reply} {s : State} (h : ∀ p x, MovesJobs s (k p x).state) :
    MovesJobs s (withPlanPart plan first k s).state := by
  refine withPlan_moves fun p x => ?_
  split
  · exact .refl s
  · exact h p x

theorem withStation_moves {station : Nat} {k : Fin 6 → Reply} {s : State} (h : ∀ st, MovesJobs s (k st).state) :
    MovesJobs s (withStation station k s).state := by
  unfold withStation
  split
  · exact .refl s
  · exact h _

theorem whenRunning_moves {k : Reply} {s : State} (h : MovesJobs s k.state) : MovesJobs s (whenRunning k s).state := by
  unfold whenRunning
  split
  · exact .refl s
  · exact h

theorem reported_moves {station plan index : Nat} {k : Fin 6 → CutEntry → Reply} {s : State} (h : ∀ st e, MovesJobs s (k st e).state) :
    MovesJobs s (withStation station (fun st =>
      match reportedEntry st plan index s with
      | some e => k st e
      | none => refuse s .badState) s).state := by
  refine withStation_moves fun st => ?_
  split
  · exact h st _
  · exact .refl s

/-- A served request moves the Job Table as its block's work does. -/
theorem serve_moves {size : Nat} {work : State → Reply} {s t : State} (hstep : serve size work s = .next t)
    (h : ∀ u, MovesJobs u (work u).state) : MovesJobs s t := by
  rw [serve_eq] at hstep
  cases hstep
  exact h (takeFrame (size + 2) s)

/-! ## The Stock Table -/

theorem admitReply_moves (serial check kind material thickness nomLen nomWid head tail near far rack : Nat) (s : State) :
    MovesJobs s (admitReply serial check kind material thickness nomLen nomWid head tail near far rack s).state := by
  unfold admitReply
  split_ifs <;> exact .refl s

theorem listStockReply_moves (material minLen minWid selector : Nat) (s : State) :
    MovesJobs s (listStockReply material minLen minWid selector s).state := by
  unfold listStockReply
  split
  · exact .refl s
  · split <;> exact .refl s

theorem moveReply_moves (rack : Nat) (x : Slab) (s : State) : MovesJobs s (moveReply rack x s).state := by
  unfold moveReply
  split_ifs <;> exact .refl s

theorem changeState_moves (before after : SlabState) (x : Slab) (s : State) : MovesJobs s (changeState before after x s).state := by
  unfold changeState
  split <;> exact .refl s

theorem trimReply_moves (head tail near far : Nat) (x : Slab) (s : State) : MovesJobs s (trimReply head tail near far x s).state := by
  unfold trimReply
  split_ifs <;> exact .refl s

theorem retireReply_moves (x : Slab) (s : State) : MovesJobs s (retireReply x s).state := by
  unfold retireReply
  split_ifs <;> exact .refl s

theorem rackClassReply_moves (rack cls : Nat) (s : State) : MovesJobs s (rackClassReply rack cls s).state := by
  unfold rackClassReply
  split
  · exact .refl s
  · split <;> exact .refl s

/-! ## The Job Table -/

theorem openJobReply_moves (job level budget hold : Nat) (s : State) : MovesJobs s (openJobReply job level budget hold s).state := by
  unfold openJobReply
  split_ifs with _ hused
  iterate 2 exact .refl s
  have hfree : s.job (Fin.ofNat 64 job) = none := by simpa using hused
  split
  · exact .of_move (.opened _ level budget _ hfree)
  · exact .refl s

theorem addPieceReply_moves (len wid grain : Nat) (j : Fin 64) (b : Job) (s : State) :
    MovesJobs s (addPieceReply len wid grain j b s).state := by
  unfold addPieceReply
  split
  · exact .refl s
  rename_i hjob
  split
  · exact .refl s
  split
  · exact .refl s
  split
  · exact .refl s
  split
  · exact .refl s
  split
  · exact .of_move (.entered _ fun h => hjob (.inl h))
  · exact .refl s

theorem deletePieceReply_moves (x : Piece) (s : State) : MovesJobs s (deletePieceReply x s).state := by
  unfold deletePieceReply
  split
  · exact .refl s
  · exact deletePieces_moves _ s

theorem releasePieceReply_moves (b : Job) (x : Piece) (s : State) : MovesJobs s (releasePieceReply b x s).state := by
  unfold releasePieceReply
  split_ifs
  iterate 2 exact .refl s
  exact modPieces_moves (f := releasedPiece) (fun _ => rfl) [x.id] s

theorem setJobReply_moves {j : Fin 64} {b : Job} {s : State} (hb : s.job j = some b) (level budget hold : Nat) :
    MovesJobs s (setJobReply level budget hold j b s).state := by
  unfold setJobReply
  split
  · exact .refl s
  rename_i hj
  split
  · exact .refl s
  rename_i h _
  have hput : MovesJobs s (s.putJob j (some (setJobRecord level budget h b))) := .of_move (.settled j b _ hj hb rfl)
  exact .ite hput hput

theorem readJobReply_moves (first : Nat) (j : Fin 64) (b : Job) (s : State) : MovesJobs s (readJobReply first j b s).state := by
  unfold readJobReply
  split <;> exact .refl s

theorem freeJob_moves {j : Fin 64} (hj : j ≠ 0) (s : State) : MovesJobs s (freeJob j s) :=
  (deletePieces_moves (fun x => x.id.job == j) s).trans (.of_move (.freed j hj))

theorem closeJobReply_moves (j : Fin 64) (b : Job) (s : State) : MovesJobs s (closeJobReply j b s).state := by
  unfold closeJobReply
  split_ifs with hj _ _
  iterate 3 exact .refl s
  exact freeJob_moves hj s

/-! ## The Plan Table and the layout work -/

theorem openPlanReply_moves (serial check station : Nat) (s : State) : MovesJobs s (openPlanReply serial check station s).state := by
  unfold openPlanReply
  split_ifs
  iterate 2 exact .refl s
  split
  · exact .refl s
  · split_ifs
    iterate 2 exact .refl s
    split <;> exact .refl s

theorem planAddReply_moves (p : Fin 16) (x : Plan) (b : Job) (y : Piece) (s : State) : MovesJobs s (planAddReply p x b y s).state := by
  unfold planAddReply
  split_ifs
  iterate 5 exact .refl s
  exact modPieces_moves (f := draftPiece p) (fun _ => rfl) [y.id] s

theorem planRemoveReply_moves (p : Fin 16) (x : Plan) (y : Piece) (s : State) : MovesJobs s (planRemoveReply p x y s).state := by
  unfold planRemoveReply
  split_ifs
  iterate 3 exact .refl s
  exact unplanPieces_moves [y.id] s

theorem layoutReply_moves (p : Fin 16) (x : Plan) (s : State) : MovesJobs s (layoutReply p x s).state := by
  unfold layoutReply
  split_ifs <;> exact .refl s

theorem commitPlan_moves (p : Fin 16) (x : Plan) (kerf : Nat) (l : Layout) (s : State) : MovesJobs s (commitPlan p x kerf l s) :=
  (unplanPieces_moves (l.unfit.map fun u => u.piece) s).trans <|
    (modPieces_moves (f := queuePiece) (fun _ => rfl) (l.placements.map fun y => y.piece) _).trans (countPlacements_moves l.placements _)

theorem commitReply_moves (p : Fin 16) (x : Plan) (s : State) : MovesJobs s (commitReply p x s).state := by
  unfold commitReply
  split
  · exact .refl s
  · split_ifs
    iterate 4 exact .refl s
    exact commitPlan_moves ..
  · exact .refl s

theorem unwindDraft_moves (p : Fin 16) (x : Plan) (s : State) : MovesJobs s (unwindDraft p x s) := unplanPieces_moves x.pieces s

theorem leaveLayoutWork_moves (p : Fin 16) (number : Option Nat) (s : State) : MovesJobs s (leaveLayoutWork p number s) := by
  unfold leaveLayoutWork
  dsimp only
  split <;> exact .refl s

theorem abandonReply_moves (p : Fin 16) (x : Plan) (s : State) : MovesJobs s (abandonReply p x s).state := by
  unfold abandonReply
  split
  · exact .refl s
  · exact unwindCommitted_moves p s
  · exact (leaveLayoutWork_moves ..).trans (unwindDraft_moves ..)
  · exact unwindDraft_moves p x s
  · exact unwindDraft_moves p x s

theorem layoutPart_moves (body : Layout → List Byte) (x : Plan) (s : State) : MovesJobs s (layoutPart body x s).state := by
  unfold layoutPart
  split <;> exact .refl s

theorem takeHead_moves (s : State) : MovesJobs s (takeHead s) := by
  unfold takeHead
  split
  · split
    · split_ifs
      · split <;> exact .refl s
      · exact .refl s
    · exact .refl s
  · exact .refl s

theorem completeComputation_moves (s : State) : MovesJobs s (completeComputation s) := by
  unfold completeComputation handOver
  split
  · split
    · exact .refl s
    · split_ifs <;> exact .refl s
  · exact .refl s

/-! ## The Station Units -/

theorem onlineReply_moves (maxThick : Nat) (st : Fin 6) (s : State) : MovesJobs s (onlineReply maxThick st s).state := by
  unfold onlineReply
  split_ifs <;> exact .refl s

theorem takeOffline_moves (st : Fin 6) (s : State) : MovesJobs s (takeOffline st s) :=
  dropWater_moves st (s.onStation st fun x => { x with mode := .offline })

theorem offlineReply_moves (st : Fin 6) (s : State) : MovesJobs s (offlineReply st s).state := by
  unfold offlineReply
  split_ifs
  iterate 3 exact .refl s
  exact takeOffline_moves st s

theorem bladeReply_moves (kerf life : Nat) (st : Fin 6) (s : State) : MovesJobs s (bladeReply kerf life st s).state := by
  unfold bladeReply
  split_ifs <;> exact .refl s

theorem loadReply_moves (serial : Nat) (st : Fin 6) (s : State) : MovesJobs s (loadReply serial st s).state := by
  have hload : ∀ p b, MovesJobs s (loadChecks p b st s).state := fun p b => by
    unfold loadChecks
    split_ifs
    iterate 2 exact .refl s
    exact .of_same (by rw [okStation, loadPlan, modPlan_state]; rfl)
  unfold loadReply
  split_ifs
  · exact .refl s
  · split
    · exact .refl s
    · split_ifs
      · exact .refl s
      · split
        · exact .refl s
        · exact hload ..

theorem askForCut_moves (st : Fin 6) (e : CutEntry) (s : State) : MovesJobs s (askForCut st e s).state := by
  have hwater := waterStep_moves st (entryLevel e s) s
  unfold askForCut
  dsimp only
  split
  · exact hwater.trans (issueCut_moves st e _)
  · exact hwater

theorem nextCutReply_moves (st : Fin 6) (s : State) : MovesJobs s (nextCutReply st s).state := by
  unfold nextCutReply
  split
  · exact .refl s
  · split
    · exact .refl s
    · split
      · exact .refl s
      · split
        · exact askForCut_moves ..
        · exact withdrawRequest_moves st s

theorem cutDoneReply_moves (st : Fin 6) (e : CutEntry) (s : State) : MovesJobs s (cutDoneReply st e s).state := by
  have hafter := afterCut_moves st e.plan (finishCut st e s)
  unfold cutDoneReply
  generalize afterCut st e.plan (finishCut st e s) = c at *
  exact (finishCut_moves st e s).trans hafter

theorem cutSpoiledReply_moves (st : Fin 6) (e : CutEntry) (s : State) : MovesJobs s (cutSpoiledReply st e s).state := by
  have hafter := afterCut_moves st e.plan (spoilCut st e s)
  unfold cutSpoiledReply
  generalize afterCut st e.plan (spoilCut st e s) = c at *
  exact (spoilCut_moves st e s).trans hafter

theorem breakReply_moves (st : Fin 6) (s : State) : MovesJobs s (breakReply st s).state := by
  unfold breakReply
  split
  · exact .refl s
  · split
    · exact breakPlan_moves ..
    · exact .refl s

theorem cancelReply_moves (j : Fin 64) (b : Job) (s : State) : MovesJobs s (cancelReply j b s).state := by
  unfold cancelReply
  split
  · exact .refl s
  · rename_i h
    exact cancelEffects_moves (fun hj => h (.inl hj)) s

/-! ## Plant, costs, ticks, the link and the shop mode -/

theorem plantStartReply_moves (mode reset : Nat) (s : State) : MovesJobs s (plantStartReply mode reset s).state := by
  refine whenRunning_moves ?_
  split
  · exact (plantStartEffects_plantFrame ..).moves
  · exact .refl s

theorem bufferModeReply_moves (value : Nat) (s : State) : MovesJobs s (bufferModeReply value s).state := by
  unfold bufferModeReply
  split <;> exact .refl s

theorem plantSetReply_moves (name value : Nat) (s : State) : MovesJobs s (plantSetReply name value s).state := by
  unfold plantSetReply
  split
  · exact (writeSetting_plantFrame ..).moves
  · split
    · exact bufferModeReply_moves value s
    · exact .refl s

theorem materialRateReply_moves (code rate : Nat) (s : State) : MovesJobs s (materialRateReply code rate s).state := by
  unfold materialRateReply
  split <;> exact .refl s

theorem clearOverheadReply_moves (s : State) : MovesJobs s (clearOverheadReply s).state := by
  unfold clearOverheadReply
  split
  · rename_i b hb
    exact .of_move (.cleared b hb)
  · exact .refl s

theorem startHoldIf_moves (st : Fin 6) (s : State) : MovesJobs s (startHoldIf st s) := .ite (.refl s) (.refl s)

theorem sampleStation_moves (spin : BitVec 6) (s : State) (st : Fin 6) : MovesJobs s (sampleStation spin s st) := by
  unfold sampleStation
  dsimp only
  split_ifs
  · exact .refl s
  · exact startHoldIf_moves st (State.onStation st _ (s.onStation st _))
  · exact .refl s

theorem sampleAll_moves (spin : BitVec 6) (s : State) : MovesJobs s (sampleAll spin s) :=
  .foldl (sampleStation_moves spin) allStations (s.onPins fun p => { p with spin := spin })

theorem tickStations_moves (s : State) : MovesJobs s (tickStations s) :=
  .foldl (f := fun t st => t.onStation st (tickStation (s.valve st) (s.permit st))) (fun t _ => .refl t) allStations s

theorem sampleSump_moves (v : Fin 8) (s : State) : MovesJobs s (sampleSump v s) := by
  have hchanged : ∀ u : State, MovesJobs u (sumpChanged u) := fun u => by
    have hposted : MovesJobs u (if u.plant.sump.accepted = 7 then raiseNotice .sumpHigh 0 (raiseNotice .band 0 u)
      else raiseNotice .band 0 u) := .ite (.refl u) (.refl u)
    exact (hposted.trans (reformFloor_moves _)).trans (.ite (startTest_plantFrame _).moves (.refl _))
  exact .ite (.refl s) (hchanged (s.onPlant fun p => { p with sump := sampleFilter v p.sump }))

theorem sampleSettling_moves (v : Fin 8) (s : State) : MovesJobs s (sampleSettling v s) := by
  have htest : ∀ u : State, MovesJobs u (settlingTest u) := fun u =>
    .ite (fillTest_plantFrame u).moves (.ite (decantEndTest_plantFrame u).moves (.refl u))
  exact .ite (.refl s) (htest (raiseNotice .band 1 (s.onPlant fun p => { p with settling := sampleFilter v p.settling })))

theorem sampleClean_moves (v : Fin 8) (s : State) : MovesJobs s (sampleClean v s) := by
  have hchanged : ∀ u : State, MovesJobs u (cleanChanged u) := fun u => by
    have hwater : MovesJobs u (if u.plant.clean.accepted = 0 then revokeAll (raiseNotice .band 2 u)
        else arbitrate (reformFloor (raiseNotice .band 2 u))) :=
      .ite (revokeAll_moves (raiseNotice .band 2 u)) ((reformFloor_moves (raiseNotice .band 2 u)).trans (arbitrate_moves _))
    exact hwater.trans (.ite (cleanTest_plantFrame _).moves (.refl _))
  exact .ite (.refl s) (hchanged (s.onPlant fun p => { p with clean := sampleFilter v p.clean }))

theorem sampleTurbidity_moves (v : Bool) (s : State) : MovesJobs s (sampleTurbidity v s) := by
  have hchanged : ∀ u : State, MovesJobs u (turbidityChanged u) := fun u => .ite (decantEndTest_plantFrame u).moves (.refl u)
  exact .ite (.refl s) (hchanged (s.onPlant fun p => { p with turbidity := sampleFilter v p.turbidity }))

theorem decisecond_moves (sump settling clean : Fin 8) (cloudy : Bool) (s : State) :
    MovesJobs s (decisecond sump settling clean cloudy s) :=
  (tickStations_moves (readPins sump settling clean cloudy s)).trans <| (sampleSump_moves ..).trans <|
    (sampleSettling_moves ..).trans <| (sampleClean_moves ..).trans (sampleTurbidity_moves ..)

theorem takeDryRun_moves (st : Fin 6) (s : State) : MovesJobs s (takeDryRun st s) := .ite (.refl s) (.refl s)

theorem takeBladeLife_moves (st : Fin 6) (s : State) : MovesJobs s (takeBladeLife st s) := .ite (.refl s) (.refl s)

theorem expireHold_moves (st : Fin 6) (s : State) : MovesJobs s (expireHold st s) :=
  .ite (releaseIfHeld_moves st (s.onStation st stopHold)) (.refl s)

theorem changeMode_moves (m : ShopMode) (s : State) : MovesJobs s (changeMode m s) :=
  (reformFloor_moves (s.onLink fun l => { l with mode := m })).trans (arbitrate_moves _)

theorem setArbiterReply_moves (capacity f0 f1 f2 f3 f4 f5 f6 f7 : Nat) (s : State) :
    MovesJobs s (setArbiterReply capacity f0 f1 f2 f3 f4 f5 f6 f7 s).state :=
  (reformFloor_moves (s.onArbiter (storeArbiter capacity f0 f1 f2 f3 f4 f5 f6 f7))).trans (arbitrate_moves _)

theorem openShopReply_moves (shortMin longMin : Nat) (s : State) : MovesJobs s (openShopReply shortMin longMin s).state := by
  unfold openShopReply
  split
  · exact .refl s
  · exact changeMode_moves .running (s.onEngine (storeMinimums shortMin longMin))

theorem closeShopReply_moves (s : State) : MovesJobs s (closeShopReply s).state := by
  unfold closeShopReply
  split_ifs
  iterate 2 exact .refl s
  have hoffline : MovesJobs s (closeStations s) := .foldl (fun t st => takeOffline_moves st t) _ s
  exact hoffline.trans <| (stopPlant_plantFrame _).moves.trans (changeMode_moves .loading _)

theorem answerBadFrame_moves (bytes : List Byte) (s : State) : MovesJobs s (answerBadFrame bytes s) := by
  unfold answerBadFrame
  split
  · exact .refl s
  · exact .refl s
  · exact .refl s
  · exact .refl s
  · exact withPlan_moves (s := takeFrame bytes.length s) fun _ _ => .refl _
  · exact .refl s

theorem readResponse_moves (n : Nat) (s : State) : MovesJobs s (readResponse n s) := .refl s

theorem discardRequest_moves (n : Nat) (s : State) : MovesJobs s (discardRequest n s) := .ite (.refl s) (.refl s)

/-! ## Every command -/

theorem next_moves {s u t : State} (h : MovesJobs s u) (hstep : (.next u : Host.Outcome State Fault Refusal) = .next t) :
    MovesJobs s t := by
  cases hstep
  exact h

/-- Every command changes the Job Table by moves alone. -/
theorem exec_moves (i : Instr) {s t : State} (h : exec i s = .next t) : MovesJobs s t := by
  cases i with
  | admitSlab =>
    rw [exec, execAdmitSlab] at h
    exact serve_moves h fun u => admitReply_moves ..
  | findSlab =>
    rw [exec, execFindSlab] at h
    exact serve_moves h fun u => withRecord_moves fun x => .refl u
  | listStock =>
    rw [exec, execListStock] at h
    exact serve_moves h fun u => listStockReply_moves ..
  | moveSlab =>
    rw [exec, execMoveSlab] at h
    exact serve_moves h fun u => withRecord_moves fun x => moveReply_moves ..
  | holdSlab =>
    rw [exec, execHoldSlab] at h
    exact serve_moves h fun u => withRecord_moves fun x => changeState_moves ..
  | releaseSlab =>
    rw [exec, execReleaseSlab] at h
    exact serve_moves h fun u => withRecord_moves fun x => changeState_moves ..
  | trimSlab =>
    rw [exec, execTrimSlab] at h
    exact serve_moves h fun u => withRecord_moves fun x => trimReply_moves ..
  | retireSlab =>
    rw [exec, execRetireSlab] at h
    exact serve_moves h fun u => withRecord_moves fun x => retireReply_moves ..
  | setRackClass =>
    rw [exec, execSetRackClass] at h
    exact serve_moves h fun u => rackClassReply_moves ..
  | openJob =>
    rw [exec, execOpenJob] at h
    exact serve_moves h fun u => openJobReply_moves ..
  | addPiece =>
    rw [exec, execAddPiece] at h
    exact serve_moves h fun u => withJob_moves fun j b _ => addPieceReply_moves ..
  | deletePiece =>
    rw [exec, execDeletePiece] at h
    exact serve_moves h fun u => withPiece_moves fun b x => deletePieceReply_moves ..
  | releasePiece =>
    rw [exec, execReleasePiece] at h
    exact serve_moves h fun u => withPiece_moves fun b x => releasePieceReply_moves ..
  | setJob =>
    rw [exec, execSetJob] at h
    exact serve_moves h fun u => withJob_moves fun j b hb => setJobReply_moves hb ..
  | readJob =>
    rw [exec, execReadJob] at h
    exact serve_moves h fun u => withJob_moves fun j b _ => readJobReply_moves ..
  | closeJob =>
    rw [exec, execCloseJob] at h
    exact serve_moves h fun u => withJob_moves fun j b _ => closeJobReply_moves ..
  | openPlan =>
    rw [exec, execOpenPlan] at h
    exact serve_moves h fun u => openPlanReply_moves ..
  | planAdd =>
    rw [exec, execPlanAdd] at h
    exact serve_moves h fun u => withPlan_moves fun p x => withPiece_moves fun b y => planAddReply_moves ..
  | planRemove =>
    rw [exec, execPlanRemove] at h
    exact serve_moves h fun u => withPlan_moves fun p x => withPiece_moves fun b y => planRemoveReply_moves ..
  | layout =>
    rw [exec, execLayout] at h
    exact serve_moves h fun u => withPlan_moves fun p x => layoutReply_moves ..
  | commit =>
    rw [exec, execCommit] at h
    exact serve_moves h fun u => withPlan_moves fun p x => commitReply_moves ..
  | abandon =>
    rw [exec, execAbandon] at h
    exact serve_moves h fun u => withPlan_moves fun p x => abandonReply_moves ..
  | readPlanSummary =>
    rw [exec, execReadPlanSummary] at h
    exact serve_moves h fun u => withPlanPart_moves fun p x => .refl u
  | readPlanPieces =>
    rw [exec, execReadPlanPieces] at h
    exact serve_moves h fun u => withPlanPart_moves fun p x => .refl u
  | readPlanStrips =>
    rw [exec, execReadPlanStrips] at h
    exact serve_moves h fun u => withPlanPart_moves fun p x => layoutPart_moves ..
  | readPlanPlacements =>
    rw [exec, execReadPlanPlacements] at h
    exact serve_moves h fun u => withPlanPart_moves fun p x => layoutPart_moves ..
  | readPlanUnfit =>
    rw [exec, execReadPlanUnfit] at h
    exact serve_moves h fun u => withPlanPart_moves fun p x => layoutPart_moves ..
  | stationOnline =>
    rw [exec, execStationOnline] at h
    exact serve_moves h fun u => withStation_moves fun st => whenRunning_moves (onlineReply_moves ..)
  | stationOffline =>
    rw [exec, execStationOffline] at h
    exact serve_moves h fun u => withStation_moves fun st => offlineReply_moves ..
  | setBlade =>
    rw [exec, execSetBlade] at h
    exact serve_moves h fun u => withStation_moves fun st => bladeReply_moves ..
  | loadSlab =>
    rw [exec, execLoadSlab] at h
    refine serve_moves h fun u => ?_
    split
    · exact .refl u
    · exact withStation_moves fun st => whenRunning_moves (loadReply_moves ..)
  | nextCut =>
    rw [exec, execNextCut] at h
    exact serve_moves h fun u => withStation_moves fun st => whenRunning_moves (nextCutReply_moves ..)
  | cutDone =>
    rw [exec, execCutDone] at h
    exact serve_moves h fun u => reported_moves fun st e => cutDoneReply_moves ..
  | setWaterStation =>
    rw [exec, execSetWaterStation] at h
    exact serve_moves h fun u => withStation_moves fun st => .refl u
  | setWaterArbiter =>
    rw [exec, execSetWaterArbiter] at h
    exact serve_moves h fun u => setArbiterReply_moves ..
  | readWaterStation =>
    rw [exec, execReadWaterStation] at h
    exact serve_moves h fun u => withStation_moves fun st => .refl u
  | readWaterArbiter =>
    rw [exec, execReadWaterArbiter] at h
    exact serve_moves h fun u => .refl u
  | plantStart =>
    rw [exec, execPlantStart] at h
    exact serve_moves h fun u => plantStartReply_moves ..
  | plantStop =>
    rw [exec, execPlantStop] at h
    exact serve_moves h fun u => (stopPlant_plantFrame u).moves
  | plantResetCycle =>
    rw [exec, execPlantResetCycle] at h
    exact serve_moves h fun u => (resetCycle_plantFrame u).moves
  | plantSetBufferMode =>
    rw [exec, execPlantSetBufferMode] at h
    exact serve_moves h fun u => bufferModeReply_moves ..
  | plantSet =>
    rw [exec, execPlantSet] at h
    exact serve_moves h fun u => plantSetReply_moves ..
  | readPlant =>
    rw [exec, execReadPlant] at h
    exact serve_moves h fun u => .refl u
  | setMaterialRate =>
    rw [exec, execSetMaterialRate] at h
    exact serve_moves h fun u => materialRateReply_moves ..
  | setWaterRate =>
    rw [exec, execSetWaterRate] at h
    exact serve_moves h fun u => .refl u
  | setMachineRate =>
    rw [exec, execSetMachineRate] at h
    exact serve_moves h fun u => withStation_moves fun st => .refl u
  | readCost =>
    rw [exec, execReadCost] at h
    exact serve_moves h fun u => withJob_moves fun j b _ => .refl u
  | clearOverhead =>
    rw [exec, execClearOverhead] at h
    exact serve_moves h fun u => clearOverheadReply_moves u
  | cutSpoiled =>
    rw [exec, execCutSpoiled] at h
    exact serve_moves h fun u => reported_moves fun st e => cutSpoiledReply_moves ..
  | breakSlab =>
    rw [exec, execBreakSlab] at h
    exact serve_moves h fun u => withStation_moves fun st => breakReply_moves ..
  | cancelJob =>
    rw [exec, execCancelJob] at h
    exact serve_moves h fun u => withJob_moves fun j b _ => cancelReply_moves ..
  | readNotices =>
    rw [exec, execReadNotices] at h
    exact serve_moves h fun u => .refl u
  | openShop =>
    rw [exec, execOpenShop] at h
    exact serve_moves h fun u => openShopReply_moves ..
  | closeShop =>
    rw [exec, execCloseShop] at h
    exact serve_moves h fun u => closeShopReply_moves u
  | badFrame bytes => exact next_moves (answerBadFrame_moves bytes s) h
  | responseRead => exact next_moves (readResponse_moves _ s) h
  | requestDiscarded => exact next_moves (discardRequest_moves _ s) h
  | reset => exact next_moves (.of_move .reset) h
  | powerOn => exact next_moves (.of_move .reset) h
  | sampleTick => exact next_moves (sampleAll_moves ..) h
  | decisecondTick => exact next_moves (decisecond_moves ..) h
  | dryRun => exact next_moves (takeDryRun_moves _ s) h
  | bladeLife => exact next_moves (takeBladeLife_moves _ s) h
  | holdTimerExpiry => exact next_moves (expireHold_moves ..) h
  | plantTick => exact next_moves (plantTick_plantFrame s).moves h
  | fillTimeout => exact next_moves (timeoutTest_plantFrame s).moves h
  | doseEnd => exact next_moves (doseEnd_plantFrame s).moves h
  | settleEnd => exact next_moves (settleEnd_plantFrame s).moves h
  | sludgeEnd => exact next_moves (sludgeEnd_plantFrame s).moves h
  | engineTake => exact next_moves (takeHead_moves s) h
  | layoutComplete => exact next_moves (completeComputation_moves s) h

theorem step_moves {s t : State} (h : step s = .next t) : MovesJobs s t := by
  unfold step at h
  split at h
  · exact next_moves (.refl s) h
  · rename_i i rest _
    exact exec_moves i (s := s.withQueue rest) h

/-! ## Job 0 (R21) -/

/-- R21: the fields of job 0 that never change. -/
def IsOverhead (b : Job) : Prop :=
  b.state = .opened ∧ b.level = 0 ∧ b.budget = 0 ∧ b.hold = false ∧ b.overBudget = false

/-- R21, of a Job Table. -/
def OverheadFixed (t : JobTable) : Prop :=
  (∃ b, t.slots.get 0 = some b ∧ IsOverhead b) ∧ ∀ x ∈ t.pieces, x.id.job ≠ 0

theorem overheadOk_iff {s : State} : OverheadOk s ↔ OverheadFixed s.jobs := Iff.rfl

/-- R142: a charge sets no over-budget flag of a job with budget 0. -/
theorem chargedJob_overhead {b : Job} (h : IsOverhead b) (c : Category) (q r : Nat) : IsOverhead (chargedJob c q r b) := by
  obtain ⟨hstate, hlevel, hbudget, hhold, hover⟩ := h
  exact ⟨hstate, hlevel, hbudget, hhold, by simp [chargedJob, hbudget, hover]⟩

/-- A slot is written, and job 0 is as fixed as before. -/
theorem OverheadFixed.putSlot {t : JobTable} (h : OverheadFixed t) {j : Fin 64} {o : Option Job}
    (ho : j = 0 → ∃ d, o = some d ∧ ∀ b, t.slots.get j = some b → IsOverhead b → IsOverhead d) :
    OverheadFixed { t with slots := t.slots.set j o } := by
  obtain ⟨⟨b, hb, hfixed⟩, hpieces⟩ := h
  refine ⟨?_, hpieces⟩
  by_cases hj : j = 0
  · subst hj
    obtain ⟨d, rfl, hd⟩ := ho rfl
    exact ⟨d, get_set_self .., hd b hb hfixed⟩
  · exact ⟨b, (get_set_ne _ _ _ _ (Ne.symm hj)).trans hb, hfixed⟩

/-- R21: no kind of move changes job 0's fixed fields or gives it a piece. -/
theorem JobMove.overhead {t u : JobTable} (m : JobMove t u) (h : OverheadFixed t) : OverheadFixed u := by
  have written : ∀ {j : Fin 64} {b d : Job}, t.slots.get j = some b → (IsOverhead b → IsOverhead d) →
      OverheadFixed { t with slots := t.slots.set j (some d) } := fun hb hd =>
    h.putSlot fun _ => ⟨_, rfl, fun b' hb' hfixed => hd (Option.some.inj (hb.symm.trans hb') ▸ hfixed)⟩
  cases m with
  | repieced l hl =>
    refine ⟨h.1, fun x hx => ?_⟩
    obtain ⟨y, hy, hid⟩ := hl x hx
    exact hid ▸ h.2 y hy
  | entered x hx =>
    refine ⟨h.1, fun y hy => ?_⟩
    rcases List.mem_cons.mp ((insertBy_perm _ _ _).mem_iff.mp hy) with rfl | hy
    · exact hx
    · exact h.2 y hy
  | opened j level budget hold hfree =>
    refine h.putSlot fun hj => ?_
    obtain ⟨⟨b, hb, -⟩, -⟩ := h
    rw [hj, hb] at hfree
    cases hfree
  | settled j b d hj => exact h.putSlot fun h0 => absurd h0 hj
  | freed j hj => exact h.putSlot fun h0 => absurd h0 hj
  | counted j b n hb => exact written hb id
  | charged j b c q r hb => exact written hb fun hfixed => chargedJob_overhead hfixed c q r
  | cleared b hb => exact written hb id
  | reset => exact ⟨⟨Job.overhead, rfl, rfl, rfl, rfl, rfl, rfl⟩, nofun⟩

/-- Settles O29: every command changes the Job Table by moves (`exec_moves`), and each kind keeps job 0 (`JobMove.overhead`). -/
theorem overheadStaysFixed : Obligations.OverheadStaysFixed := by
  unfold Obligations.OverheadStaysFixed
  exact fun s t hs hstep => overheadOk_iff.mpr ((step_moves hstep).keeps (fun _ _ m => m.overhead) (overheadOk_iff.mp hs))

end Sys2Proof.Machine
end

section
/-! The requests of the Job Table (chapter 2) and the reads: OPEN_JOB, CLOSE_JOB, ADD_PIECE, DELETE_PIECE, RELEASE_PIECE, SET_JOB, and the
reports of jobs, costs, plans, water and plant (O24 to O28). -/

namespace Sys2Proof.Machine

/-! ## Requests that name a job or a piece -/

/-- A request whose block changes the Job Table alone leaves that change and its answer. -/
theorem serve_of_onJobs {size : Nat} {work : State → Reply} {s : State} {status : Status} {body : List Byte} {f : JobTable → JobTable}
    (h : work (takeFrame (size + 2) s) = ⟨(takeFrame (size + 2) s).onJobs f, status, body⟩) :
    serve size work s = .next { s with jobs := f s.jobs, link := answeredLink s size status body } :=
  serve_of_work h

theorem withJob_of_some {s : State} {j : Fin 64} {b : Job} (h : s.job j = some b) (k : Fin 64 → Job → Reply) :
    withJob j k s = k j b := by
  unfold withJob
  rw [if_neg (by omega), Fin.ofNat_val_eq_self, h]

theorem withPiece_of_find {s : State} {j : Fin 64} {b : Job} {idx : Nat} {x : Piece} (h : s.job j = some b) (hidx : idx ≤ 47)
    (hx : findPiece ⟨j, idx⟩ s.jobs = some x) (k : Job → Piece → Reply) : withPiece j idx k s = k b x := by
  unfold withPiece
  rw [withJob_of_some h, if_neg (by omega), hx]

/-! ## Jobs opened and closed (R29, R35) -/

theorem openJobReply_of_used {s : State} {j : Fin 64} {b : Job} (h : s.job j = some b) (level budget hold : Nat) :
    openJobReply j level budget hold s = refuse s .duplicate := by
  unfold openJobReply
  rw [if_neg (by omega), Fin.ofNat_val_eq_self, h, Option.isSome_some, if_pos rfl]

theorem openJobReply_of_free {s : State} {j : Fin 64} {hold : Nat} {h : Bool} (hfree : s.job j = none) (hflag : flagOf hold = some h)
    (level budget : Nat) :
    openJobReply j level budget hold s =
      ⟨s.putJob j (some (newJob level budget h)), .ok, jobSummary j (newJob level budget h) s.jobs⟩ := by
  unfold openJobReply
  rw [if_neg (by omega), Fin.ofNat_val_eq_self, hfree, if_neg (by simp), hflag]
  rfl

theorem closeJobReply_of_idle {s : State} {j : Fin 64} {b : Job} (hj : j ≠ 0) (hopen : b.openCount = 0)
    (hidle : ∀ x ∈ s.jobs.pieces, x.id.job = j → inWork x = false) :
    closeJobReply j b s = ⟨freeJob j s, .ok, costSummary b.cost⟩ := by
  have hwork : ¬(jobPieces j s.jobs).any inWork = true := by
    simpa [jobPieces] using hidle
  unfold closeJobReply
  rw [if_neg hj, if_neg hwork, if_neg (by omega)]

theorem freeJob_eq (j : Fin 64) (s : State) : freeJob j s = s.onJobs fun t =>
    { slots := t.slots.set j none, pieces := t.pieces.filter fun x => decide (x.id.job ≠ j) } := by
  have htest : (fun x : Piece => !(x.id.job == j)) = fun x => decide (x.id.job ≠ j) := funext fun x => by simp [beq_eq_decide]
  unfold freeJob State.putJob State.onJobs deletePieces
  rw [htest]

/-- Settles O24: the slot is written once, with the new job or with none. -/
theorem openAndCloseJob : Obligations.OpenAndCloseJob := by
  unfold Obligations.OpenAndCloseJob
  refine ⟨fun s j level budget hold => ⟨fun b hb => ?_, fun h b hfree hflag hb => ?_⟩, fun s j b hj hb hopen hidle => ?_⟩
  · exact serve_of_answer (openJobReply_of_used (s := takeFrame 9 s) hb level budget hold)
  · subst hb
    exact serve_of_onJobs (openJobReply_of_free (s := takeFrame 9 s) hfree hflag level budget)
  · have hwork : ∀ x ∈ s.jobs.pieces, x.id.job = j → inWork x = false := fun x hx hxj => by
      rcases hidle x hx hxj with h | h | h <;> rw [inWork, h] <;> rfl
    refine serve_of_onJobs (f := fun t => ⟨t.slots.set j none, t.pieces.filter fun x => decide (x.id.job ≠ j)⟩)
      ((withJob_of_some (s := takeFrame 3 s) hb _).trans ?_)
    rw [closeJobReply_of_idle (s := takeFrame 3 s) hj hopen hwork, freeJob_eq]

/-! ## Pieces added, deleted and released (R30 to R32) -/

/-- R30: a job with fewer than 48 pieces has a free index. -/
theorem freeIndex_of_room {j : Fin 64} {t : JobTable} (h : (jobPieces j t).length < 48) : ∃ i, freeIndex j t = some i := by
  rw [← Option.isSome_iff_exists, Option.isSome_iff_ne_none]
  intro hnone
  have hused : ∀ i ∈ List.range 48, i ∈ (jobPieces j t).map fun x => x.id.idx := fun i hi => by
    obtain ⟨x, hx⟩ := Option.ne_none_iff_exists'.mp (by simpa using List.find?_eq_none.mp hnone i hi)
    have hid := findPiece_id hx
    exact List.mem_map.mpr ⟨x, List.mem_filter.mpr ⟨List.mem_of_find?_eq_some hx, by simp [hid]⟩, by rw [hid]⟩
  have hle := (List.nodup_range.subperm hused).length_le
  simp only [List.length_range, List.length_map] at hle
  omega

/-- R30: the index taken is free, and every lower one is not. -/
theorem freeIndex_spec {j : Fin 64} {t : JobTable} {i : Nat} (h : freeIndex j t = some i) :
    i < 48 ∧ findPiece ⟨j, i⟩ t = none ∧ ∀ k, k < i → (findPiece ⟨j, k⟩ t).isSome = true := by
  obtain ⟨hfree, hmem, hlow⟩ := List.find?_range_eq_some.mp h
  exact ⟨List.mem_range.mp hmem, by simpa using hfree, fun k hk => by simpa using hlow k hk⟩

theorem enterPiece_only {t : JobTable} {x : Piece} (h : findPiece x.id t = none) : OnlyPiece t (enterPiece x t) x.id (some x) :=
  ⟨findPiece_enterPiece_self h, fun _ => findPiece_enterPiece_ne, rfl⟩

theorem addPieceReply_of_ok {s : State} {j : Fin 64} {b : Job} {len wid grain i : Nat} {g : Grain} (hj : j ≠ 0)
    (hopen : b.state = .opened) (hlen : inRange 50 3600 len = true) (hwid : inRange 50 2100 wid = true) (hgrain : grainOf grain = some g)
    (hjob : (jobPieces j s.jobs).length < 48) (hall : s.jobs.pieces.length < 1024) (hi : freeIndex j s.jobs = some i) :
    addPieceReply len wid grain j b s =
      ⟨s.onJobs (enterPiece (newPiece j i len wid g)), .ok, pieceBody (newPiece j i len wid g)⟩ := by
  have hjob' : ¬Config.jobPieces ≤ (jobPieces j s.jobs).length := Nat.not_le.mpr hjob
  have hall' : ¬Config.maxPieces ≤ s.jobs.pieces.length := Nat.not_le.mpr hall
  simp [addPieceReply, hj, hopen, hlen, hwid, hgrain, hjob', hall', hi]

/-- Settles O25: a free index exists by counting, and the new piece is the only one changed. -/
theorem addPieceAdds : Obligations.AddPieceAdds := by
  unfold Obligations.AddPieceAdds
  intro s j b len wid grain g hj hb hopen hlen hlen' hwid hwid' hgrain hjob hall
  obtain ⟨i, hi⟩ := freeIndex_of_room hjob
  obtain ⟨hlt, hfree, hlow⟩ := freeIndex_spec hi
  refine ⟨i, enterPiece (newPiece j i len wid g) s.jobs, hlt, hfree, hlow, ?_, enterPiece_only (x := newPiece j i len wid g) hfree⟩
  exact serve_of_onJobs ((withJob_of_some (s := takeFrame 8 s) hb _).trans
    (addPieceReply_of_ok (s := takeFrame 8 s) hj hopen (by simp [inRange, hlen, hlen']) (by simp [inRange, hwid, hwid']) hgrain hjob hall hi))

/-- R31: a deleted piece is gone, and no other differs. -/
theorem deletePiece_only (i : PieceId) (t : JobTable) : OnlyPiece t (deletePieces (fun y => y.id == i) t) i none := by
  refine ⟨?_, fun k hk => findPiece_deletePieces _ k t fun x _ hx => ?_, rfl⟩
  · refine List.find?_eq_none.mpr fun x hx => ?_
    simpa using (List.mem_filter.mp hx).2
  · simpa [hx] using hk

/-- A change of one piece that keeps its name leaves every other piece. -/
theorem modPiece_only {t : JobTable} {i : PieceId} {x : Piece} {f : Piece → Piece} (hf : ∀ y, (f y).id = y.id)
    (hx : findPiece i t = some x) : OnlyPiece t (modPieces [i] f t) i (some (f x)) := by
  obtain ⟨hself, hother⟩ := findPiece_one (u := modPieces [i] f t) hf rfl
  exact ⟨by rw [hself, hx]; rfl, hother, rfl⟩

/-- Settles O26: the piece named is the only one changed. -/
theorem deleteAndReleasePiece : Obligations.DeleteAndReleasePiece := by
  unfold Obligations.DeleteAndReleasePiece
  intro s j b idx x hb hidx hx
  have hid := findPiece_id hx
  refine ⟨fun hst => ⟨_, ?_, deletePiece_only ⟨j, idx⟩ s.jobs⟩,
    fun hopen hheld => ⟨_, ?_, modPiece_only (f := releasedPiece) (fun _ => rfl) hx⟩⟩
  · refine serve_of_onJobs (f := deletePieces fun y => y.id == ⟨j, idx⟩) ((withPiece_of_find (s := takeFrame 4 s) hb hidx hx _).trans ?_)
    have hdel : deletable x = true := by simpa [deletable] using hst
    simp [deletePieceReply, hdel, hid]
  · refine serve_of_onJobs (f := modPieces [⟨j, idx⟩] releasedPiece) ((withPiece_of_find (s := takeFrame 4 s) hb hidx hx _).trans ?_)
    simp [releasePieceReply, hopen, hheld, hid, releasedPiece, unplan]

/-! ## SET_JOB (R33) -/

theorem overAgainst_eq (budget : Nat) (c : CostRecord) : overAgainst budget c = decide (0 < budget ∧ budget ≤ totalCents c) := by
  simp [overAgainst]

/-- R33: the effect and the answer of SET_JOB, with BUDGET raised when the flag becomes set. -/
theorem setJobReply_of_ok {j : Fin 64} {hold : Nat} {h : Bool} (hj : j ≠ 0) (hflag : flagOf hold = some h) (level budget : Nat) (b : Job)
    (s : State) :
    setJobReply level budget hold j b s =
      ⟨if overAgainst budget b.cost = true ∧ b.overBudget = false then
          raiseNotice .budget j (s.putJob j (some (setJobRecord level budget h b)))
        else s.putJob j (some (setJobRecord level budget h b)), .ok, jobSummary j (setJobRecord level budget h b) s.jobs⟩ := by
  unfold setJobReply
  rw [if_neg hj, hflag]
  have htest : ((setJobRecord level budget h b).overBudget && !b.overBudget) = true ↔
      overAgainst budget b.cost = true ∧ b.overBudget = false := by simp [setJobRecord]
  simp only [htest]
  split <;> rfl

/-- A notice raised before the answer stands on the answered link. -/
theorem putResponse_raiseNotice (k : NoticeKind) (o n : Nat) (status : Status) (body : List Byte) (f : JobTable → JobTable) (s : State) :
    putResponse status body (raiseNotice k o ((takeFrame (n + 2) s).onJobs f)) =
      { s with jobs := f s.jobs, link := postNotice k o (answeredLink s n status body) } := by
  have hlink : (putResponse status body (raiseNotice k o ((takeFrame (n + 2) s).onJobs f))).link =
      postNotice k o (answeredLink s n status body) := by
    have htaken := postNotice_with k o s.link none (presented s (n + 2)) false
    have hanswered := postNotice_with k o s.link (some ⟨status, body⟩) (presented s (n + 2)) (waitingFrame s.pending)
    refine Eq.trans (congrArg (fun l : Link => { l with response := some ⟨status, body⟩, held := waitingFrame s.pending }) htaken) ?_
    exact hanswered.symm
  rw [← hlink]
  rfl

/-- Settles O27: the slot is written, and BUDGET is raised when the flag becomes set. -/
theorem setJobReplaces : Obligations.SetJobReplaces := by
  unfold Obligations.SetJobReplaces
  intro s j b level budget hold h passed hj hb hflag hpassed
  rw [← overAgainst_eq] at hpassed
  subst hpassed
  refine (serve_of_work ((withJob_of_some (s := takeFrame 9 s) hb _).trans (setJobReply_of_ok hj hflag ..))).trans ?_
  dsimp only
  split
  · exact congrArg _ (putResponse_raiseNotice ..)
  · rfl

/-! ## The reads (R34, R75, R114, R133, R148) -/

theorem withPlanPart_of_some {s : State} {p : Fin 16} {x : Plan} {first : Nat} (h : s.plan p = some x) (hfirst : first ≤ 31)
    (k : Fin 16 → Plan → Reply) : withPlanPart p first k s = k p x := by
  unfold withPlanPart
  rw [withPlan_of_some h, if_neg (by omega)]

theorem layoutPart_of_some {x : Plan} {l : Layout} (h : layoutOf x = some l) (body : Layout → List Byte) (s : State) :
    layoutPart body x s = ⟨s, .ok, body l⟩ := by
  unfold layoutPart
  rw [h]

theorem readJobReply_of_le {first : Nat} (h : first ≤ 47) (j : Fin 64) (b : Job) (s : State) :
    readJobReply first j b s = ⟨s, .ok, readJobBody j first b s.jobs⟩ :=
  if_neg (by omega)

/-- Settles O28: each read's checks pass, and its work answers with no effect. -/
theorem readsReport : Obligations.ReadsReport := by
  unfold Obligations.ReadsReport
  refine ⟨fun s j b first hb => ⟨fun hfirst => ?_, ?_⟩, fun s p x first hx hfirst => ⟨?_, ?_, fun l hl => ⟨?_, ?_, ?_⟩⟩,
    fun s st => ?_, fun s => ?_, fun s => ?_⟩
  · exact serve_of_answer ((withJob_of_some (s := takeFrame 4 s) hb _).trans (readJobReply_of_le hfirst ..))
  · exact serve_of_answer (withJob_of_some (s := takeFrame 3 s) hb _)
  · exact serve_of_answer (withPlanPart_of_some (s := takeFrame 5 s) hx hfirst _)
  · exact serve_of_answer (withPlanPart_of_some (s := takeFrame 5 s) hx hfirst _)
  · exact serve_of_answer ((withPlanPart_of_some (s := takeFrame 5 s) hx hfirst _).trans (layoutPart_of_some hl ..))
  · exact serve_of_answer ((withPlanPart_of_some (s := takeFrame 5 s) hx hfirst _).trans (layoutPart_of_some hl ..))
  · exact serve_of_answer ((withPlanPart_of_some (s := takeFrame 5 s) hx hfirst _).trans (layoutPart_of_some hl ..))
  · exact serve_of_answer (withStation_of_lt st _ (takeFrame 4 s))
  · exact serve_of_answer (work := fun t => ⟨t, .ok, waterArbiterBody t⟩) rfl
  · exact serve_of_answer (work := okPlant) rfl

end Sys2Proof.Machine
end

section
/-! Drafting and commitment (chapter 4): PLAN_ADD and PLAN_REMOVE (R62, R63), and COMMIT (R70): the statements O31 and O34. -/

namespace Sys2Proof.Machine

/-! ## Drafting (R62, R63) -/

theorem withPlanPiece_of_find {s : State} {p : Fin 16} {x : Plan} {j : Fin 64} {b : Job} {idx : Nat} {y : Piece} (hx : s.plan p = some x)
    (hb : s.job j = some b) (hidx : idx ≤ 47) (hy : findPiece ⟨j, idx⟩ s.jobs = some y) (k : Fin 16 → Plan → Job → Piece → Reply) :
    withPlan p (fun q z => withPiece j idx (k q z) s) s = k p x b y :=
  (withPlan_of_some hx _).trans (withPiece_of_find hb hidx hy _)

/-- R62, R63: a plan that pieces may join or leave. -/
def Draftable (x : Plan) : Prop :=
  x.phase = .draft ∨ ∃ k l, x.phase = .laid k l

/-- R62, R63: such a plan with a new piece set, DRAFT. -/
def draftOf (ids : List PieceId) (x : Plan) : Plan :=
  { x with pieces := ids, phase := .draft }

theorem Draftable.checks {x : Plan} (h : Draftable x) : isLaying x = false ∧ isCommittedOrCutting x = false := by
  rcases h with h | ⟨k, l, h⟩ <;> simp [isLaying, isCommittedOrCutting, isCommitted, isCutting, h]

theorem Draftable.redraft {x : Plan} (h : Draftable x) (ids : List PieceId) : redraft ids x = draftOf ids x := by
  rcases h with h | ⟨k, l, h⟩ <;> simp [Machine.redraft, draftOf, h]

theorem planAddReply_of_ok {p : Fin 16} {x : Plan} {b : Job} {y : Piece} {i : PieceId} (hx : Draftable x) (hopen : b.state = .opened)
    (hy : y.state = .unplanned) (hid : y.id = i) (hroom : x.pieces.length < 32) (s : State) :
    planAddReply p x b y s = okPlan p (draftOf (x.pieces ++ [i]) x)
      ((s.onJobs (modPieces [i] (draftPiece p))).putPlan p (some (draftOf (x.pieces ++ [i]) x))) := by
  obtain ⟨hlay, hcom⟩ := hx.checks
  have hroom' : ¬Config.planPieces ≤ x.pieces.length := Nat.not_le.mpr hroom
  simp [planAddReply, hlay, hcom, hopen, hy, hid, hroom', hx.redraft]

theorem planRemoveReply_of_ok {p : Fin 16} {x : Plan} {y : Piece} {i : PieceId} (hx : Draftable x) (hid : y.id = i) (hin : i ∈ x.pieces)
    (s : State) :
    planRemoveReply p x y s = okPlan p (draftOf (x.pieces.filter fun k => k != i) x)
      ((s.onJobs (modPieces [i] unplan)).putPlan p (some (draftOf (x.pieces.filter fun k => k != i) x))) := by
  obtain ⟨hlay, hcom⟩ := hx.checks
  simp [planRemoveReply, hlay, hcom, hid, hin, hx.redraft, unplanPieces]

/-- A request whose block changes the Job Table, one plan slot and the stations, and answers with that plan's summary. -/
theorem serve_of_okPlan {size : Nat} {work : State → Reply} {s u : State} {p : Fin 16} {x : Plan} {k : Vector Station 6}
    (h : work (takeFrame (size + 2) s) = okPlan p x u)
    (hu : u = { takeFrame (size + 2) s with
      jobs := u.jobs
      plans := { s.plans with slots := s.plans.slots.set p (some x) }
      stations := k }) :
    ∃ t, serve size work s = .next t ∧
      t = { s with
        jobs := t.jobs
        plans := { s.plans with slots := s.plans.slots.set p (some x) }
        stations := k
        link := answeredLink s size .ok (planSummary p x t) } ∧
      t.jobs = u.jobs := by
  refine ⟨_, serve_of_work h, ?_, rfl⟩
  generalize u.jobs = v at hu
  subst hu
  rfl

/-- Settles O31: one piece and one plan slot are written, and the plan is DRAFT. -/
theorem planAddAndRemove : Obligations.PlanAddAndRemove := by
  unfold Obligations.PlanAddAndRemove
  intro s p x j b idx y hx hphase hb hidx hy
  have hid := findPiece_id hy
  refine ⟨fun hopen hst hroom => ?_, fun hin => ?_⟩
  · have hreply := planAddReply_of_ok (p := p) hphase hopen hst hid hroom (takeFrame 5 s)
    obtain ⟨t, hstep, ht, hjobs⟩ := serve_of_okPlan (size := 3) ((withPlanPiece_of_find (s := takeFrame 5 s) hx hb hidx hy
      fun p x b y => planAddReply p x b y (takeFrame 5 s)).trans hreply) rfl
    exact ⟨t, hstep, ht, hjobs ▸ modPiece_only (f := draftPiece p) (fun _ => rfl) hy⟩
  · have hreply := planRemoveReply_of_ok (p := p) hphase hid hin (takeFrame 5 s)
    obtain ⟨t, hstep, ht, hjobs⟩ := serve_of_okPlan (size := 3) ((withPlanPiece_of_find (s := takeFrame 5 s) hx hb hidx hy
      fun p x _ y => planRemoveReply p x y (takeFrame 5 s)).trans hreply) rfl
    exact ⟨t, hstep, ht, hjobs ▸ modPiece_only (f := unplan) (fun _ => rfl) hy⟩

/-! ## Commitment (R70) -/

theorem commitReply_of_ok {p : Fin 16} {x : Plan} {kerf : Nat} {l : Layout} {s : State} (hphase : x.phase = .laid kerf l)
    (hplaced : l.placements ≠ []) (hmode : (s.station x.station).mode ≠ .offline)
    (hrole : (s.station x.station).current = none ∨ (s.station x.station).next = none) (hkerf : (s.station x.station).kerf ≤ kerf) :
    commitReply p x s = okPlan p (committedPlan x kerf l (rateFor x.serial s)) (commitPlan p x kerf l s) := by
  have hfull : ¬((s.station x.station).current.isSome && (s.station x.station).next.isSome) = true := by
    rcases hrole with h | h <;> simp [h]
  unfold commitReply
  rw [hphase]
  dsimp only
  rw [if_neg (by simpa using hplaced), if_neg hmode, if_neg hfull, if_neg (by omega)]

theorem commitPlan_state (p : Fin 16) (x : Plan) (kerf : Nat) (l : Layout) (s : State) :
    commitPlan p x kerf l s = { s with
      jobs := (commitPlan p x kerf l s).jobs
      plans := { s.plans with slots := s.plans.slots.set p (some (committedPlan x kerf l (rateFor x.serial s))) }
      stations := s.stations.set x.station (takeCommitted p l.placements (s.station x.station)) } := by
  unfold commitPlan
  dsimp only
  rw [countPlacements_state]
  rfl

/-- R70, steps 5 and 6. -/
theorem takeCommitted_eq (p : Fin 16) (l : List Placement) (x : Station) :
    takeCommitted p l x = { x with
      queue := x.queue ++ l.mapIdx fun i y => ⟨p, i, y.piece⟩
      current := if x.current = none then some p else x.current
      next := if x.current = none then x.next else some p } := by
  simp only [takeCommitted, cutEntries, Option.isNone_iff_eq_none]

/-- R26, R70: the counts of the jobs of the placements rise. -/
theorem job_commitPlan (p : Fin 16) (x : Plan) (kerf : Nat) (l : Layout) (s : State) (j : Fin 64) :
    (commitPlan p x kerf l s).job j = (s.job j).map fun c =>
      { c with openCount := c.openCount + l.placements.countP fun y => decide (y.piece.job = j) } := by
  rw [(commitPlan_committed p x kerf l s).jobs]
  simp only [beq_eq_decide]

/-- R70: a piece after its plan is committed: QUEUED if placed, UNPLANNED if unfit. -/
theorem findPiece_commitPlan (p : Fin 16) (x : Plan) (kerf : Nat) (l : Layout) (s : State) (i : PieceId) :
    findPiece i (commitPlan p x kerf l s).jobs = (findPiece i s.jobs).map fun y =>
      let z := if i ∈ l.unfit.map (fun u => u.piece) then unplan y else y
      if i ∈ l.placements.map (fun z => z.piece) then queuePiece z else z := by
  rw [findPiece_congr i (commitPlan_committed p x kerf l s).pieces, findPiece_modPieces _ queuePiece fun _ => rfl,
    findPiece_modPieces _ unplan fun _ => rfl, Option.map_map]
  rfl

/-- Settles O34: COMMIT's checks pass, and each record is read off `commitPlan`. -/
theorem commitTakesEffect : Obligations.CommitTakesEffect := by
  unfold Obligations.CommitTakesEffect
  intro s p x x' kerf l b hx hphase hplaced hmode hrole hkerf hb hx'
  have hrate : rateFor x.serial s = s.rates.material.get b.material := by rw [rateFor, hb]
  obtain rfl : x' = committedPlan x kerf l (rateFor x.serial s) := by rw [hx', hrate]; rfl
  have hreply := commitReply_of_ok (p := p) (s := takeFrame 3 s) hphase hplaced hmode hrole hkerf
  obtain ⟨t, hstep, ht, hjobs⟩ := serve_of_okPlan (size := 1)
    ((withPlan_of_some (s := takeFrame 3 s) hx fun p x => commitReply p x (takeFrame 3 s)).trans hreply) (commitPlan_state ..)
  have hpiece := findPiece_commitPlan p x kerf l (takeFrame 3 s)
  rw [← hjobs] at hpiece
  refine ⟨t, hstep, ?_, fun j => ?_, fun i => ⟨fun hin hout => ?_, fun hin hout => ?_, fun hin hout => ?_⟩⟩
  · rw [← takeCommitted_eq]
    exact ht
  · rw [State.job, hjobs]
    exact job_commitPlan p x kerf l (takeFrame 3 s) j
  · exact (hpiece i).trans (by simp only [if_pos hin, if_neg hout]; rfl)
  · exact (hpiece i).trans (by simp only [if_neg hin, if_pos hout]; rfl)
  · exact (hpiece i).trans (by simp only [if_neg hin, if_neg hout, Option.map_id']; rfl)

end Sys2Proof.Machine
end

section
/-! The layout queue, the engine's two events (R64 to R67) and the reset values of the blocks after the Job Table: the statements O32,
O33 and O15. -/

namespace Sys2Proof.Machine

/-! ## LAYOUT (R64) -/

theorem layoutReply_of_ok {x : Plan} (hx : Draftable x) (hset : x.pieces ≠ []) (p : Fin 16) (s : State) :
    layoutReply p x s = ⟨queueForLayout p x s, .accepted, be 1 s.plans.queue.length⟩ := by
  obtain ⟨hlay, hcom⟩ := hx.checks
  simp [layoutReply, hlay, hcom, hset]

/-! ## ENGINE_TAKE (R65) -/

theorem takeHead_of_head {s : State} {p : Fin 16} {rest : List (Fin 16)} {x : Plan} {n : Option Nat} {c : Captures}
    (hidle : s.engine.current = none) (hqueue : s.plans.queue = p :: rest) (hx : s.plan p = some x) (hphase : x.phase = .laying n)
    (hc : capture x s = some c) : takeHead s = startComputation p x c s := by
  simp [takeHead, hidle, hqueue, hx, isLaying, hphase, hc]

/-- R65: the event does not come about with the engine at work or the queue empty. -/
theorem takeHead_of_still {s : State} (h : s.engine.current.isSome = true ∨ s.plans.queue = []) : takeHead s = s := by
  unfold takeHead
  split
  · rename_i hidle hqueue
    rw [hidle, hqueue] at h
    exact absurd h (by simp)
  · rfl

/-- R37: what a computation started on the head of the queue leaves. -/
theorem startComputation_state {s : State} {p : Fin 16} {rest : List (Fin 16)} (hqueue : s.plans.queue = p :: rest) (x : Plan)
    (c : Captures) : startComputation p x c s = { s with
      plans := { slots := s.plans.slots.set p (some { x with phase := .laying (some s.engine.nextNumber) }), queue := rest }
      engine := { s.engine with
        current := some ⟨p, s.engine.nextNumber, c, Work.empty⟩
        nextNumber := (s.engine.nextNumber + 1) % 65536 } } := by
  simp only [startComputation, State.onPlans, State.putPlan, State.onEngine, hqueue, List.tail_cons]

/-- Settles O32: the checks of LAYOUT pass, the head of the queue is taken, and nothing is taken where nothing can be. -/
theorem layoutAndTake : Obligations.LayoutAndTake := by
  unfold Obligations.LayoutAndTake
  refine ⟨fun s p x hx hphase hset => ?_, fun s p rest x n b hidle hqueue hx hphase hb => ?_, fun s h => ?_⟩
  · exact serve_of_work ((withPlan_of_some (s := takeFrame 3 s) hx fun p x => layoutReply p x (takeFrame 3 s)).trans
      (layoutReply_of_ok hphase hset p _))
  · rw [exec, execEngineTake, takeHead_of_head hidle hqueue hx hphase (by rw [capture, hb, Option.map_some]),
      startComputation_state hqueue]
    rfl
  · rw [exec, execEngineTake, takeHead_of_still h]

/-! ## LAYOUT_COMPLETE (R40, R67) -/

theorem sameSet_of_perm {a b : List PieceId} (h : a.Perm b) : sameSet a b = true := by
  simp only [sameSet, Bool.and_eq_true, beq_iff_eq, List.all_eq_true, List.contains_iff_mem]
  exact ⟨⟨h.length_eq, fun _ => h.mem_iff.mp⟩, fun _ => h.mem_iff.mpr⟩

theorem mem_iff_of_sameSet {a b : List PieceId} (h : sameSet a b = true) (i : PieceId) : i ∈ a ↔ i ∈ b := by
  simp only [sameSet, Bool.and_eq_true, List.all_eq_true, List.contains_iff_mem] at h
  obtain ⟨⟨-, hab⟩, hba⟩ := h
  exact ⟨hab i, hba i⟩

theorem numberOf_eq_some {x : Plan} {n : Nat} : numberOf x = some n ↔ x.phase = .laying (some n) := by
  cases hp : x.phase <;> simp [numberOf, hp]

/-- R67: the plan waits for this computation, so its layout is looked at. -/
theorem handOver_of_waiting {s : State} {p : Fin 16} {x : Plan} {n : Nat} (hx : s.plan p = some x) (hphase : x.phase = .laying (some n))
    (hq : p ∉ s.plans.queue) (kerf : Nat) (l : Layout) :
    handOver p n kerf l s =
      if sameSet x.pieces (accountedPieces l) then
        raiseNotice .laid p (s.putPlan p (some { x with stale := false, phase := .laid kerf l }))
      else (s.putPlan p (some { x with stale := true, phase := .laying none })).onPlans fun t => { t with queue := t.queue ++ [p] } := by
  simp [handOver, hx, numberOf, isLaying, hphase, hq]

/-- R67: the plan does not wait for this computation, whose layout is discarded. -/
theorem handOver_of_gone {s : State} {p : Fin 16} {n : Nat}
    (h : s.plan p = none ∨ (∃ x, s.plan p = some x ∧ x.phase ≠ .laying (some n)) ∨ p ∈ s.plans.queue) (kerf : Nat) (l : Layout) :
    handOver p n kerf l s = s := by
  unfold handOver
  split
  · rfl
  · rename_i x hx
    by_cases hn : numberOf x = some n
    · have hq : p ∈ s.plans.queue := by
        rcases h with h | ⟨y, hy, hne⟩ | h
        · rw [h] at hx; cases hx
        · rw [hy] at hx; cases hx; exact absurd (numberOf_eq_some.mp hn) hne
        · exact h
      simp [hn, hq]
    · rw [if_pos hn]

/-- The engine has given up its computation. -/
def engineIdle (s : State) : State :=
  s.onEngine fun e => { e with current := none }

theorem exec_layoutComplete {s : State} {c : Computation} (h : s.engine.current = some c) :
    exec .layoutComplete s =
      .next (handOver c.plan c.number c.cap.kerf (layoutRecord c.cap (placeAll c.cap c.work)) (engineIdle s)) := by
  rw [exec, execLayoutComplete, completeComputation, h]
  rfl

/-- Settles O33: the engine is idle, and the Plan Table takes the layout, queues the plan again, or lets both be. -/
theorem layoutCompletes : Obligations.LayoutCompletes := by
  unfold Obligations.LayoutCompletes
  refine ⟨fun s hidle => ?_, fun s c l hcur hl => ⟨fun x hx hphase hq => ⟨fun hperm => ?_, fun hdiff => ?_⟩, fun hgone => ?_⟩⟩
  · rw [exec, execLayoutComplete, completeComputation, hidle]
  · have hsame : sameSet x.pieces (accountedPieces l) = true := sameSet_of_perm hperm
    rw [exec_layoutComplete hcur, ← hl, handOver_of_waiting (s := engineIdle s) hx hphase hq, if_pos hsame]
    rfl
  · have hother : ¬sameSet x.pieces (accountedPieces l) = true := fun hsame => hdiff (mem_iff_of_sameSet hsame)
    rw [exec_layoutComplete hcur, ← hl, handOver_of_waiting (s := engineIdle s) hx hphase hq, if_neg hother]
    rfl
  · rw [exec_layoutComplete hcur, handOver_of_gone (s := engineIdle s) hgone]
    rfl

/-! ## Reset (R188) -/

theorem exec_reset_or_powerOn {s t : State} (h : exec .reset s = .next t ∨ exec .powerOn s = .next t) :
    t = { State.reset with pins := { s.pins with reset := false }, pending := s.pending } := by
  rcases h with h | h <;> cases h <;> rfl

/-- Settles O15: each value is read off the reset state, and RESET and power-on leave that state's records. -/
theorem resetOthers : Obligations.ResetOthers := by
  unfold Obligations.ResetOthers
  refine ⟨fun p => Vector.getElem_replicate p.isLt, rfl, rfl, rfl, rfl, rfl, fun st => ?_, rfl, rfl, rfl, rfl, rfl, rfl, rfl, rfl, rfl,
    rfl, rfl, rfl, rfl, rfl, rfl, rfl, rfl, rfl, rfl, fun c => Vector.getElem_replicate c.isLt, rfl, rfl, rfl, rfl, rfl, rfl, rfl, rfl,
    rfl, fun s t h => ?_⟩
  · rw [station_reset]
    repeat' apply And.intro
    all_goals rfl
  · rw [exec_reset_or_powerOn h]
    exact ⟨rfl, rfl, rfl, rfl, rfl, rfl, rfl, rfl, rfl⟩

end Sys2Proof.Machine
end

section
/-! How a layout is made (R42 to R51): orientation, the order of placement, the turn of a piece, the placement list and the candidate,
each said once. -/

namespace Sys2Proof.Machine

/-! ## Orientation and order (R42, R43) -/

theorem orient_fixed (ul : Nat) {q : CapPiece} (h : q.grain = .fixed) :
    (orient ul q).xe = q.len ∧ (orient ul q).ye = q.wid := by
  simp [orient, xExtent, yExtent, h]

theorem orient_free_long {ul : Nat} {q : CapPiece} (h : q.grain = .free) (hfit : max q.len q.wid ≤ ul) :
    (orient ul q).xe = max q.len q.wid ∧ (orient ul q).ye = min q.len q.wid := by
  simp only [orient, xExtent, yExtent, h, if_pos hfit, and_self]

theorem orient_free_across {ul : Nat} {q : CapPiece} (h : q.grain = .free) (hlong : ul < max q.len q.wid) :
    (orient ul q).xe = min q.len q.wid ∧ (orient ul q).ye = max q.len q.wid := by
  simp only [orient, xExtent, yExtent, h, if_neg (Nat.not_le.mpr hlong), and_self]

theorem orient_rotated (ul : Nat) (q : CapPiece) : (orient ul q).rotated = true ↔ (orient ul q).xe ≠ q.len := bne_iff_ne

/-- R43: `a` stands no later than `b` in the order of placement. -/
def NoLaterThan (a b : Oriented) : Prop :=
  b.ye < a.ye ∨ (a.ye = b.ye ∧ (b.xe < a.xe ∨ (a.xe = b.xe ∧
    (a.id.job < b.id.job ∨ (a.id.job = b.id.job ∧ a.id.idx ≤ b.id.idx)))))

theorem NoLaterThan.trans {a b c : Oriented} (h : NoLaterThan a b) (g : NoLaterThan b c) : NoLaterThan a c := by
  unfold NoLaterThan at *
  omega

theorem noLaterThan_of_placedBefore {a b : Oriented} (h : placedBefore a b = true) : NoLaterThan a b := by
  simp only [placedBefore, Bool.or_eq_true, Bool.and_eq_true, decide_eq_true_eq, beq_iff_eq] at h
  unfold NoLaterThan
  omega

theorem noLaterThan_of_not_placedBefore {a b : Oriented} (h : placedBefore a b = false) : NoLaterThan b a := by
  simp only [placedBefore, Bool.or_eq_false_iff, Bool.and_eq_false_iff, decide_eq_false_iff_not, beq_eq_false_iff_ne] at h
  unfold NoLaterThan
  omega

theorem placingOrder_perm (c : Captures) : (placingOrder c).Perm (c.pieces.map (orient c.ul)) := sortBy_perm ..

theorem placingOrder_pairwise (c : Captures) : (placingOrder c).Pairwise NoLaterThan :=
  sortBy_pairwise (fun _ _ _ => .trans) (fun _ _ => noLaterThan_of_placedBefore) (fun _ _ => noLaterThan_of_not_placedBefore) _

/-! ## The turn of one piece (R45 to R47) -/

theorem fitsStrip_iff {ul : Nat} {o : Oriented} {x : Strip} : fitsStrip ul o x = true ↔ o.ye ≤ x.height ∧ x.cursor + o.xe ≤ ul := by
  simp [fitsStrip]

theorem fitsStrip_eq_false {ul : Nat} {o : Oriented} {x : Strip} :
    fitsStrip ul o x = false ↔ x.height < o.ye ∨ ul < x.cursor + o.xe := by
  simp only [fitsStrip, Bool.and_eq_false_iff, decide_eq_false_iff_not, Nat.not_le]

section
variable {c : Captures} {w : Work} {o : Oriented}

theorem placePiece_of_tooLarge (h : c.ul < o.xe ∨ c.uw < o.ye) : placePiece c w o = markUnfit o .tooLarge w := if_pos h

theorem placePiece_of_findIdx_some {i : Nat} {x : Strip} (hxe : o.xe ≤ c.ul) (hye : o.ye ≤ c.uw)
    (hidx : w.strips.findIdx? (fitsStrip c.ul o) = some i) (hx : w.strips[i]? = some x) :
    placePiece c w o = setIntoStrip c.kerf o i x w := by
  rw [placePiece, if_neg (not_or.mpr ⟨Nat.not_lt.mpr hxe, Nat.not_lt.mpr hye⟩), hidx]
  simp only [hx, Option.getD_some]

theorem placePiece_of_findIdx_none (hxe : o.xe ≤ c.ul) (hye : o.ye ≤ c.uw)
    (hidx : w.strips.findIdx? (fitsStrip c.ul o) = none) :
    placePiece c w o =
      if w.strips.length < 8 ∧ w.nextY + o.ye ≤ c.uw then openStrip c.kerf o w else markUnfit o .noRoom w := by
  rw [placePiece, if_neg (not_or.mpr ⟨Nat.not_lt.mpr hxe, Nat.not_lt.mpr hye⟩), hidx]

/-- R45: the first strip that fits the piece takes it. -/
theorem placePiece_of_first (hxe : o.xe ≤ c.ul) (hye : o.ye ≤ c.uw) {i : Nat} {x : Strip} (hx : w.strips[i]? = some x)
    (hfit : fitsStrip c.ul o x = true) (hfirst : ∀ k y, k < i → w.strips[k]? = some y → fitsStrip c.ul o y = false) :
    placePiece c w o = setIntoStrip c.kerf o i x w := by
  obtain ⟨hi, hget⟩ := List.getElem?_eq_some_iff.mp hx
  refine placePiece_of_findIdx_some hxe hye (List.findIdx?_eq_some_iff_getElem.mpr ⟨hi, hget ▸ hfit, fun k hk => ?_⟩) hx
  rw [hfirst k _ hk (List.getElem?_eq_getElem (hk.trans hi))]
  exact Bool.false_ne_true

/-- R46: no strip fits the piece, and one more can be opened. -/
theorem placePiece_of_open (hxe : o.xe ≤ c.ul) (hye : o.ye ≤ c.uw) (hnone : ∀ x ∈ w.strips, fitsStrip c.ul o x = false)
    (hfew : w.strips.length < 8) (hroom : w.nextY + o.ye ≤ c.uw) : placePiece c w o = openStrip c.kerf o w :=
  (placePiece_of_findIdx_none hxe hye (List.findIdx?_eq_none_iff.mpr hnone)).trans (if_pos ⟨hfew, hroom⟩)

/-- R47: no strip fits the piece, and none can be opened. -/
theorem placePiece_of_noRoom (hxe : o.xe ≤ c.ul) (hye : o.ye ≤ c.uw) (hnone : ∀ x ∈ w.strips, fitsStrip c.ul o x = false)
    (hfull : 8 ≤ w.strips.length ∨ c.uw < w.nextY + o.ye) : placePiece c w o = markUnfit o .noRoom w :=
  (placePiece_of_findIdx_none hxe hye (List.findIdx?_eq_none_iff.mpr hnone)).trans (if_neg (by omega))

variable (c w o)

/-- R45 to R47: what the turn of a piece can do. -/
theorem placePiece_cases :
    (∃ r, placePiece c w o = markUnfit o r w) ∨
    (∃ i x, w.strips[i]? = some x ∧ o.ye ≤ x.height ∧ x.cursor + o.xe ≤ c.ul ∧ placePiece c w o = setIntoStrip c.kerf o i x w) ∨
    (o.xe ≤ c.ul ∧ w.strips.length < 8 ∧ w.nextY + o.ye ≤ c.uw ∧ placePiece c w o = openStrip c.kerf o w) := by
  by_cases hlarge : c.ul < o.xe ∨ c.uw < o.ye
  · exact .inl ⟨_, placePiece_of_tooLarge hlarge⟩
  · have hxe : o.xe ≤ c.ul := by omega
    have hye : o.ye ≤ c.uw := by omega
    cases hidx : w.strips.findIdx? (fitsStrip c.ul o) with
    | some i =>
      obtain ⟨hi, hfit, -⟩ := List.findIdx?_eq_some_iff_getElem.mp hidx
      obtain ⟨hheight, hcursor⟩ := fitsStrip_iff.mp hfit
      have hx := List.getElem?_eq_getElem hi
      exact .inr (.inl ⟨i, _, hx, hheight, hcursor, placePiece_of_findIdx_some hxe hye hidx hx⟩)
    | none =>
      have heq := placePiece_of_findIdx_none hxe hye hidx
      split at heq
      · rename_i hopen
        exact .inr (.inr ⟨hxe, hopen.1, hopen.2, heq⟩)
      · exact .inl ⟨_, heq⟩

/-- R54: the pieces a working state accounts for. -/
def Work.accounted (w : Work) : List PieceId :=
  w.placements.map (fun x => x.piece) ++ w.unfit.map fun x => x.piece

/-- R54: a piece's turn accounts for that piece and for no other. -/
theorem accounted_placePiece : (placePiece c w o).accounted.Perm (w.accounted ++ [o.id]) := by
  rcases placePiece_cases c w o with ⟨r, h⟩ | ⟨i, x, -, -, -, h⟩ | ⟨-, -, -, h⟩ <;> rw [h]
  · simp [Work.accounted, markUnfit]
  · simpa [Work.accounted, setIntoStrip, List.perm_append_left_iff] using (List.perm_append_singleton ..).symm
  · simpa [Work.accounted, openStrip, List.perm_append_left_iff] using (List.perm_append_singleton ..).symm

end

theorem accounted_foldl (c : Captures) (l : List Oriented) (w : Work) :
    (l.foldl (placePiece c) w).accounted.Perm (w.accounted ++ l.map fun o => o.id) := by
  induction l generalizing w with
  | nil => simp
  | cons o l ih =>
    refine (ih _).trans ?_
    simpa using (accounted_placePiece c w o).append_right (l.map fun o => o.id)

/-- R54: every captured piece is accounted for. -/
theorem accounted_placeAll (c : Captures) (w : Work) :
    (placeAll c w).accounted.Perm (w.accounted ++ c.pieces.map fun x => x.id) := by
  refine (accounted_foldl c _ w).trans (.append_left _ ?_)
  simpa [Function.comp_def, orient] using (placingOrder_perm c).map fun o => o.id

/-! ## The placement list (R48) -/

/-- R48: a strip's placements stand in the list as they were set. -/
theorem filter_layoutOrder {l : List Placement} (h : ∀ x ∈ l, 1 ≤ x.strip ∧ x.strip ≤ 8) (k : Nat) :
    (layoutOrder l).filter (fun x => x.strip == k) = l.filter fun x => x.strip == k := by
  have key : ∀ n, ((List.range n).flatMap fun j => l.filter fun x => x.strip == j + 1).filter (fun x => x.strip == k) =
      if 1 ≤ k ∧ k ≤ n then l.filter fun x => x.strip == k else [] := fun n => by
    induction n with
    | zero => rw [if_neg (by omega)]; rfl
    | succ n ih =>
      rw [List.range_succ, List.flatMap_append, List.filter_append, ih, List.flatMap_singleton, List.filter_filter]
      by_cases hk : k = n + 1
      · subst hk
        rw [if_neg (by omega), if_pos (by omega), List.nil_append]
        exact List.filter_congr fun x _ => Bool.and_self _
      · have hnone : (l.filter fun x => (x.strip == k) && (x.strip == n + 1)) = [] :=
          List.filter_eq_nil_iff.mpr fun x _ hx => by
            simp only [Bool.and_eq_true, beq_iff_eq] at hx
            omega
        rw [hnone, List.append_nil]
        exact if_congr (by omega) rfl rfl
  rw [layoutOrder, key]
  split
  · rfl
  · refine (List.filter_eq_nil_iff.mpr fun x hx hk => ?_).symm
    have := h x hx
    simp only [beq_iff_eq, Config.maxStrips] at *
    omega

theorem layoutOrder_perm {l : List Placement} (h : ∀ x ∈ l, 1 ≤ x.strip ∧ x.strip ≤ 8) : (layoutOrder l).Perm l := by
  refine List.perm_iff_count.mpr fun a => ?_
  have hcount : ∀ m : List Placement, (m.filter fun x => x.strip == a.strip).count a = m.count a := fun m =>
    List.count_filter (beq_self_eq_true a.strip)
  rw [← hcount, filter_layoutOrder h, hcount]

theorem layoutOrder_pairwise (l : List Placement) : (layoutOrder l).Pairwise fun a b => a.strip ≤ b.strip := by
  refine List.pairwise_flatMap.mpr ⟨fun k _ => ?_, List.pairwise_lt_range.imp fun {j k} hjk a ha b hb => ?_⟩
  · refine List.pairwise_of_forall_mem_list fun a ha b hb => ?_
    simp only [List.mem_filter, beq_iff_eq] at ha hb
    omega
  · simp only [List.mem_filter, beq_iff_eq] at ha hb
    omega

/-! ## The candidate (R50, R51) -/

theorem maxCursor_eq (l : List Strip) : maxCursor l = (l.map fun x => x.cursor).foldl max 0 := List.foldl_map.symm

theorem cursor_le_maxCursor {l : List Strip} {x : Strip} (h : x ∈ l) : x.cursor ≤ maxCursor l := by
  rw [maxCursor_eq, List.foldl_max, Nat.zero_max]
  exact List.le_max?_getD_of_mem (List.mem_map_of_mem h)

theorem qualifies_iff {c : Captures} {x : Candidate} : qualifies c x = true ↔ MeetsMinimums c x := by
  simp [qualifies, MeetsMinimums, and_assoc]

theorem qualifies_eq_false {c : Captures} {x : Candidate} : qualifies c x = false ↔ ¬MeetsMinimums c x := by
  rw [← qualifies_iff, Bool.not_eq_true]

section
variable {c : Captures} {w : Work}

theorem chooseCandidate_of_empty (h : w.placements = []) : chooseCandidate c w = noCandidate := by
  rw [chooseCandidate, h]
  rfl

/-- R51: the TOP rectangle, where the TAIL one does not qualify or is no larger. -/
theorem chooseCandidate_of_top (hset : w.placements ≠ []) (htop : MeetsMinimums c (topCandidate c w))
    (htail : ¬MeetsMinimums c (tailCandidate c w) ∨ (tailCandidate c w).area ≤ (topCandidate c w).area) :
    chooseCandidate c w = topCandidate c w := by
  have hne : w.placements.isEmpty = false := by simpa using hset
  rw [chooseCandidate, hne, qualifies_iff.mpr htop]
  rcases htail with hno | hle
  · simp [qualifies_eq_false.mpr hno]
  · simp [Nat.not_lt.mpr hle]

/-- R51: the TAIL rectangle, where the TOP one does not qualify or is smaller. -/
theorem chooseCandidate_of_tail (hset : w.placements ≠ []) (htail : MeetsMinimums c (tailCandidate c w))
    (htop : ¬MeetsMinimums c (topCandidate c w) ∨ (topCandidate c w).area < (tailCandidate c w).area) :
    chooseCandidate c w = tailCandidate c w := by
  have hne : w.placements.isEmpty = false := by simpa using hset
  rw [chooseCandidate, hne, qualifies_iff.mpr htail]
  rcases htop with hno | hlt
  · simp [qualifies_eq_false.mpr hno]
  · cases qualifies c (topCandidate c w) <;> simp [hlt]

/-- R51: no rectangle qualifies. -/
theorem chooseCandidate_of_neither (htop : ¬MeetsMinimums c (topCandidate c w)) (htail : ¬MeetsMinimums c (tailCandidate c w)) :
    chooseCandidate c w = noCandidate := by
  simp [chooseCandidate, qualifies_eq_false.mpr htop, qualifies_eq_false.mpr htail]

variable (c w)

theorem chooseCandidate_cases :
    chooseCandidate c w = noCandidate ∨
    (chooseCandidate c w = topCandidate c w ∧ MeetsMinimums c (topCandidate c w)) ∨
    (chooseCandidate c w = tailCandidate c w ∧ MeetsMinimums c (tailCandidate c w)) := by
  by_cases hset : w.placements = []
  · exact .inl (chooseCandidate_of_empty hset)
  by_cases htop : MeetsMinimums c (topCandidate c w)
  · by_cases hle : ¬MeetsMinimums c (tailCandidate c w) ∨ (tailCandidate c w).area ≤ (topCandidate c w).area
    · exact .inr (.inl ⟨chooseCandidate_of_top hset htop hle, htop⟩)
    · rw [not_or, not_not, Nat.not_le] at hle
      obtain ⟨htail, hlt⟩ := hle
      exact .inr (.inr ⟨chooseCandidate_of_tail hset htail (.inr hlt), htail⟩)
  · by_cases htail : MeetsMinimums c (tailCandidate c w)
    · exact .inr (.inr ⟨chooseCandidate_of_tail hset htail (.inl htop), htail⟩)
    · exact .inl (chooseCandidate_of_neither htop htail)

end

end Sys2Proof.Machine
end

section
/-! What the turns of a computation keep (`WorkOk`): the strips lie one behind another across the slab, every placement lies in its
strip, and any two are the kerf apart (R44 to R47, R49).  The statements O36 and O37. -/

namespace Sys2Proof.Machine

/-! ## Strips -/

/-- R44: what of a strip never changes: where it lies, and its height. -/
def Strip.row (x : Strip) : Nat × Nat :=
  (x.y, x.height)

/-- R46: the strips lie one behind another across the slab, the kerf apart. -/
structure RowsOk (c : Captures) (nextY : Nat) (rows : List (Nat × Nat)) : Prop where
  stacked : rows.Pairwise fun a b => a.1 + a.2 + c.kerf ≤ b.1
  passed : ∀ a ∈ rows, a.1 + a.2 + c.kerf ≤ nextY
  inside : ∀ a ∈ rows, a.1 + a.2 ≤ c.uw
  heights : (rows.map fun a => a.2).sum ≤ min nextY c.uw

/-- R46: a strip opened where the strips so far end. -/
theorem RowsOk.snoc {c : Captures} {nextY : Nat} {rows : List (Nat × Nat)} (h : RowsOk c nextY rows) {height : Nat}
    (hroom : nextY + height ≤ c.uw) : RowsOk c (nextY + height + c.kerf) (rows ++ [(nextY, height)]) where
  stacked := List.pairwise_append.mpr ⟨h.stacked, List.pairwise_singleton .., fun a ha b hb => by
    rw [List.mem_singleton.mp hb]
    exact h.passed a ha⟩
  passed a ha := by
    rcases List.mem_append.mp ha with ha | ha
    · have := h.passed a ha
      omega
    · rw [List.mem_singleton.mp ha]
  inside a ha := by
    rcases List.mem_append.mp ha with ha | ha
    · exact h.inside a ha
    · rw [List.mem_singleton.mp ha]
      exact hroom
  heights := by
    have := h.heights
    simp only [List.map_append, List.map_cons, List.map_nil, List.sum_append, List.sum_singleton]
    omega

theorem rows_set {l : List Strip} {i : Nat} {x : Strip} (hx : l[i]? = some x) (cursor : Nat) :
    (l.set i { x with cursor := cursor }).map Strip.row = l.map Strip.row := by
  obtain ⟨hi, rfl⟩ := List.getElem?_eq_some_iff.mp hx
  rw [List.map_set]
  have hrow : Strip.row { l[i] with cursor := cursor } = (l.map Strip.row)[i]'(by simpa using hi) := by simp [Strip.row]
  rw [hrow, List.set_getElem_self]

/-- R45, R46: every strip stands at its place, its cursor no less. -/
def Grown (l m : List Strip) : Prop :=
  ∀ (k : Nat) (y : Strip), l[k]? = some y → ∃ z : Strip, m[k]? = some z ∧ z.row = y.row ∧ y.cursor ≤ z.cursor

theorem grown_set {l : List Strip} {i : Nat} {x : Strip} (hx : l[i]? = some x) {cursor : Nat} (hc : x.cursor ≤ cursor) :
    Grown l (l.set i { x with cursor := cursor }) := fun k y hy => by
  by_cases hk : i = k
  · subst hk
    obtain rfl := Option.some.inj (hx.symm.trans hy)
    obtain ⟨hi, -⟩ := List.getElem?_eq_some_iff.mp hx
    exact ⟨_, List.getElem?_set_self hi, rfl, hc⟩
  · exact ⟨y, (List.getElem?_set_ne hk).trans hy, rfl, Nat.le_refl _⟩

theorem grown_append (l m : List Strip) : Grown l (l ++ m) := fun k y hy => by
  obtain ⟨hk, -⟩ := List.getElem?_eq_some_iff.mp hy
  exact ⟨y, (List.getElem?_append_left hk).trans hy, rfl, Nat.le_refl _⟩

/-- R45: an upper bound of what the placements of a strip cover. -/
def covered (ul : Nat) (x : Strip) : Nat :=
  min x.cursor ul * x.height

/-- A cursor moved past a piece of a strip makes room for the piece's area. -/
theorem sum_covered_set {l : List Strip} {i : Nat} {x : Strip} (hx : l[i]? = some x) {ul cursor xe ye : Nat}
    (hheight : ye ≤ x.height) (hfit : x.cursor + xe ≤ ul) (hc : x.cursor + xe ≤ cursor) :
    (l.map (covered ul)).sum + xe * ye ≤ ((l.set i { x with cursor := cursor }).map (covered ul)).sum := by
  obtain ⟨hi, hget⟩ := List.getElem?_eq_some_iff.mp hx
  have hbefore := ((List.getElem_cons_eraseIdx_perm hi).map (covered ul)).sum_eq
  have hafter := ((List.set_perm_cons_eraseIdx hi { x with cursor := cursor }).map (covered ul)).sum_eq
  rw [List.map_cons, List.sum_cons] at hbefore hafter
  rw [hget] at hbefore
  have hroom : covered ul x + xe * ye ≤ covered ul { x with cursor := cursor } := by
    calc covered ul x + xe * ye
        ≤ x.cursor * x.height + xe * x.height :=
          Nat.add_le_add (Nat.mul_le_mul_right _ (Nat.min_le_left ..)) (Nat.mul_le_mul_left _ hheight)
      _ = (x.cursor + xe) * x.height := (Nat.add_mul ..).symm
      _ ≤ min cursor ul * x.height := Nat.mul_le_mul_right _ (by omega)
  omega

/-- The strips together cover no more than the slab. -/
theorem sum_covered_le {c : Captures} {nextY : Nat} {l : List Strip} (h : RowsOk c nextY (l.map Strip.row)) :
    (l.map (covered c.ul)).sum ≤ c.ul * c.uw := by
  have hheights : (l.map Strip.height).sum ≤ c.uw := by
    have := h.heights
    rw [List.map_map] at this
    exact this.trans (Nat.min_le_right ..)
  calc (l.map (covered c.ul)).sum
      ≤ (l.map fun x => c.ul * x.height).sum :=
        List.sum_le_sum fun x _ => Nat.mul_le_mul_right _ (Nat.min_le_right ..)
    _ = c.ul * (l.map Strip.height).sum := List.sum_map_mul_left ..
    _ ≤ c.ul * c.uw := Nat.mul_le_mul_left _ hheights

/-! ## Placements -/

/-- R45, R46: the placement lies in the strip, before its cursor. -/
structure Lies (c : Captures) (x : Strip) (p : Placement) : Prop where
  y : p.y = x.y
  height : p.ye ≤ x.height
  fits : p.x + p.xe ≤ c.ul
  before : p.x + p.xe + c.kerf ≤ x.cursor

/-- R45, R46: the placement lies in the strip it names. -/
def LiesIn (c : Captures) (l : List Strip) (p : Placement) : Prop :=
  ∃ i x, p.strip = i + 1 ∧ l[i]? = some x ∧ Lies c x p

theorem LiesIn.grown {c : Captures} {l m : List Strip} {p : Placement} (h : LiesIn c l p) (hgrown : Grown l m) : LiesIn c m p := by
  obtain ⟨i, x, hi, hx, hy, hheight, hfits, hbefore⟩ := h
  obtain ⟨z, hz, hrow, hcursor⟩ := hgrown i x hx
  have hzy : z.y = x.y := congrArg Prod.fst hrow
  have hzh : z.height = x.height := congrArg Prod.snd hrow
  exact ⟨i, z, hi, hz, hzy ▸ hy, hzh ▸ hheight, hfits, hbefore.trans hcursor⟩

/-- R49: two placements are at least the kerf apart, along the slab or across it. -/
def Apart (kerf : Nat) (a b : Placement) : Prop :=
  a.x + a.xe + kerf ≤ b.x ∨ b.x + b.xe + kerf ≤ a.x ∨ a.y + a.ye + kerf ≤ b.y ∨ b.y + b.ye + kerf ≤ a.y

theorem Apart.symm {kerf : Nat} {a b : Placement} (h : Apart kerf a b) : Apart kerf b a := by
  unfold Apart at *
  omega

/-- R44 to R47: what every turn of a computation keeps. -/
structure WorkOk (c : Captures) (w : Work) : Prop where
  few : w.strips.length ≤ 8
  rows : RowsOk c w.nextY (w.strips.map Strip.row)
  lies : ∀ p ∈ w.placements, LiesIn c w.strips p
  apart : w.placements.Pairwise (Apart c.kerf)
  area : sumArea w.placements ≤ (w.strips.map (covered c.ul)).sum

theorem workOk_empty (c : Captures) : WorkOk c Work.empty where
  few := Nat.zero_le _
  rows := ⟨.nil, nofun, nofun, Nat.zero_le _⟩
  lies := nofun
  apart := .nil
  area := Nat.le_refl _

theorem sumArea_snoc (l : List Placement) (p : Placement) : sumArea (l ++ [p]) = sumArea l + p.xe * p.ye := by
  simp [sumArea, Placement.area]

section
variable {c : Captures} {w : Work}

/-- R44: a placement's strip, among the strips so far. -/
theorem WorkOk.passed (h : WorkOk c w) {k : Nat} {y : Strip} (hy : w.strips[k]? = some y) :
    y.y + y.height + c.kerf ≤ w.nextY ∧ y.y + y.height ≤ c.uw := by
  have hmem : y.row ∈ w.strips.map Strip.row := List.mem_map_of_mem (List.mem_of_getElem? hy)
  exact ⟨h.rows.passed _ hmem, h.rows.inside _ hmem⟩

/-- R46: of two strips the later one lies behind the earlier one. -/
theorem WorkOk.stacked (h : WorkOk c w) {i k : Nat} {x y : Strip} (hx : w.strips[i]? = some x) (hy : w.strips[k]? = some y)
    (hik : i < k) : x.y + x.height + c.kerf ≤ y.y := by
  obtain ⟨hi, rfl⟩ := List.getElem?_eq_some_iff.mp hx
  obtain ⟨hk, rfl⟩ := List.getElem?_eq_some_iff.mp hy
  exact List.pairwise_iff_getElem.mp (List.pairwise_map.mp h.rows.stacked) i k hi hk hik

/-- R45: a piece set at the cursor of a strip lies apart from all placed before it. -/
theorem WorkOk.apart_of_set (h : WorkOk c w) {i : Nat} {x : Strip} (hx : w.strips[i]? = some x) {p q : Placement}
    (hp : p ∈ w.placements) (hqy : q.y = x.y) (hqx : q.x = x.cursor) (hheight : q.ye ≤ x.height) : Apart c.kerf p q := by
  obtain ⟨k, y, -, hy, hpy, hph, -, hbefore⟩ := h.lies p hp
  unfold Apart
  rcases lt_trichotomy k i with hki | rfl | hik
  · have := h.stacked hy hx hki
    omega
  · obtain rfl := Option.some.inj (hx.symm.trans hy)
    omega
  · have := h.stacked hx hy hik
    omega

/-- R45: the turn of a piece that a strip takes. -/
theorem WorkOk.setIntoStrip (h : WorkOk c w) {o : Oriented} {i : Nat} {x : Strip} (hx : w.strips[i]? = some x)
    (hheight : o.ye ≤ x.height) (hfit : x.cursor + o.xe ≤ c.ul) : WorkOk c (setIntoStrip c.kerf o i x w) := by
  have hgrown := grown_set hx (cursor := x.cursor + o.xe + c.kerf) (by omega)
  obtain ⟨hi, -⟩ := List.getElem?_eq_some_iff.mp hx
  refine ⟨?_, ?_, fun p hp => ?_, ?_, ?_⟩
  · simpa [Machine.setIntoStrip] using h.few
  · simpa only [Machine.setIntoStrip, rows_set hx] using h.rows
  · rcases List.mem_append.mp hp with hp | hp
    · exact (h.lies p hp).grown hgrown
    · rw [List.mem_singleton.mp hp]
      exact ⟨i, _, rfl, List.getElem?_set_self hi, rfl, hheight, hfit, Nat.le_refl _⟩
  · refine List.pairwise_append.mpr ⟨h.apart, List.pairwise_singleton .., fun p hp q hq => ?_⟩
    rw [List.mem_singleton.mp hq]
    exact h.apart_of_set hx hp rfl rfl hheight
  · have hroom := sum_covered_set hx (ul := c.ul) (cursor := x.cursor + o.xe + c.kerf) hheight hfit (by omega)
    have harea := h.area
    simp only [Machine.setIntoStrip, sumArea_snoc]
    omega

/-- R46: the turn of a piece that opens a strip. -/
theorem WorkOk.openStrip (h : WorkOk c w) {o : Oriented} (hxe : o.xe ≤ c.ul) (hfew : w.strips.length < 8)
    (hroom : w.nextY + o.ye ≤ c.uw) : WorkOk c (openStrip c.kerf o w) := by
  refine ⟨?_, ?_, fun p hp => ?_, ?_, ?_⟩
  · simpa [Machine.openStrip] using hfew
  · simpa [Machine.openStrip, Strip.row] using h.rows.snoc hroom
  · rcases List.mem_append.mp hp with hp | hp
    · exact (h.lies p hp).grown (grown_append _ _)
    · rw [List.mem_singleton.mp hp]
      exact ⟨w.strips.length, _, rfl, List.getElem?_concat_length, rfl, Nat.le_refl _, by simpa using hxe, by simp⟩
  · refine List.pairwise_append.mpr ⟨h.apart, List.pairwise_singleton .., fun p hp q hq => ?_⟩
    obtain ⟨k, y, -, hy, hpy, hph, -, -⟩ := h.lies p hp
    have hpassed := (h.passed hy).1
    rw [List.mem_singleton.mp hq]
    refine .inr (.inr (.inl ?_))
    dsimp only
    omega
  · have hcursor : o.xe ≤ min (o.xe + c.kerf) c.ul := by omega
    have hcovered : o.xe * o.ye ≤ covered c.ul ⟨w.nextY, o.ye, o.xe + c.kerf⟩ := Nat.mul_le_mul_right _ hcursor
    have harea := h.area
    simp only [Machine.openStrip, sumArea_snoc, List.map_append, List.map_singleton, List.sum_append, List.sum_singleton]
    omega

theorem WorkOk.placePiece (h : WorkOk c w) (o : Oriented) : WorkOk c (placePiece c w o) := by
  rcases placePiece_cases c w o with ⟨r, heq⟩ | ⟨i, x, hx, hheight, hfit, heq⟩ | ⟨hxe, hfew, hroom, heq⟩ <;> rw [heq]
  · exact ⟨h.few, h.rows, h.lies, h.apart, h.area⟩
  · exact h.setIntoStrip hx hheight hfit
  · exact h.openStrip hxe hfew hroom

theorem WorkOk.placeAll (h : WorkOk c w) : WorkOk c (placeAll c w) :=
  List.foldlRecOn _ _ h fun _ hw o _ => hw.placePiece o

/-! ## What the invariant gives of a layout -/

theorem WorkOk.inSlab (h : WorkOk c w) {p : Placement} (hp : p ∈ w.placements) : p.x + p.xe ≤ c.ul ∧ p.y + p.ye ≤ c.uw := by
  obtain ⟨k, y, -, hy, hpy, hph, hfits, -⟩ := h.lies p hp
  have hinside := (h.passed hy).2
  exact ⟨hfits, by omega⟩

/-- R48: a placement names one of the 8 strips. -/
theorem WorkOk.strip (h : WorkOk c w) : ∀ p ∈ w.placements, 1 ≤ p.strip ∧ p.strip ≤ 8 := fun p hp => by
  obtain ⟨k, y, hk, hy, -⟩ := h.lies p hp
  obtain ⟨hlt, -⟩ := List.getElem?_eq_some_iff.mp hy
  have := h.few
  omega

/-- R50: nothing lies in the TOP rectangle, nor within the kerf of it. -/
theorem WorkOk.before_nextY (h : WorkOk c w) {p : Placement} (hp : p ∈ w.placements) : p.y + p.ye + c.kerf ≤ w.nextY := by
  obtain ⟨k, y, -, hy, hpy, hph, -, -⟩ := h.lies p hp
  have hpassed := (h.passed hy).1
  omega

/-- R50: nothing lies in the TAIL rectangle, nor within the kerf of it. -/
theorem WorkOk.before_maxCursor (h : WorkOk c w) {p : Placement} (hp : p ∈ w.placements) :
    p.x + p.xe + c.kerf ≤ maxCursor w.strips := by
  obtain ⟨k, y, -, hy, hlies⟩ := h.lies p hp
  exact hlies.before.trans (cursor_le_maxCursor (List.mem_of_getElem? hy))

/-- R50, R51: a TOP candidate spans the usable length and lies clear of every placement by the kerf. -/
theorem WorkOk.top (h : WorkOk c w) (hkind : (chooseCandidate c w).kind = .top) :
    (chooseCandidate c w).len = c.ul ∧ 0 < (chooseCandidate c w).wid ∧ (chooseCandidate c w).wid ≤ c.uw ∧
      ∀ p ∈ w.placements, p.y + p.ye + c.kerf ≤ c.uw - (chooseCandidate c w).wid := by
  rcases chooseCandidate_cases c w with heq | ⟨heq, hmeets⟩ | ⟨heq, -⟩ <;> rw [heq] at hkind ⊢
  · cases hkind
  · obtain ⟨-, hwid, -⟩ := hmeets
    refine ⟨rfl, hwid, Nat.sub_le .., fun p hp => ?_⟩
    have := h.before_nextY hp
    simp only [topCandidate] at hwid ⊢
    omega
  · cases hkind

/-- R50, R51: a TAIL candidate spans the usable width and lies clear of every placement by the kerf. -/
theorem WorkOk.tail (h : WorkOk c w) (hkind : (chooseCandidate c w).kind = .tail) :
    (chooseCandidate c w).wid = c.uw ∧ 0 < (chooseCandidate c w).len ∧ (chooseCandidate c w).len ≤ c.ul ∧
      ∀ p ∈ w.placements, p.x + p.xe + c.kerf ≤ c.ul - (chooseCandidate c w).len := by
  rcases chooseCandidate_cases c w with heq | ⟨heq, -⟩ | ⟨heq, hmeets⟩ <;> rw [heq] at hkind ⊢
  · cases hkind
  · cases hkind
  · obtain ⟨hlen, -⟩ := hmeets
    refine ⟨rfl, hlen, Nat.sub_le .., fun p hp => ?_⟩
    have := h.before_maxCursor hp
    simp only [tailCandidate] at hlen ⊢
    omega

/-- R53: the placements together cover no more than the slab. -/
theorem WorkOk.area_le (h : WorkOk c w) : sumArea w.placements ≤ c.ul * c.uw :=
  h.area.trans (sum_covered_le h.rows)

theorem WorkOk.placements_perm (h : WorkOk c w) : (layoutRecord c w).placements.Perm w.placements := layoutOrder_perm h.strip

end

/-- R53: a share of the usable area is at most 1. -/
theorem yieldOf_le {placed area : Nat} (h : placed ≤ area) : yieldOf placed area ≤ 32768 := by
  rw [yieldOf]
  exact Nat.div_le_of_le_mul (Nat.mul_le_mul_right _ h)

/-! ## The statements -/

/-- Settles O36: every turn keeps `WorkOk`, and the placement list is an arrangement of what was set. -/
theorem layoutIsSound : Obligations.LayoutIsSound := by
  unfold Obligations.LayoutIsSound
  rintro c l rfl
  have hok : WorkOk c (placeAll c Work.empty) := (workOk_empty c).placeAll
  have hperm := hok.placements_perm
  refine ⟨fun x hx => hok.inSlab (hperm.mem_iff.mp hx), ?_, rfl, ?_, yieldOf_le hok.area_le⟩
  · exact (List.Perm.pairwise_iff (R := Apart c.kerf) Apart.symm hperm).mpr hok.apart
  · exact (hperm.map Placement.area).sum_eq.symm

/-- Settles O37: each clause is one of the rules above, the first by `WorkOk`. -/
theorem layoutAccountsForPieces : Obligations.LayoutAccountsForPieces := by
  unfold Obligations.LayoutAccountsForPieces
  refine ⟨?_, fun ul q => ⟨rfl, orient_fixed ul, orient_free_long, orient_free_across, orient_rotated ul q⟩,
    fun c w => ⟨placingOrder c, rfl, placingOrder_perm c, placingOrder_pairwise c⟩, fun c w o => ⟨placePiece_of_tooLarge, ?_⟩,
    fun c w hstrip => ⟨layoutOrder_perm hstrip, layoutOrder_pairwise _, filter_layoutOrder hstrip⟩, ?_⟩
  · rintro c l rfl
    have hok : WorkOk c (placeAll c Work.empty) := (workOk_empty c).placeAll
    have hperm := hok.placements_perm
    refine ⟨?_, hok.few, fun hkind => ?_, fun hkind => ?_, fun hnone => ?_⟩
    · exact ((hperm.map fun x => x.piece).append_right _).trans (accounted_placeAll c Work.empty)
    · obtain ⟨hlen, hpos, hwid, hclear⟩ := hok.top hkind
      exact ⟨hlen, hpos, hwid, fun x hx => hclear x (hperm.mem_iff.mp hx)⟩
    · obtain ⟨hwid, hpos, hlen, hclear⟩ := hok.tail hkind
      exact ⟨hwid, hpos, hlen, fun x hx => hclear x (hperm.mem_iff.mp hx)⟩
    · have hempty : [].Perm (placeAll c Work.empty).placements := hnone ▸ hperm
      exact chooseCandidate_of_empty (List.nil_perm.mp hempty)
  · intro hxe hye
    refine ⟨fun i x hx hheight hcursor hfirst => ?_, fun hfull => ?_⟩
    · exact placePiece_of_first hxe hye hx (fitsStrip_iff.mpr ⟨hheight, hcursor⟩) fun k y hk hy =>
        fitsStrip_eq_false.mpr (hfirst k y hk hy)
    · have hnone : ∀ x ∈ w.strips, fitsStrip c.ul o x = false := fun x hx => fitsStrip_eq_false.mpr (hfull x hx)
      exact ⟨placePiece_of_open hxe hye hnone, placePiece_of_noRoom hxe hye hnone⟩
  · intro c w top tail hset htop htail
    rw [← maxCursor_eq] at htail
    obtain rfl : top = topCandidate c w := htop
    obtain rfl : tail = tailCandidate c w := htail
    exact ⟨chooseCandidate_of_top hset, chooseCandidate_of_tail hset, chooseCandidate_of_neither⟩

end Sys2Proof.Machine
end

section
/-! The shop mode (R185 to R187): what a mode refuses, and OPEN_SHOP of a part with no water standing. -/

namespace Sys2Proof.Machine

/-! ## The floor and the mode with no water standing (R101, R185) -/

theorem releaseMarkedIdle_of_none {s : State} (h : s.arbiter.grants = []) (st : Fin 6) : releaseMarkedIdle s st = s := by
  have hg : s.grant st = none := by rw [State.grant, h, List.find?_nil]
  simp [releaseMarkedIdle, releaseIfMarked, hg]

theorem foldl_releaseMarkedIdle_of_none {s : State} (h : s.arbiter.grants = []) (l : List (Fin 6)) :
    l.foldl releaseMarkedIdle s = s := by
  induction l with
  | nil => rfl
  | cons st l ih => rw [List.foldl_cons, releaseMarkedIdle_of_none h, ih]

/-- R101: with no request and no grant a new floor is stored, and nothing else moves. -/
theorem reformFloor_of_still {s : State} (hpending : s.arbiter.pending = []) (hgrants : s.arbiter.grants = []) :
    reformFloor s = storeFloor s := by
  unfold reformFloor
  split
  · rename_i h
    show s = { s with arbiter := { s.arbiter with floor := floorNow s } }
    rw [h]
  · have hmarks : (storeFloor s).onArbiter markGrants = storeFloor s := by
      simp [storeFloor, State.onArbiter, markGrants, hgrants]
    rw [hmarks, foldl_releaseMarkedIdle_of_none (s := storeFloor s) hgrants, arbitrate_of_empty (s := storeFloor s) hpending]

/-- R185: a change of the shop mode with no request and no grant. -/
theorem changeMode_of_still {s : State} (hpending : s.arbiter.pending = []) (hgrants : s.arbiter.grants = []) (m : ShopMode) :
    changeMode m s = { s with
      arbiter := { s.arbiter with floor := max (tableTerm s) (max (sumpTerm s) (if m = .loading then 7 else 0)) }
      link := { s.link with mode := m } } := by
  rw [changeMode, reformFloor_of_still (s := s.onLink fun l => { l with mode := m }) hpending hgrants]
  exact arbitrate_of_empty (s := storeFloor (s.onLink fun l => { l with mode := m })) hpending

theorem sumpTerm_le (s : State) : sumpTerm s ≤ 7 := by
  unfold sumpTerm
  split
  · exact Nat.le_refl 7
  · exact Nat.zero_le 7

/-! ## OPEN_SHOP (R186) -/

theorem openShopReply_of_still {s : State} (hmode : s.link.mode = .loading) (hpending : s.arbiter.pending = [])
    (hgrants : s.arbiter.grants = []) (shortMin longMin : Nat) :
    openShopReply shortMin longMin s =
      ⟨{ s with
          engine := storeMinimums shortMin longMin s.engine
          arbiter := { s.arbiter with floor := max (tableTerm s) (sumpTerm s) }
          link := { s.link with mode := .running } },
        .ok, be 2 (clampShort shortMin) ++ be 2 (clampLong longMin) ++ be 1 (cycleCode s.plant.cycle)⟩ := by
  rw [openShopReply, if_neg (by rw [hmode]; decide)]
  dsimp only
  rw [changeMode_of_still (s := s.onEngine (storeMinimums shortMin longMin)) hpending hgrants, if_neg (by decide), Nat.max_zero]
  rfl

theorem exec_openShop_of_still {s : State} (hmode : s.link.mode = .loading) (hpending : s.arbiter.pending = [])
    (hgrants : s.arbiter.grants = []) (shortMin longMin : Nat) :
    exec (.openShop shortMin longMin) s = .next { s with
      engine := { s.engine with shortMin := max 150 (min shortMin 1000), longMin := max 300 (min longMin 3600) }
      arbiter := { s.arbiter with
        floor := max (s.arbiter.table.get s.plant.clean.accepted) (if s.plant.sump.accepted = 7 then 7 else 0) }
      link := { answeredLink s 4 .ok (be 2 (max 150 (min shortMin 1000)) ++ be 2 (max 300 (min longMin 3600)) ++
        be 1 (cycleCode s.plant.cycle)) with mode := .running } } :=
  serve_of_work (openShopReply_of_still (s := takeFrame 6 s) hmode hpending hgrants shortMin longMin)

/-! ## Refusals (R185 to R187) -/

theorem exec_openShop_of_running {s : State} (h : s.link.mode = .running) (shortMin longMin : Nat) :
    exec (.openShop shortMin longMin) s = .next (answered s 4 .badState []) :=
  serve_of_answer (if_pos (α := Reply) (show (takeFrame 6 s).link.mode = .running from h))

theorem exec_closeShop_of_loading {s : State} (h : s.link.mode = .loading) :
    exec .closeShop s = .next (answered s 0 .badState []) :=
  serve_of_answer (if_pos (α := Reply) (show (takeFrame 2 s).link.mode = .loading from h))

/-- R187: a cut issued keeps the shop open. -/
theorem closeShopReply_of_issued {s : State} {st : Fin 6} (hmode : s.link.mode = .running) (h : (s.station st).issued.isSome = true) :
    closeShopReply s = refuse s .busy := by
  have hany : allStations.any (holdsIssued s) = true := List.any_eq_true.mpr ⟨st, mem_allStations st, h⟩
  simp [closeShopReply, hmode, hany]

theorem whenRunning_of_loading {s : State} (h : s.link.mode = .loading) (k : Reply) : whenRunning k s = refuse s .notRunning := if_pos h

theorem withStation_of_gt {n : Nat} (h : 5 < n) (k : Fin 6 → Reply) (s : State) : withStation n k s = refuse s .badField := if_pos h

/-- R185: a station request of the LOADING mode. -/
theorem withStation_of_loading {s : State} (h : s.link.mode = .loading) (st : Fin 6) (k : Fin 6 → Reply) :
    withStation st (fun q => whenRunning (k q) s) s = refuse s .notRunning := by
  rw [withStation_of_lt, whenRunning_of_loading h]

theorem exec_loadSlab_of_badTag {serial check : Nat} (h : tagValid serial check = false) (station : Nat) (s : State) :
    exec (.loadSlab station serial check) s = .next (answered s 5 .badTag []) := by
  rw [exec, execLoadSlab, h]
  exact serve_of_answer rfl

/-- R86: LOAD_SLAB past the check of its tag. -/
theorem exec_loadSlab_of_tag {serial check : Nat} (h : tagValid serial check = true) (station : Nat) (s : State) :
    exec (.loadSlab station serial check) s =
      serve 5 (fun t => withStation station (fun st => whenRunning (loadReply serial st t) t) t) s := by
  rw [exec, execLoadSlab, h]
  rfl

/-- R185: what the LOADING mode refuses, after the tag check and the check of the station number. -/
theorem loading_refuses {s : State} (h : s.link.mode = .loading) :
    (∀ (st : Fin 6) (maxThick : Nat), exec (.stationOnline st maxThick) s = .next (answered s 2 .notRunning [])) ∧
    (∀ (st : Fin 6) (serial check : Nat), tagValid serial check = true →
      exec (.loadSlab st serial check) s = .next (answered s 5 .notRunning [])) ∧
    (∀ st : Fin 6, exec (.nextCut st) s = .next (answered s 1 .notRunning [])) ∧
    ∀ mode reset : Nat, exec (.plantStart mode reset) s = .next (answered s 2 .notRunning []) := by
  refine ⟨fun st maxThick => ?_, fun st serial check htag => ?_, fun st => ?_, fun mode reset => ?_⟩
  · exact serve_of_answer (withStation_of_loading (s := takeFrame 4 s) h st fun q => onlineReply maxThick q (takeFrame 4 s))
  · rw [exec_loadSlab_of_tag htag]
    exact serve_of_answer (withStation_of_loading (s := takeFrame 7 s) h st fun q => loadReply serial q (takeFrame 7 s))
  · exact serve_of_answer (withStation_of_loading (s := takeFrame 3 s) h st fun q => nextCutReply q (takeFrame 3 s))
  · exact serve_of_answer (whenRunning_of_loading (s := takeFrame 4 s) h _)

/-- R79: a station number above 5 comes before the mode. -/
theorem station_out_of_range {station : Nat} (h : 5 < station) (s : State) :
    (∀ maxThick, exec (.stationOnline station maxThick) s = .next (answered s 2 .badField [])) ∧
    (∀ serial check : Nat, tagValid serial check = true →
      exec (.loadSlab station serial check) s = .next (answered s 5 .badField [])) ∧
    exec (.nextCut station) s = .next (answered s 1 .badField []) := by
  refine ⟨fun maxThick => ?_, fun serial check htag => ?_, ?_⟩
  · exact serve_of_answer (withStation_of_gt h _ _)
  · rw [exec_loadSlab_of_tag htag]
    exact serve_of_answer (withStation_of_gt h _ _)
  · exact serve_of_answer (withStation_of_gt h _ _)

end Sys2Proof.Machine
end

section
/-! A station that becomes OFFLINE (R81), as CLOSE_SHOP takes it (`tookOffline`): what it leaves, that it is what the model's
`takeOffline` makes of a part with the same records, and what several of them make of a part with no request pending. -/

namespace Sys2Proof.Machine

/-! ## Arbitration, and a station that asks for nothing -/

theorem permit_iff {s : State} {st : Fin 6} : s.permit st = true ↔ ∃ g ∈ s.arbiter.grants, g.station = st := by
  simp [State.permit, State.grant, List.find?_isSome]

/-- R104: arbitration moves requests to the grants, and nothing else of the arbiter. -/
theorem arbitrate_arbiter (s : State) : (arbitrate s).arbiter =
    { s.arbiter with pending := (arbitrate s).arbiter.pending, grants := (arbitrate s).arbiter.grants } := by
  unfold arbitrate
  generalize s.arbiter.pending.length = n
  induction n generalizing s with
  | zero => rfl
  | succ n ih =>
    unfold arbitrateUpTo
    split
    · rename_i r _
      rw [ih, makeGrant_state]
      rfl
    · rfl

/-- R104: a station that asks for nothing keeps what it has. -/
theorem permit_arbitrate_of_absent {s : State} {st : Fin 6} (h : s.request st = none) : (arbitrate s).permit st = s.permit st := by
  cases hp : s.permit st with
  | true =>
    obtain ⟨g, hg, hst⟩ := permit_iff.mp hp
    exact permit_iff.mpr ⟨g, (stations_arbitrate s).2 g hg, hst⟩
  | false => exact permit_eq_false.mpr ((arbitrate_of_absent h).2.2 (permit_eq_false.mp hp))

/-- R99: no station with a grant has a request too. -/
def OneEach (s : State) : Prop :=
  ∀ st, s.permit st = true → s.request st = none

theorem OneEach.makeGrant {s : State} (h : OneEach s) (r : Request) : OneEach (makeGrant r s) := fun st hp => by
  rw [permit_iff, makeGrant_state] at hp
  obtain ⟨g, hg, hst⟩ := hp
  rw [request_eq_none, makeGrant_state]
  intro q hq
  obtain ⟨hq, hne⟩ := List.mem_filter.mp hq
  rcases List.mem_cons.mp ((insertBy_perm _ _ _).mem_iff.mp hg) with rfl | hg
  · simpa [← hst] using hne
  · exact request_eq_none.mp (h st (permit_iff.mpr ⟨g, hg, hst⟩)) q hq

theorem OneEach.arbitrate {s : State} (h : OneEach s) : OneEach (arbitrate s) := by
  unfold Machine.arbitrate
  generalize s.arbiter.pending.length = n
  induction n generalizing s with
  | zero => exact h
  | succ n ih =>
    unfold arbitrateUpTo
    split
    · exact ih (h.makeGrant _)
    · exact h

theorem OneEach.without {s : State} (h : OneEach s) (st : Fin 6) : OneEach (s.onArbiter (arbiterWithout st)) := fun q hp => by
  obtain ⟨g, hg, hq⟩ := permit_iff.mp hp
  have hnone := request_eq_none.mp (h q (permit_iff.mpr ⟨g, (List.mem_filter.mp hg).1, hq⟩))
  exact request_eq_none.mpr fun r hr => hnone r (List.mem_filter.mp hr).1

/-- R108: a station without grant and request. -/
def Dry (s : State) (st : Fin 6) : Prop :=
  s.permit st = false ∧ s.request st = none

theorem onArbiter_without_ne {s : State} {st q : Fin 6} (h : q ≠ st) :
    (s.onArbiter (arbiterWithout st)).permit q = s.permit q ∧
      (s.request q = none → (s.onArbiter (arbiterWithout st)).request q = none) := by
  refine ⟨Bool.eq_iff_iff.mpr ?_, fun hr => request_eq_none.mpr fun r hr' => request_eq_none.mp hr r (List.mem_filter.mp hr').1⟩
  rw [permit_iff, permit_iff]
  constructor
  · exact fun ⟨g, hg, hq⟩ => ⟨g, (List.mem_filter.mp hg).1, hq⟩
  · rintro ⟨g, hg, rfl⟩
    exact ⟨g, List.mem_filter.mpr ⟨hg, by simpa using h⟩, rfl⟩

/-! ## One station (R81) -/

/-- R81, R105: a station that has become OFFLINE; with a grant its meters are charged and its hold timer is idle. -/
def offlined (permit : Bool) (x : Station) : Station :=
  withoutGrant permit { x with mode := .offline }

/-- The part before arbitration, as a station becomes OFFLINE. -/
def offAndMetered (st : Fin 6) (s : State) : State :=
  meteredOff st (offlined (s.permit st) (s.station st)) s

theorem tookOffline_eq (st : Fin 6) (s : State) :
    tookOffline st s = waterDropped st (s.permit st || (s.request st).isSome) (offAndMetered st s) := rfl

theorem offAndMetered_state (st : Fin 6) (s : State) : offAndMetered st s = { s with
    jobs := (offAndMetered st s).jobs
    stations := s.stations.set st (offlined (s.permit st) (s.station st))
    link := (offAndMetered st s).link } := meteredOff_state ..

theorem station_offAndMetered_ne {st q : Fin 6} (h : q ≠ st) (s : State) : (offAndMetered st s).station q = s.station q := by
  rw [offAndMetered_state]
  exact get_set_ne _ _ _ _ h

theorem jobs_waterDropped (st : Fin 6) (had : Bool) (s : State) : (waterDropped st had s).jobs = s.jobs := by
  rw [waterDropped_state]

theorem pieces_meteredOff (st : Fin 6) (x : Station) (s : State) : (meteredOff st x s).jobs.pieces = s.jobs.pieces := by
  unfold meteredOff
  split
  · exact chargeMeters_pieces ..
  · rfl

theorem station_tookOffline_self (st : Fin 6) (s : State) :
    (tookOffline st s).station st = offlined (s.permit st) (s.station st) := by
  rw [tookOffline_eq, (waterDropped_gone ..).1, offAndMetered_state]
  exact get_set_self _ st _

theorem dry_tookOffline_self (st : Fin 6) (s : State) : Dry (tookOffline st s) st := by
  rw [tookOffline_eq]
  exact (waterDropped_gone ..).2

theorem tookOffline_state (st : Fin 6) (s : State) : tookOffline st s = { s with
    jobs := (offAndMetered st s).jobs
    stations := (tookOffline st s).stations
    arbiter := (tookOffline st s).arbiter
    link := (tookOffline st s).link } := by
  rw [tookOffline_eq, waterDropped_state, offAndMetered_state]

theorem tookOffline_arbiter (st : Fin 6) (s : State) : (tookOffline st s).arbiter =
    { s.arbiter with pending := (tookOffline st s).arbiter.pending, grants := (tookOffline st s).arbiter.grants } := by
  rw [tookOffline_eq, waterDropped]
  dsimp only
  have harbiter : (offAndMetered st s).arbiter = s.arbiter := by rw [offAndMetered_state]
  split
  · rw [arbitrate_arbiter, ← harbiter]
  · rw [← harbiter]

/-- R97: the accounts after a station has become OFFLINE. -/
theorem job_tookOffline (j : Fin 64) (st : Fin 6) (s : State) : (tookOffline st s).job j =
    if j = 0 ∧ s.permit st = true then (s.job j).map (meteredJob (s.station st) s.rates.water) else s.job j := by
  rw [State.job, tookOffline_eq, jobs_waterDropped]
  exact job_meteredOff j st _ s

theorem OneEach.tookOffline {s : State} (h : OneEach s) (st : Fin 6) : OneEach (tookOffline st s) := by
  have hmetered : OneEach (offAndMetered st s) := by
    rw [offAndMetered_state]
    exact h
  rw [tookOffline_eq]
  cases s.permit st || (s.request st).isSome with
  | true => exact (hmetered.without st).arbitrate
  | false => exact hmetered.without st

/-- R104: another station that asks for nothing is left as it is. -/
theorem tookOffline_of_absent {s : State} {st q : Fin 6} (hne : q ≠ st) (h : s.request q = none) :
    (tookOffline st s).station q = s.station q ∧ (tookOffline st s).permit q = s.permit q ∧ (tookOffline st s).request q = none := by
  have hpermit : (offAndMetered st s).permit q = s.permit q := by rw [offAndMetered_state]; rfl
  have hrequest : (offAndMetered st s).request q = none := by rw [offAndMetered_state]; exact h
  have hstation := station_offAndMetered_ne hne s
  obtain ⟨hp, hr⟩ := onArbiter_without_ne (s := offAndMetered st s) hne
  have hr := hr hrequest
  rw [tookOffline_eq]
  cases s.permit st || (s.request st).isSome with
  | true =>
    obtain ⟨h1, h2, -⟩ := arbitrate_of_absent hr
    exact ⟨h1.trans hstation, (permit_arbitrate_of_absent hr).trans (hp.trans hpermit), h2⟩
  | false => exact ⟨hstation, hp.trans hpermit, hr⟩

theorem Dry.tookOffline {s : State} {q : Fin 6} (h : Dry s q) (st : Fin 6) : Dry (tookOffline st s) q := by
  by_cases hq : q = st
  · subst hq
    exact dry_tookOffline_self q s
  · obtain ⟨-, hp, hr⟩ := tookOffline_of_absent hq h.2
    exact ⟨hp.trans h.1, hr⟩

/-! ## Several stations (R187) -/

/-- R187, step 1: stations that become OFFLINE, one after another. -/
def tookAllOffline (l : List (Fin 6)) (s : State) : State :=
  l.foldl (fun x st => tookOffline st x) s

theorem tookAllOffline_cons (st : Fin 6) (l : List (Fin 6)) (s : State) :
    tookAllOffline (st :: l) s = tookAllOffline l (tookOffline st s) := rfl

theorem Dry.tookAllOffline {s : State} {q : Fin 6} {l : List (Fin 6)} (h : q ∈ l ∨ Dry s q) : Dry (tookAllOffline l s) q := by
  induction l generalizing s with
  | nil => exact h.resolve_left List.not_mem_nil
  | cons st l ih =>
    refine ih ?_
    rcases h with h | h
    · rcases List.mem_cons.mp h with rfl | h
      · exact .inr (dry_tookOffline_self ..)
      · exact .inl h
    · exact .inr (h.tookOffline st)

theorem tookAllOffline_arbiter (l : List (Fin 6)) (s : State) : (tookAllOffline l s).arbiter = { s.arbiter with
    pending := (tookAllOffline l s).arbiter.pending, grants := (tookAllOffline l s).arbiter.grants } :=
  foldl_rel (R := fun a b : State => b.arbiter = { a.arbiter with pending := b.arbiter.pending, grants := b.arbiter.grants })
    (fun _ => rfl) (fun a b c h g => by rw [g, h]) _ (fun s st => tookOffline_arbiter st s) l s

theorem tookOffline_link (s : State) (st : Fin 6) : LinkKept s.link (tookOffline st s).link := by
  have hmetered : LinkKept s.link (offAndMetered st s).link := by
    unfold offAndMetered meteredOff
    split
    · exact chargeMeters_link ..
    · exact .refl _
  rw [tookOffline_eq]
  cases s.permit st || (s.request st).isSome with
  | true => exact hmetered.trans (arbitrate_water ((offAndMetered st s).onArbiter (arbiterWithout st))).link
  | false => exact hmetered

theorem tookAllOffline_link (l : List (Fin 6)) (s : State) : LinkKept s.link (tookAllOffline l s).link :=
  foldl_rel (R := fun a b : State => LinkKept a.link b.link) (fun _ => .refl _) (fun _ _ _ => .trans) _ tookOffline_link l s

/-- R187: with every station taken or without water, neither a request nor a grant is left. -/
theorem tookAllOffline_arbiter_of_all {l : List (Fin 6)} {s : State} (h : ∀ q, q ∈ l ∨ Dry s q) :
    (tookAllOffline l s).arbiter = { s.arbiter with pending := [], grants := [] } := by
  have hdry := fun q => Dry.tookAllOffline (h q)
  have hpending : (tookAllOffline l s).arbiter.pending = [] :=
    List.eq_nil_iff_forall_not_mem.mpr fun r hr => request_eq_none.mp (hdry r.station).2 r hr rfl
  have hgrants : (tookAllOffline l s).arbiter.grants = [] :=
    List.eq_nil_iff_forall_not_mem.mpr fun g hg => grant_eq_none.mp (permit_eq_false.mp (hdry g.station).1) g hg rfl
  rw [tookAllOffline_arbiter, hpending, hgrants]

/-- R81, R105: a station that asks for nothing is changed by its own turn alone. -/
theorem station_tookAllOffline {l : List (Fin 6)} (hl : l.Nodup) {s : State} {q : Fin 6} (h : s.request q = none) :
    (tookAllOffline l s).station q = if q ∈ l then offlined (s.permit q) (s.station q) else s.station q := by
  induction l generalizing s with
  | nil => rfl
  | cons st l ih =>
    obtain ⟨hst, hrest⟩ := List.nodup_cons.mp hl
    rw [tookAllOffline_cons]
    by_cases hq : q = st
    · subst hq
      rw [ih hrest (dry_tookOffline_self q s).2, if_neg hst, if_pos List.mem_cons_self, station_tookOffline_self]
    · obtain ⟨h1, h2, h3⟩ := tookOffline_of_absent hq h
      rw [ih hrest h3, h1, h2]
      exact if_congr (by simp [hq]) rfl rfl

/-! ## With no request pending -/

theorem tookOffline_of_quiet {s : State} (h : s.arbiter.pending = []) (st : Fin 6) :
    tookOffline st s = (offAndMetered st s).onArbiter (arbiterWithout st) := by
  rw [tookOffline_eq]
  cases s.permit st || (s.request st).isSome with
  | true =>
    refine arbitrate_of_empty (s := (offAndMetered st s).onArbiter (arbiterWithout st)) ?_
    rw [offAndMetered_state, onArbiter_arbiter, arbiterWithout]
    simp [h]
  | false => rfl

theorem pending_tookOffline_of_quiet {s : State} (h : s.arbiter.pending = []) (st : Fin 6) :
    (tookOffline st s).arbiter.pending = [] := by
  rw [tookOffline_of_quiet h, offAndMetered_state, onArbiter_arbiter, arbiterWithout]
  simp [h]

theorem request_of_quiet {s : State} (h : s.arbiter.pending = []) (q : Fin 6) : s.request q = none := by
  rw [State.request, h, List.find?_nil]

theorem filter_permit_tookOffline {s : State} (h : s.arbiter.pending = []) {st : Fin 6} {l : List (Fin 6)} (hst : st ∉ l) :
    l.filter (tookOffline st s).permit = l.filter s.permit :=
  List.filter_congr fun q hq => (tookOffline_of_absent (ne_of_mem_of_not_mem hq hst) (request_of_quiet h q)).2.1

/-- R97: the meters of the grants that stand, charged to job 0 in the order of the stations. -/
theorem job_tookAllOffline {l : List (Fin 6)} (hl : l.Nodup) {s : State} (h : s.arbiter.pending = []) :
    (tookAllOffline l s).job 0 =
      (s.job 0).map fun b => (l.filter s.permit).foldl (fun d st => meteredJob (s.station st) s.rates.water d) b := by
  induction l generalizing s with
  | nil => exact (Option.map_id' ..).symm
  | cons st l ih =>
    obtain ⟨hst, hl⟩ := List.nodup_cons.mp hl
    have hstation : ∀ q ∈ l, (tookOffline st s).station q = s.station q := fun q hq =>
      (tookOffline_of_absent (ne_of_mem_of_not_mem hq hst) (request_of_quiet h q)).1
    have hrates : (tookOffline st s).rates = s.rates := by rw [tookOffline_state]
    have hfold : ∀ b, (l.filter s.permit).foldl (fun d q => meteredJob ((tookOffline st s).station q) s.rates.water d) b =
        (l.filter s.permit).foldl (fun d q => meteredJob (s.station q) s.rates.water d) b := fun b =>
      List.foldl_ext _ _ _ fun d q hq => by rw [hstation q (List.mem_filter.mp hq).1]
    rw [tookAllOffline_cons, ih hl (pending_tookOffline_of_quiet h st), filter_permit_tookOffline h hst, job_tookOffline, hrates]
    simp only [hfold]
    cases hp : s.permit st with
    | true => simp [hp, Function.comp_def]
    | false => simp [hp]

/-- R97: the accounts and notices after a station has become OFFLINE are those after its meters are charged. -/
theorem SameMoney.tookOffline {y u : State} (h : SameMoney y u) {st : Fin 6} (hmeters : SameMeters (y.station st) (u.station st))
    (hquiet : u.arbiter.pending = []) :
    SameMoney (if u.permit st then Machine.chargeMeters st 0 y else y) (tookOffline st u) := by
  have hmoney : SameMoney (if u.permit st then Machine.chargeMeters st 0 y else y)
      (if u.permit st then Machine.chargeMeters st 0 u else u) := by
    split
    · exact h.chargeMeters hmeters 0
    · exact h
  rw [tookOffline_of_quiet hquiet]
  exact ⟨hmoney.jobs, hmoney.rates, hmoney.link⟩

theorem station_chargeMeters_ne {st q : Fin 6} (h : q ≠ st) (j : Fin 64) (s : State) :
    (chargeMeters st j s).station q = s.station q := by
  rw [State.station, stations_chargeMeters]
  exact get_set_ne _ _ _ _ h

/-- R97: the notices are those of the charges to the grants that stand. -/
theorem SameMoney.tookAllOffline {l : List (Fin 6)} (hl : l.Nodup) {y u : State} (h : SameMoney y u)
    (hmeters : ∀ q ∈ l, SameMeters (y.station q) (u.station q)) (hquiet : u.arbiter.pending = []) :
    SameMoney ((l.filter u.permit).foldl (fun x st => Machine.chargeMeters st 0 x) y) (tookAllOffline l u) := by
  induction l generalizing y u with
  | nil => exact h
  | cons st l ih =>
    obtain ⟨hst, hl⟩ := List.nodup_cons.mp hl
    have hstep := h.tookOffline (hmeters st List.mem_cons_self) hquiet
    have hrest : ∀ q ∈ l, SameMeters ((if u.permit st then Machine.chargeMeters st 0 y else y).station q)
        ((Machine.tookOffline st u).station q) := fun q hq => by
      have hne : q ≠ st := ne_of_mem_of_not_mem hq hst
      rw [(tookOffline_of_absent hne (request_of_quiet hquiet q)).1]
      split
      · rw [station_chargeMeters_ne hne]
        exact hmeters q (List.mem_cons_of_mem _ hq)
      · exact hmeters q (List.mem_cons_of_mem _ hq)
    have hih := ih hl hstep hrest (pending_tookOffline_of_quiet hquiet st)
    rw [filter_permit_tookOffline hquiet hst] at hih
    rw [tookAllOffline_cons]
    cases hp : u.permit st with
    | true => simpa [hp] using hih
    | false => simpa [hp] using hih

/-! ## The model's stations -/

/-- Two parts with the same jobs, rates, stations, arbiter, clean band and notices. -/
structure SameShop (u v : State) : Prop where
  jobs : v.jobs = u.jobs
  rates : v.rates = u.rates
  water : SameWater u v

theorem SameShop.job {u v : State} (h : SameShop u v) (j : Fin 64) : v.job j = u.job j := by
  rw [State.job, State.job, h.jobs]

/-- R81: the model's OFFLINE station is `tookOffline`'s. -/
theorem SameShop.takeOffline {u v : State} (h : SameShop u v) {st : Fin 6} (hone : u.permit st = true → u.request st = none) :
    SameShop (tookOffline st u) (takeOffline st v) := by
  obtain ⟨v', hv'⟩ : ∃ v', v' = v.onStation st fun x => { x with mode := .offline } := ⟨_, rfl⟩
  have hstation : v'.station st = { u.station st with mode := .offline } := by
    rw [hv', station_onStation_self, h.water.station]
  have hpermit : v'.permit st = u.permit st := by
    rw [hv']
    show (v.arbiter.grants.find? _).isSome = _
    rw [h.water.arbiter]; rfl
  have hrequest : v'.request st = u.request st := by
    rw [hv']
    show v.arbiter.pending.find? _ = _
    rw [h.water.arbiter]; rfl
  have htake : Machine.takeOffline st v = waterDropped st (u.permit st || (u.request st).isSome)
      (meteredOff st (offlined (u.permit st) (u.station st)) v') := by
    rw [Machine.takeOffline, ← hv', dropWater_eq (by rw [hpermit, hrequest]; exact hone), hpermit, hrequest, hstation]
    rfl
  have hjob : ∀ j, v'.job j = u.job j := fun j => by rw [hv']; exact h.job j
  have hrates : v'.rates = u.rates := by rw [hv']; exact h.rates
  have hmoney : SameMoney u v' := ⟨fun j => by rw [hjob], hrates, by rw [hv']; exact h.water.link⟩
  have hwater : SameWater (offAndMetered st u) (meteredOff st (offlined (u.permit st) (u.station st)) v') := by
    refine hmoney.meteredOff ?_ (by rw [hv']; exact h.water.arbiter) (by rw [hv']; exact h.water.clean) ?_
    · rw [hv', onStation_stations, Vector.set_set, h.water.stations]
    · rw [hstation]; exact ⟨rfl, rfl, rfl, rfl, rfl⟩
  have hjobs : (meteredOff st (offlined (u.permit st) (u.station st)) v').jobs = (offAndMetered st u).jobs := by
    refine jobTable_ext ?_ fun j => ?_
    · rw [pieces_meteredOff, offAndMetered, pieces_meteredOff, hv']
      exact congrArg JobTable.pieces h.jobs
    · refine (job_meteredOff j st _ v').trans ((job_meteredOff j st _ u).trans ?_).symm
      rw [hpermit, hstation, hrates, hjob]
      rfl
  refine ⟨?_, ?_, ?_⟩
  · rw [htake, tookOffline_eq, jobs_waterDropped, jobs_waterDropped, hjobs]
  · rw [htake, waterDropped_state, meteredOff_state, tookOffline_state]
    exact hrates
  · rw [htake, tookOffline_eq]
    exact hwater.dropped st _

end Sys2Proof.Machine
end

section
/-! CLOSE_SHOP (R187): the stations at work become OFFLINE, the plant is stopped and the shop is LOADING.  The statement O60. -/

namespace Sys2Proof.Machine

/-! ## The stations taken (R187, step 1) -/

/-- What stations that become OFFLINE can do. -/
structure OfflineFrame (s t : State) : Prop where
  state : t = { s with jobs := t.jobs, stations := t.stations, arbiter := t.arbiter, link := t.link }
  pieces : t.jobs.pieces = s.jobs.pieces
  other : ∀ j, j ≠ 0 → t.job j = s.job j
  link : LinkKept s.link t.link
  station : ∀ st, StationKept { s.station st with mode := (t.station st).mode } (t.station st)
  offline : ∀ st, (s.station st).mode = .offline → (t.station st).mode = .offline

theorem OfflineFrame.refl (s : State) : OfflineFrame s s := ⟨rfl, rfl, fun _ _ => rfl, .refl _, fun _ => rfl, fun _ => id⟩

theorem OfflineFrame.trans {s t u : State} (h : OfflineFrame s t) (g : OfflineFrame t u) : OfflineFrame s u where
  state := by rw [g.state, h.state]
  pieces := g.pieces.trans h.pieces
  other j hj := (g.other j hj).trans (h.other j hj)
  link := h.link.trans g.link
  station st := by
    have h1 := h.station st
    have h2 := g.station st
    unfold StationKept at *
    rw [h2, h1]
  offline st hst := g.offline st (h.offline st hst)

theorem WaterFrame.mode {s t : State} (h : WaterFrame s t) (st : Fin 6) : (t.station st).mode = (s.station st).mode := by
  have hkept := h.station st
  unfold StationKept at hkept
  rw [hkept]

theorem WaterFrame.offline {s t : State} (h : WaterFrame s t) : OfflineFrame s t :=
  ⟨h.state, h.pieces, h.other, h.link, fun st => by rw [h.mode]; exact h.station st, fun st => (h.mode st).trans⟩

theorem onStation_offline_frame (s : State) (st : Fin 6) :
    OfflineFrame s (s.onStation st fun x => { x with mode := .offline }) := by
  refine ⟨rfl, rfl, fun _ _ => rfl, .refl _, fun q => ?_, fun q hq => ?_⟩ <;> by_cases he : q = st
  · subst he; rw [station_onStation_self]; rfl
  · rw [station_onStation_ne _ _ _ _ he]; rfl
  · subst he; rw [station_onStation_self]
  · rwa [station_onStation_ne _ _ _ _ he]

theorem takeOffline_frame (s : State) (st : Fin 6) : OfflineFrame s (takeOffline st s) :=
  (onStation_offline_frame s st).trans (dropWater_water st _).offline

theorem mode_takeOffline_self (st : Fin 6) (s : State) : ((takeOffline st s).station st).mode = .offline :=
  (dropWater_water st _).offline.offline st (by rw [station_onStation_self])

theorem takeAllOffline_frame (l : List (Fin 6)) (s : State) : OfflineFrame s (l.foldl (fun t st => takeOffline st t) s) :=
  foldl_rel (R := OfflineFrame) .refl (fun _ _ _ => .trans) _ takeOffline_frame l s

theorem mode_takeAllOffline {l : List (Fin 6)} {s : State} {q : Fin 6} (h : q ∈ l) :
    ((l.foldl (fun t st => takeOffline st t) s).station q).mode = .offline := by
  induction l generalizing s with
  | nil => cases h
  | cons st l ih =>
    rcases List.mem_cons.mp h with rfl | h
    · exact (takeAllOffline_frame l _).offline q (mode_takeOffline_self q s)
    · exact ih h

/-- R187: the stations that are READY or LOADED. -/
def workingStations (s : State) : List (Fin 6) :=
  (List.finRange 6).filter fun st => decide ((s.station st).mode ≠ .offline)

theorem workingStations_nodup (s : State) : (workingStations s).Nodup := (List.nodup_finRange 6).filter _

theorem mem_workingStations {s : State} {st : Fin 6} : st ∈ workingStations s ↔ (s.station st).mode ≠ .offline := by
  simp [workingStations]

theorem filter_atWork (s : State) : allStations.filter (atWork s) = workingStations s := by
  refine List.filter_congr fun st _ => ?_
  rw [atWork, Bool.eq_iff_iff]
  simp

theorem closeStations_frame (s : State) : OfflineFrame s (closeStations s) := takeAllOffline_frame _ s

/-- R187: every station is OFFLINE. -/
theorem mode_closeStations (s : State) (st : Fin 6) : ((closeStations s).station st).mode = .offline := by
  by_cases h : (s.station st).mode = .offline
  · exact (closeStations_frame s).offline st h
  · refine mode_takeAllOffline ?_
    rw [filter_atWork]
    exact mem_workingStations.mpr h

theorem SameShop.takeAllOffline {u v : State} (h : SameShop u v) (hone : OneEach u) (l : List (Fin 6)) :
    SameShop (tookAllOffline l u) (l.foldl (fun t st => Machine.takeOffline st t) v) := by
  induction l generalizing u v with
  | nil => exact h
  | cons st l ih => exact ih (h.takeOffline (hone st)) (hone.tookOffline st)

theorem sameShop_takeFrame (n : Nat) (s : State) : SameShop s (takeFrame n s) := ⟨rfl, rfl, rfl, rfl, rfl, rfl, rfl⟩

/-- R187, step 1: the model's stations, after the frame is taken. -/
theorem closeStations_same {s : State} (hone : OneEach s) (n : Nat) :
    SameShop (tookAllOffline (workingStations s) s) (closeStations (takeFrame n s)) := by
  rw [closeStations, filter_atWork]
  exact (sameShop_takeFrame n s).takeAllOffline hone _

/-! ## The plant stopped (R130) -/

/-- R130: the plant held in STOPPED. -/
def stoppedPlant (p : Plant) : Plant :=
  if p.cycle = .stopped then p else { p with cycle := .stopped, remembered := some ⟨p.cycle, p.counter⟩ }

/-- R119, R130: the notice of the plant's stop. -/
def stopPosts (p : Plant) (l : Link) : Link :=
  if p.cycle = .stopped then l else postNotice .plantPhase 0 l

theorem stopPlant_state (s : State) : stopPlant s = { s with plant := stoppedPlant s.plant, link := stopPosts s.plant s.link } := by
  unfold stopPlant stoppedPlant stopPosts
  split <;> rfl

theorem cycle_stoppedPlant (p : Plant) : (stoppedPlant p).cycle = .stopped := by
  unfold stoppedPlant
  split
  · assumption
  · rfl

theorem clean_stoppedPlant (p : Plant) : (stoppedPlant p).clean = p.clean := by
  unfold stoppedPlant
  split <;> rfl

theorem stopPosts_kept (p : Plant) (l : Link) : LinkKept l (stopPosts p l) := by
  unfold stopPosts
  split
  · exact .refl l
  · exact postNotice_kept ..

/-! ## The shop closed -/

/-- R187: with no water left after the stations, the plant is stopped and the floor is LOADING's. -/
theorem closeShop_of_dry {s v : State} (hv : closeStations s = v) (hpending : v.arbiter.pending = []) (hgrants : v.arbiter.grants = []) :
    closeShop s = { v with
      arbiter := { v.arbiter with floor := max (tableTerm v) 7 }
      plant := stoppedPlant v.plant
      link := { stopPosts v.plant v.link with mode := .loading } } := by
  have htable : tableTerm (stopPlant v) = tableTerm v := by
    rw [stopPlant_state, tableTerm, tableTerm, clean_stoppedPlant]
  have hfloor : max (tableTerm v) (max (sumpTerm (stopPlant v)) 7) = max (tableTerm v) 7 := by
    rw [Nat.max_eq_right (sumpTerm_le _)]
  have hp : (stopPlant v).arbiter.pending = [] := by rw [stopPlant_state]; exact hpending
  have hg : (stopPlant v).arbiter.grants = [] := by rw [stopPlant_state]; exact hgrants
  rw [closeShop, hv, changeMode_of_still hp hg, if_pos rfl, htable, hfloor, stopPlant_state]

/-- R187: the answer of a CLOSE_SHOP that passes its checks. -/
theorem closeShopReply_of_ok {s : State} (hmode : s.link.mode = .running) (hissued : ∀ st, (s.station st).issued = none) :
    closeShopReply s = ⟨closeShop s, .ok, be 1 (workingStations s).length ++ be 1 (cycleCode (closeShop s).plant.cycle) ++
      optByte ((closeShop s).plant.remembered.map fun r => cycleCode r.phase)⟩ := by
  have hnone : allStations.any (holdsIssued s) = false :=
    List.any_eq_false.mpr fun st _ => by rw [holdsIssued, hissued st]; exact Bool.false_ne_true
  rw [closeShopReply, if_neg (by rw [hmode]; decide), hnone, filter_atWork]
  rfl

theorem length_workingStations (s : State) :
    (workingStations s).length = (List.finRange 6).countP fun st => decide ((s.station st).mode ≠ .offline) :=
  List.countP_eq_length_filter.symm

theorem link_ext {l m : Link} (h1 : l.response = m.response) (h2 : l.held = m.held) (h3 : l.notices = m.notices)
    (h4 : l.overflow = m.overflow) (h5 : l.mode = m.mode) (h6 : l.miso = m.miso) : l = m := by
  cases l
  cases m
  simp only at h1 h2 h3 h4 h5 h6
  subst h1 h2 h3 h4 h5 h6
  rfl

/-- R187: a CLOSE_SHOP that passes its checks, written with the stations taken by `tookOffline`. -/
theorem exec_closeShop {s w : State} (hmode : s.link.mode = .running) (hone : OneEach s) (hissued : ∀ st, (s.station st).issued = none)
    (hdry : ∀ st, (s.station st).mode = .offline → Dry s st) (hw : w = tookAllOffline (workingStations s) s) :
    exec .closeShop s = .next { s with
      jobs := w.jobs
      stations := w.stations
      arbiter := { s.arbiter with pending := [], grants := [], floor := max (tableTerm s) 7 }
      plant := stoppedPlant s.plant
      link := { answeredLink s 0 .ok (be 1 ((List.finRange 6).countP fun st => decide ((s.station st).mode ≠ .offline)) ++ be 1 7 ++
            optByte ((stoppedPlant s.plant).remembered.map fun r => cycleCode r.phase)) with
        mode := .loading
        notices := (stopPosts s.plant w.link).notices
        overflow := (stopPosts s.plant w.link).overflow } } := by
  obtain ⟨v, hv⟩ : ∃ v, closeStations (takeFrame 2 s) = v := ⟨_, rfl⟩
  have hsame : SameShop w v := by rw [hw, ← hv]; exact closeStations_same hone 2
  have hframe : OfflineFrame (takeFrame 2 s) v := hv ▸ closeStations_frame _
  have hall : ∀ st, st ∈ workingStations s ∨ Dry s st := fun st =>
    (em _).imp mem_workingStations.mpr fun h => hdry st (not_not.mp h)
  have harbiter : v.arbiter = { s.arbiter with pending := [], grants := [] } := by
    rw [hsame.water.arbiter, hw, tookAllOffline_arbiter_of_all hall]
  have hplant : v.plant = s.plant := by rw [hframe.state]; rfl
  have hposts : SameNotices (stopPosts s.plant w.link) (stopPosts s.plant v.link) :=
    hsame.water.link.ite (hsame.water.link.post ..)
  have hkept := hframe.link.trans (stopPosts_kept s.plant v.link)
  have hclosed := closeShop_of_dry hv (by rw [harbiter]) (by rw [harbiter])
  have htable : tableTerm v = tableTerm s := by rw [tableTerm, harbiter, hplant]; rfl
  rw [htable, hplant, harbiter] at hclosed
  rw [exec, execCloseShop, serve_of_work (closeShopReply_of_ok (s := takeFrame 2 s) hmode hissued), hclosed, cycle_stoppedPlant,
    length_workingStations]
  refine congrArg Host.Outcome.next ?_
  rw [hframe.state]
  refine state_eq rfl hsame.jobs rfl rfl hsame.water.stations rfl rfl rfl ?_ rfl rfl
  exact link_ext rfl rfl hposts.notices hposts.overflow rfl hkept.miso

/-- R81, R187: what the stations taken leave of the part: their records but for timers and snapshots, the pieces, and every job but
job 0. -/
theorem closed_records {s w : State} (hone : OneEach s) (hw : w = tookAllOffline (workingStations s) s) :
    (∀ st, StationKept { s.station st with mode := .offline } (w.station st)) ∧ w.jobs.pieces = s.jobs.pieces ∧
      ∀ j, j ≠ 0 → w.job j = s.job j := by
  have hsame : SameShop w (closeStations (takeFrame 2 s)) := hw ▸ closeStations_same hone 2
  have hframe := closeStations_frame (takeFrame 2 s)
  refine ⟨fun st => ?_, ?_, fun j hj => ?_⟩
  · rw [← hsame.water.station, ← mode_closeStations (takeFrame 2 s) st]
    exact hframe.station st
  · rw [← hsame.jobs]
    exact hframe.pieces
  · rw [← hsame.job]
    exact hframe.other j hj

/-- R105, R187: a station that asked for nothing. -/
theorem closed_station {s w : State} {st : Fin 6} (hdry : (s.station st).mode = .offline → Dry s st)
    (hw : w = tookAllOffline (workingStations s) s) (h : s.request st = none) :
    w.station st = offlined (s.permit st) (s.station st) := by
  rw [hw, station_tookAllOffline (workingStations_nodup s) h]
  split
  · rfl
  · rename_i hout
    have hmode : (s.station st).mode = .offline := by simpa [mem_workingStations] using hout
    rw [(hdry hmode).1]
    show s.station st = { s.station st with mode := .offline }
    rw [← hmode]

/-- R186: the stations whose grants stand are at work. -/
theorem filter_workingStations {s : State} (hdry : ∀ st, (s.station st).mode = .offline → Dry s st) :
    (workingStations s).filter s.permit = (List.finRange 6).filter s.permit := by
  rw [workingStations, List.filter_filter]
  refine List.filter_congr fun st _ => ?_
  cases hp : s.permit st with
  | false => rfl
  | true =>
    have hmode : (s.station st).mode ≠ .offline := fun hm => by
      rw [(hdry st hm).1] at hp
      cases hp
    simpa using hmode

/-- R97, R187: the charges and notices of a shop closed with no request pending. -/
theorem closed_charges {s w : State} (hdry : ∀ st, (s.station st).mode = .offline → Dry s st)
    (hw : w = tookAllOffline (workingStations s) s) (hquiet : s.arbiter.pending = []) :
    (w.job 0 = (s.job 0).map fun b =>
      ((List.finRange 6).filter s.permit).foldl (fun d st => meteredJob (s.station st) s.rates.water d) b) ∧
    w.link = (((List.finRange 6).filter s.permit).foldl (fun x st => chargeMeters st 0 x) s).link := by
  have hnodup := workingStations_nodup s
  rw [← filter_workingStations hdry]
  refine ⟨by rw [hw, job_tookAllOffline hnodup hquiet], ?_⟩
  have hmoney := (SameMoney.refl s).tookAllOffline hnodup (fun _ _ => ⟨rfl, rfl, rfl, rfl, rfl⟩) hquiet
  have hcharged : LinkKept s.link (((workingStations s).filter s.permit).foldl (fun x st => chargeMeters st 0 x) s).link :=
    foldl_rel (R := fun a b : State => LinkKept a.link b.link) (fun _ => .refl _) (fun _ _ _ => .trans) _
      (fun x st => chargeMeters_link st 0 x) _ s
  have hkept := tookAllOffline_link (workingStations s) s
  rw [hw]
  exact link_ext (hkept.response.trans hcharged.response.symm) (hkept.held.trans hcharged.held.symm) hmoney.link.notices
    hmoney.link.overflow (hkept.mode.trans hcharged.mode.symm) (hkept.miso.trans hcharged.miso.symm)

/-! ## The statement -/

/-- Settles O60: OPEN_SHOP by `exec_openShop_of_still`, CLOSE_SHOP by `exec_closeShop` and what its stations leave, and the refusals. -/
theorem openAndCloseShop : Obligations.OpenAndCloseShop := by
  unfold Obligations.OpenAndCloseShop
  refine ⟨fun s shortMin longMin hmode hpending hgrants => exec_openShop_of_still hmode hpending hgrants shortMin longMin, ?_,
    fun s shortMin longMin hmode => exec_openShop_of_running hmode shortMin longMin, fun s hmode => exec_closeShop_of_loading hmode,
    fun s st hmode hissued => serve_of_answer (closeShopReply_of_issued (s := takeFrame 2 s) hmode hissued), fun s hmode => ?_⟩
  · intro s b hmode hwater hissued hdry hb
    have hone : OneEach s := fun st hp => hwater.request_of_permit hp
    obtain ⟨w, hw⟩ : ∃ w, w = tookAllOffline (workingStations s) s := ⟨_, rfl⟩
    obtain ⟨hstation, hpieces, hother⟩ := closed_records hone hw
    have hquiet : ∀ st, s.request st = none → w.station st = offlined (s.permit st) (s.station st) := fun st =>
      closed_station (hdry st) hw
    refine ⟨w, _, hw, exec_closeShop hmode hone hissued hdry hw, rfl, hstation, fun st hp => ?_, hpieces, hother, fun hpending => ?_⟩
    · have hst : w.station st = offlined true (s.station st) := hp ▸ hquiet st (hone st hp)
      exact ⟨congrArg Station.hold hst, congrArg Station.runSnap hst, congrArg Station.waterSnap hst⟩
    · obtain ⟨hjob, hlink⟩ := closed_charges hdry hw hpending
      rw [hb] at hjob
      exact ⟨hjob, hlink, fun st => hquiet st (request_of_quiet hpending st)⟩
  · obtain ⟨honline, hload, hnext, hstart⟩ := loading_refuses hmode
    exact ⟨honline, hload, hnext, hstart, fun station serial check h => exec_loadSlab_of_badTag h station s,
      fun station h => station_out_of_range h s⟩

end Sys2Proof.Machine
end

section
/-! BAD_FRAME (R180): the checks a frame can fail, in their order, and the answer to each (O8). -/

namespace Sys2Proof.Machine

/-! ## What the frame checks read is never a refused frame -/

theorem plantSetting_ne_badFrame (name value : Nat) (bytes : List Byte) : plantSetting name value ≠ .badFrame bytes := by
  unfold plantSetting
  split <;> exact nofun

theorem planPart_ne_badFrame (plan part first : Nat) (bytes : List Byte) : planPart plan part first ≠ some (.badFrame bytes) := by
  unfold planPart
  split <;> exact nofun

/-- Every kind's fields spell the kind's own command; READ_PLAN and PLANT_SET are told by a field. -/
theorem requestOf_kindWidths_ne_badFrame {kind : Nat} (hpos : 0 < kind) (hmax : kind ≤ 47) (body bytes : List Byte) :
    requestOf kind (splitFields (kindWidths kind) body) ≠ some (.badFrame bytes) := by
  intro h
  interval_cases kind
  all_goals try cases h
  · exact planPart_ne_badFrame _ _ _ _ h
  · exact plantSetting_ne_badFrame _ _ _ (Option.some.inj h)

theorem requestOf_formWidths_ne_badFrame {kind form : Nat} {ws : List Nat} (hws : formWidths kind form = some ws)
    (body bytes : List Byte) : requestOf kind (splitFields ws body) ≠ some (.badFrame bytes) := by
  unfold formWidths at hws
  split at hws <;> cases hws <;> exact nofun

theorem readBody_ne_badFrame {kind : Nat} {fields : List Nat} {bytes : List Byte}
    (h : requestOf kind fields ≠ some (.badFrame bytes)) : readBody kind fields ≠ .request (.badFrame bytes) := by
  unfold readBody
  split
  · rename_i i hi
    exact fun he => h (FrameReading.request.inj he ▸ hi)
  · exact nofun

theorem readSized_ne_badFrame {kind : Nat} (hpos : 0 < kind) (hmax : kind ≤ 47) (body bytes : List Byte) :
    readSized kind body ≠ .request (.badFrame bytes) := by
  unfold readSized
  split
  · cases body with
    | nil => exact nofun
    | cons b rest =>
      dsimp only
      split
      · exact nofun
      · rename_i ws hws
        split
        · exact readBody_ne_badFrame (requestOf_formWidths_ne_badFrame hws _ _)
        · exact nofun
  · split
    · exact readBody_ne_badFrame (requestOf_kindWidths_ne_badFrame hpos hmax _ _)
    · exact nofun

/-! ## The frame checks, in their order (R180) -/

theorem ne_zero_of_not_null {n : Byte} {rest : List Byte} (hnull : readFrame (n :: rest) ≠ .null) : n ≠ 0 := by
  rintro rfl
  exact hnull rfl

theorem readFrame_of_short {bytes : List Byte} (hlen : bytes.length < 2) (hnull : readFrame bytes ≠ .null) :
    readFrame bytes = .badLength := by
  match bytes, hlen with
  | [], _ => rfl
  | [_], _ => exact if_neg (ne_zero_of_not_null hnull)

/-- The first two checks of a frame with a kind byte, and then its body's. -/
theorem readFrame_of_kind {n kind : Byte} {body : List Byte} (hnull : readFrame (n :: kind :: body) ≠ .null) :
    readFrame (n :: kind :: body) =
      if 63 < n.toNat ∨ (n :: kind :: body).length ≠ n.toNat + 1 then .badLength
      else if kind = 0 ∨ 47 < kind.toNat then .badKind
      else readSized kind.toNat body :=
  if_neg (ne_zero_of_not_null hnull)

theorem readFrame_ne_badFrame (bytes b : List Byte) : readFrame bytes ≠ .request (.badFrame b) := by
  intro h
  have hnull : readFrame bytes ≠ .null := by rw [h]; exact nofun
  match bytes with
  | [] => cases h
  | [n] =>
    rw [readFrame_of_short (by simp) hnull] at h
    cases h
  | n :: kind :: body =>
    rw [readFrame_of_kind hnull] at h
    split at h
    · cases h
    · split at h
      · cases h
      · rename_i hkind
        obtain ⟨hzero, hmax⟩ := not_or.mp hkind
        have hpos : 0 < kind.toNat := Nat.pos_of_ne_zero fun h0 => hzero (BitVec.eq_of_toNat_eq h0)
        exact readSized_ne_badFrame hpos (Nat.le_of_not_lt hmax) body b h

/-- The event BAD_FRAME comes about for bytes that the frame checks read as neither a null frame nor a request. -/
theorem readFrame_of_wellFormed {bytes : List Byte} (h : WellFormed (.badFrame bytes) = true) :
    readFrame bytes ≠ .null ∧ ∀ i, readFrame bytes ≠ .request i := by
  have hdecode : decodeTransaction bytes = .badFrame bytes := by
    simpa [WellFormed, requestFits, requestFields, shapeFits] using h
  unfold decodeTransaction at hdecode
  refine ⟨fun hnull => ?_, fun i hi => ?_⟩
  · rw [hnull] at hdecode
    cases hdecode
  · rw [hi] at hdecode
    subst hdecode
    exact readFrame_ne_badFrame bytes bytes hi

/-! ## The body's checks (R180, R112, R114, R60) -/

theorem readSized_of_wrongSize {kind : Nat} {body : List Byte} (hforms : hasForms kind = false)
    (hlen : body.length ≠ (kindWidths kind).sum) : readSized kind body = .badLength := by
  simp [readSized, hforms, hlen]

theorem readSized_of_noForm {kind : Nat} (hforms : hasForms kind = true) : readSized kind [] = .badLength := by
  simp [readSized, hforms]

theorem readSized_of_unknownForm {kind : Nat} {b : Byte} (rest : List Byte) (hforms : hasForms kind = true)
    (hform : formWidths kind b.toNat = none) : readSized kind (b :: rest) = .unknownForm := by
  simp [readSized, hforms, hform]

theorem readSized_of_wrongFormSize {kind : Nat} {b : Byte} {rest : List Byte} {ws : List Nat} (hforms : hasForms kind = true)
    (hform : formWidths kind b.toNat = some ws) (hlen : (b :: rest).length ≠ ws.sum) : readSized kind (b :: rest) = .badLength := by
  unfold readSized
  rw [if_pos hforms]
  dsimp only
  rw [hform]
  exact if_neg hlen

theorem readBody_of_no_request {kind : Nat} {fields : List Nat} (h : ∀ i, readBody kind fields ≠ .request i) :
    readBody kind fields = .unknownPart (fields.headD 0) := by
  unfold readBody at h ⊢
  split at h
  · rename_i i _
    exact absurd rfl (h i)
  · rfl

theorem readSized_of_readPlan {plan part first : Byte} (h : ∀ i, readSized 0x17 [plan, part, first] ≠ .request i) :
    readSized 0x17 [plan, part, first] = .unknownPart plan.toNat := by
  have hsize : readSized 0x17 [plan, part, first] = readBody 0x17 [ofBe [plan], ofBe [part], ofBe [first]] := rfl
  rw [hsize] at h ⊢
  exact (readBody_of_no_request h).trans (congrArg FrameReading.unknownPart (by simp [ofBe]))

/-! ## The answer to a frame refused -/

/-- The status with which a frame so read is refused in the state `s`; a null frame and a request are not refused. -/
def RefusedWith (s : State) (status : Status) : FrameReading → Prop
  | .badLength => status = .badLength
  | .badKind => status = .badKind
  | .unknownForm => status = .badField
  | .unknownPart plan => (15 < plan → status = .badField) ∧
      ∀ p : Fin 16, p.val = plan → (s.plan p = none → status = .notFound) ∧ ((s.plan p).isSome = true → status = .badField)
  | .null => False
  | .request _ => False

/-- R60, R75: a READ_PLAN of no part is refused without a body, whatever the plan number's checks find. -/
theorem withPlan_refuses (plan : Nat) (s : State) : ∃ status,
    withPlan plan (fun _ _ => refuse s .badField) s = refuse s status ∧ RefusedWith s status (.unknownPart plan) := by
  unfold withPlan
  by_cases hplan : 15 < plan
  · rw [if_pos hplan]
    exact ⟨_, rfl, fun _ => rfl, fun p hp => by omega⟩
  · rw [if_neg hplan]
    have hslot : ∀ p : Fin 16, p.val = plan → p = Fin.ofNat 16 plan := fun p hp => by rw [← hp, Fin.ofNat_val_eq_self]
    cases hs : s.plan (Fin.ofNat 16 plan) with
    | none => exact ⟨_, rfl, fun h => absurd h hplan, fun p hp => by rw [hslot p hp, hs]; exact ⟨fun _ => rfl, nofun⟩⟩
    | some x => exact ⟨_, rfl, fun h => absurd h hplan, fun p hp => by rw [hslot p hp, hs]; exact ⟨nofun, fun _ => rfl⟩⟩

/-- R180: a frame that is neither a null frame nor a request is answered with an empty body, and no record changes. -/
theorem answerBadFrame_refuses {bytes : List Byte} (s : State) (hnull : readFrame bytes ≠ .null)
    (hrequest : ∀ i, readFrame bytes ≠ .request i) : ∃ status, RefusedWith s status (readFrame bytes) ∧
      answerBadFrame bytes s = putResponse status [] (takeFrame bytes.length s) := by
  unfold answerBadFrame
  cases hread : readFrame bytes with
  | null => exact absurd hread hnull
  | request i => exact absurd hread (hrequest i)
  | badLength => exact ⟨.badLength, rfl, rfl⟩
  | badKind => exact ⟨.badKind, rfl, rfl⟩
  | unknownForm => exact ⟨.badField, rfl, rfl⟩
  | unknownPart plan =>
    obtain ⟨status, hwork, hstatus⟩ := withPlan_refuses plan (takeFrame bytes.length s)
    refine ⟨status, hstatus, ?_⟩
    dsimp only [answerFrame]
    rw [hwork]
    rfl

/-- Settles O8: the frame is answered with the status of its reading, and each check decides that reading. -/
theorem badFrameAnswered : Obligations.BadFrameAnswered := by
  unfold Obligations.BadFrameAnswered
  intro bytes s hwf
  obtain ⟨hnull, hrequest⟩ := readFrame_of_wellFormed hwf
  obtain ⟨status, hstatus, hanswer⟩ := answerBadFrame_refuses s hnull hrequest
  refine ⟨status, congrArg _ hanswer, fun hshort => ?_, ?_⟩
  · rwa [readFrame_of_short hshort hnull] at hstatus
  rintro n kind body rfl
  rw [readFrame_of_kind hnull] at hstatus hrequest
  refine ⟨fun hlen => by rwa [if_pos hlen] at hstatus, fun hn hlen => ?_⟩
  rw [if_neg (by omega)] at hstatus hrequest
  refine ⟨fun hkind => by rwa [if_pos hkind] at hstatus, fun hpos hmax => ?_⟩
  have hkind : ¬(kind = 0 ∨ 47 < kind.toNat) := by
    rintro (rfl | h)
    · exact absurd hpos (by decide)
    · omega
  rw [if_neg hkind] at hstatus hrequest
  refine ⟨fun hforms hsize => ?_, ?_, ?_, ?_⟩
  · rwa [readSized_of_wrongSize hforms hsize] at hstatus
  · rintro hforms rfl
    rwa [readSized_of_noForm hforms] at hstatus
  · rintro b rest hforms rfl
    refine ⟨fun hform => ?_, fun ws hform hsize => ?_⟩
    · rwa [readSized_of_unknownForm rest hforms hform] at hstatus
    · rwa [readSized_of_wrongFormSize hforms hform hsize] at hstatus
  · rintro plan part first rfl rfl
    rwa [show (0x17 : Byte).toNat = 0x17 from rfl, readSized_of_readPlan hrequest] at hstatus

end Sys2Proof.Machine
end

section
/-! CANCEL_JOB (R171 to R175): the job's records taken out, and then the plans with a voided placement one after the other (O45). -/

namespace Sys2Proof.Machine

/-! ## One piece, one placement, one plan, one station (R172, R173) -/

theorem cancelDeletes_eq : cancelDeletes = fun x => decide (x.state ≠ .issued ∧ x.state ≠ .cut) :=
  funext fun x => by simp [cancelDeletes, bne, beq_eq_decide]

theorem voids_eq (j : Fin 64) : voids j = fun y => decide (y.state = some .queued ∧ y.piece.job = j) :=
  funext fun y => by simp [voids, beq_eq_decide]

theorem voidPlacement_eq (j : Fin 64) :
    voidPlacement j = fun y => if y.state = some .queued ∧ y.piece.job = j then { y with state := some .void } else y :=
  funext fun y => by simp [voidPlacement, voids_eq, withState]

theorem cancelInPlan_committed {x : Plan} {kerf rate : Nat} {l : Layout} (h : x.phase = .committed kerf l rate) (j : Fin 64) :
    cancelInPlan j x = { x with phase := .committed kerf { l with placements := l.placements.map (voidPlacement j) } rate } := by
  obtain ⟨-, -, -, -, -, -, -, hbefore⟩ := committed_views h
  simp [cancelInPlan, hbefore, onPlacements, onLayout, h]

theorem cancelInPlan_cutting {x : Plan} {kerf rate : Nat} {l : Layout} (h : x.phase = .cutting kerf l rate) (j : Fin 64) :
    cancelInPlan j x = { x with phase := .cutting kerf { l with placements := l.placements.map (voidPlacement j) } rate } := by
  obtain ⟨-, -, -, -, -, -, -, hbefore⟩ := cutting_views h
  simp [cancelInPlan, hbefore, onPlacements, onLayout, h]

theorem cancelInPlan_spared {x : Plan} {j : Fin 64} (hbefore : beforeCommit x = true) (hnone : ∀ i ∈ x.pieces, i.job ≠ j) :
    cancelInPlan j x = x := by
  have hany : ¬(x.pieces.any fun i => i.job == j) = true := by simpa using hnone
  rw [cancelInPlan, if_pos hbefore, if_neg hany]

theorem cancelInPlan_redrafted {x : Plan} {j : Fin 64} (hbefore : beforeCommit x = true) (hsome : ∃ i ∈ x.pieces, i.job = j) :
    cancelInPlan j x = redraft (x.pieces.filter fun i => decide (i.job ≠ j)) x := by
  have hany : (x.pieces.any fun i => i.job == j) = true := by simpa using hsome
  have htest : (fun i : PieceId => i.job != j) = fun i => decide (i.job ≠ j) := funext fun i => by simp [bne, beq_eq_decide]
  rw [cancelInPlan, if_pos hbefore, if_pos hany, htest]

theorem cancelInQueue_eq (j : Fin 64) (x : Station) :
    cancelInQueue j x = { x with queue := x.queue.filter fun e => decide (e.piece.job ≠ j ∨ x.issued = some e) } := by
  have htest : (fun e : CutEntry => e.piece.job != j || x.issued == some e) = fun e => decide (e.piece.job ≠ j ∨ x.issued = some e) :=
    funext fun e => by simp [bne, beq_eq_decide]
  rw [cancelInQueue, htest]

/-! ## The job's records taken out (R171 to R173) -/

/-- R171 to R173: the cancellation of a job before the plans with a voided placement are taken. -/
def cancelStart (j : Fin 64) (s : State) : State :=
  cancelPieces j (s.modJob j fun b => { b with state := .cancelling })

section
variable (j : Fin 64) (s : State)

theorem cancelStart_state : cancelStart j s = { s with
    jobs := (cancelStart j s).jobs
    plans := (cancelStart j s).plans
    stations := (cancelStart j s).stations } := by
  have hpieces := cancelPieces_state j (s.modJob j fun b => { b with state := .cancelling })
  have hmark := modJob_state j (fun b => { b with state := .cancelling }) s
  unfold cancelStart
  generalize cancelPieces j (s.modJob j fun b => { b with state := .cancelling }) = u at *
  generalize s.modJob j (fun b => { b with state := .cancelling }) = v at *
  rw [hpieces, hmark]

theorem cancelStart_job (q : Fin 64) : (cancelStart j s).job q =
    if q = j then (s.job q).map fun b => { b with state := .cancelling } else s.job q := by
  rw [← job_modJob, cancelStart, cancelPieces_state]
  rfl

theorem cancelStart_pieces : (cancelStart j s).jobs.pieces =
    s.jobs.pieces.filter fun x => decide (x.id.job ≠ j ∨ x.state = .issued ∨ x.state = .cut) := by
  have htest : (fun x : Piece => !(x.id.job == j && cancelDeletes x)) =
      fun x => decide (x.id.job ≠ j ∨ x.state = .issued ∨ x.state = .cut) := funext fun x => by
    simp [cancelDeletes, bne, beq_eq_decide]
  rw [cancelStart, cancelPieces_state]
  dsimp only [deletePieces]
  rw [htest, modJob_pieces]

theorem cancelStart_queue : (cancelStart j s).plans.queue = s.plans.queue := by
  rw [cancelStart, cancelPieces_state, modJob_state]

theorem cancelStart_plan (p : Fin 16) : (cancelStart j s).plan p = (s.plan p).map (cancelInPlan j) := by
  rw [cancelStart, plan_cancelPieces, modJob_state]
  rfl

theorem cancelStart_station (st : Fin 6) : (cancelStart j s).station st = { s.station st with
    queue := (s.station st).queue.filter fun e => decide (e.piece.job ≠ j ∨ (s.station st).issued = some e) } := by
  rw [cancelStart, station_cancelPieces, cancelInQueue_eq, modJob_state]
  rfl

end

/-! ## One plan with a voided placement (R174) -/

section
variable {c : CancelTally} {p : Fin 16} {x : Plan} {kerf rate : Nat} {l : Layout}

theorem cancelPlan_committed (hx : c.state.plan p = some x) (hphase : x.phase = .committed kerf l rate) : cancelPlan c p =
    if allVoid l.placements then { c with state := unwindCommitted p c.state, unwound := c.unwound + 1 } else c := by
  simp only [cancelPlan, hx, hphase]

theorem cancelPlan_cutting (hx : c.state.plan p = some x) (hphase : x.phase = .cutting kerf l rate) : cancelPlan c p =
    { c with
      state := (closeCheck p c.state).state
      closed := if (closeCheck p c.state).report.isSome then c.closed + 1 else c.closed
      report := if c.report.isSome then c.report else (closeCheck p c.state).report } := by
  simp only [cancelPlan, hx, hphase]

theorem cancelPlan_before (hx : c.state.plan p = some x) (hbefore : beforeCommit x = true) : cancelPlan c p = c := by
  cases hphase : x.phase with
  | draft | laying _ | laid _ _ => simp only [cancelPlan, hx, hphase]
  | committed _ _ _ | cutting _ _ _ => simp [beforeCommit, isCommittedOrCutting, isCommitted, isCutting, hphase] at hbefore

theorem cancelPlan_free (hx : c.state.plan p = none) : cancelPlan c p = c := by
  simp only [cancelPlan, hx]

end

/-- R174: what becomes of one plan with a voided placement, counted from nothing. -/
def cancelTake (s : State) (p : Fin 16) : CancelTally :=
  cancelPlan ⟨s, 0, 0, none⟩ p

/-- A plan's outcome adds to the tally of the plans before it, and its report counts where none stands. -/
theorem cancelPlan_eq (c : CancelTally) (p : Fin 16) : cancelPlan c p =
    ⟨(cancelTake c.state p).state, c.unwound + (cancelTake c.state p).unwound,
      c.closed + (if (cancelTake c.state p).report.isSome then 1 else 0), c.report.or (cancelTake c.state p).report⟩ := by
  obtain ⟨v, unwound, closed, report⟩ := c
  unfold cancelTake
  dsimp only
  cases hx : v.plan p with
  | none =>
    have hstands := fun k m r => cancelPlan_free (c := ⟨v, k, m, r⟩) hx
    rw [hstands, hstands]; simp
  | some x =>
    cases hphase : x.phase with
    | draft | laying _ | laid _ _ =>
      have hbefore : beforeCommit x = true := by simp [beforeCommit, isCommittedOrCutting, isCommitted, isCutting, hphase]
      have hstands := fun k m r => cancelPlan_before (c := ⟨v, k, m, r⟩) hx hbefore
      rw [hstands, hstands]; simp
    | committed kerf l rate =>
      have hunwinds := fun k m r => cancelPlan_committed (c := ⟨v, k, m, r⟩) hx hphase
      rw [hunwinds, hunwinds]
      split <;> simp
    | cutting kerf l rate =>
      have hcloses := fun k m r => cancelPlan_cutting (c := ⟨v, k, m, r⟩) hx hphase
      rw [hcloses, hcloses]
      cases report <;> cases (closeCheck p v).report <;> simp

theorem allVoid_iff {l : List Placement} : allVoid l = true ↔ ∀ z ∈ l, z.state = some .void := by
  simp [allVoid]

theorem any_unfinished_iff {l : List Placement} :
    l.any unfinished = true ↔ ∃ z ∈ l, z.state = some .queued ∨ z.state = some .issued := by
  simp [unfinished]

section
variable {s : State} {p : Fin 16} {x : Plan} {kerf rate : Nat} {l : Layout}

theorem placements_of_cutting (hx : s.plan p = some x) (hphase : x.phase = .cutting kerf l rate) : s.placements p = l.placements := by
  unfold State.placements
  rw [hx]
  obtain ⟨-, -, -, -, hplacements, -⟩ := cutting_views hphase
  exact hplacements

/-- R154: with no work left and its slab on record, a CUTTING plan closes. -/
theorem closeCheck_of_finished (hx : s.plan p = some x) (hphase : x.phase = .cutting kerf l rate) {b : Slab}
    (hdone : ¬l.placements.any unfinished = true) (hb : findSlab x.serial s.stock = some b) :
    closeCheck p s = ⟨closeSteps p x l rate b false s, some (closeReport p x l b false s)⟩ := by
  rw [closeCheck, placements_of_cutting hx hphase, if_neg hdone, closePlan, hx]
  dsimp only
  rw [hphase]
  dsimp only
  rw [hb]

end

theorem cancelTake_takes (s : State) (p : Fin 16) :
    CancelTakes p s (cancelTake s p).state (cancelTake s p).unwound (cancelTake s p).report := by
  refine ⟨fun x kerf l rate b hx hphase hvoid hb hwater => ?_, fun x kerf l rate hx hphase hleft => ?_,
    fun x kerf l rate b hx hphase hdone hb hwater hcur h1 h2 hlen => ?_, fun x kerf l rate hx hphase hleft => ?_⟩
  · rw [cancelTake, cancelPlan_committed hx hphase, if_pos (allVoid_iff.mpr hvoid)]
    exact ⟨unwindCommitted_unwound rfl ⟨rfl, rfl⟩ rfl rfl hx hphase hb hwater, rfl, rfl⟩
  · have hsome : ¬allVoid l.placements = true := fun h => by
      obtain ⟨z, hz, hstate⟩ := hleft
      exact hstate (allVoid_iff.mp h z hz)
    rw [cancelTake, cancelPlan_committed hx hphase, if_neg hsome]
    exact ⟨rfl, rfl, rfl⟩
  · have hnone : ¬l.placements.any unfinished = true := fun h => by
      obtain ⟨z, hz, hstate⟩ := any_unfinished_iff.mp h
      exact hstate.elim (hdone z hz).1 (hdone z hz).2
    rw [cancelTake, cancelPlan_cutting hx hphase, closeCheck_of_finished hx hphase hnone hb]
    exact ⟨_, closeSteps_closed l rate false hcur hwater hb h1 h2 hlen, rfl, rfl⟩
  · rw [cancelTake, cancelPlan_cutting hx hphase,
      closeCheck_of_unfinished ((placements_of_cutting hx hphase).symm ▸ any_unfinished_iff.mpr hleft)]
    exact ⟨rfl, rfl, rfl⟩

/-! ## The waiting commands stand -/

theorem unwindCommitted_pending (p : Fin 16) (s : State) : (unwindCommitted p s).pending = s.pending := by
  cases hx : s.plan p with
  | none => rw [unwindCommitted, hx]
  | some x => rw [unwindCommitted_eq hx, putPlan_pending, planLeavesStation_state, freed_state]

theorem closeSteps_pending (p : Fin 16) (x : Plan) (l : Layout) (rate : Nat) (b : Slab) (broke : Bool) (s : State) :
    (closeSteps p x l rate b broke s).pending = s.pending := by
  rw [closeSteps_eq, raiseNotice_pending, closeWork, planLeavesStation_state, letGo_state, (wasteAll_cost ..).state,
    (settleRemnant_state ..).1]

theorem closeCheck_pending (p : Fin 16) (s : State) : (closeCheck p s).state.pending = s.pending := by
  unfold closeCheck closePlan
  split
  · rfl
  · split
    · split
      · split
        · exact closeSteps_pending ..
        · rfl
      · rfl
    · rfl

theorem cancelTake_pending (s : State) (p : Fin 16) : (cancelTake s p).state.pending = s.pending := by
  unfold cancelTake cancelPlan
  dsimp only
  split
  · split
    · split
      · exact unwindCommitted_pending p s
      · rfl
    · exact closeCheck_pending p s
    · rfl
  · rfl

/-! ## The plans one after the other (R174, R175) -/

section
variable (ps : List (Fin 16)) (u : State)

/-- The tally after the first `i` of the plans `ps`, begun in the state `u`. -/
def cancelTally (i : Nat) : CancelTally :=
  (ps.take i).foldl cancelPlan ⟨u, 0, 0, none⟩

/-- The outcome of the plan at place `i` alone. -/
def cancelOutcome (i : Nat) : CancelTally :=
  match ps[i]? with
  | some p => cancelTake (cancelTally ps u i).state p
  | none => ⟨(cancelTally ps u i).state, 0, 0, none⟩

variable {ps u}

theorem cancelEffects_eq (j : Fin 64) (s : State) :
    cancelEffects j s = cancelTally (voidedPlans j s) (cancelStart j s) (voidedPlans j s).length := by
  rw [cancelTally, List.take_length]
  rfl

theorem cancelOutcome_of_get {i : Nat} {p : Fin 16} (h : ps[i]? = some p) :
    cancelOutcome ps u i = cancelTake (cancelTally ps u i).state p := by
  rw [cancelOutcome, h]

theorem cancelTally_succ {i : Nat} {p : Fin 16} (h : ps[i]? = some p) :
    cancelTally ps u (i + 1) = cancelPlan (cancelTally ps u i) p := by
  rw [cancelTally, List.take_add_one, h, List.foldl_append]
  rfl

variable (ps u)

/-- The tally sums up the outcomes of the plans taken. -/
theorem cancelTally_eq {i : Nat} (hi : i ≤ ps.length) : cancelTally ps u i =
    ⟨(cancelTally ps u i).state, ((List.range i).map fun n => (cancelOutcome ps u n).unwound).sum,
      (List.range i).countP fun n => (cancelOutcome ps u n).report.isSome,
      (List.range i).findSome? fun n => (cancelOutcome ps u n).report⟩ := by
  induction i with
  | zero => rfl
  | succ i ih =>
    have hget : ps[i]? = some ps[i] := List.getElem?_eq_getElem hi
    have hbefore := ih (Nat.le_of_succ_le hi)
    have hstep := (cancelTally_succ hget).trans (cancelPlan_eq (cancelTally ps u i) ps[i])
    rw [← cancelOutcome_of_get hget] at hstep
    rw [hstep, List.range_succ, hbefore]
    simp [Option.or, List.findSome?_append, List.countP_singleton]

theorem cancelTally_pending (i : Nat) : (cancelTally ps u i).state.pending = u.pending :=
  foldl_rel (R := fun a b : CancelTally => b.state.pending = a.state.pending) (fun _ => rfl) (fun _ _ _ h g => g.trans h) cancelPlan
    (fun c p => by rw [cancelPlan_eq]; exact cancelTake_pending c.state p) (ps.take i) ⟨u, 0, 0, none⟩

theorem cancelTally_takes {ps : List (Fin 16)} {i : Nat} {p : Fin 16} (h : ps[i]? = some p) :
    CancelTakes p (cancelTally ps u i).state (cancelTally ps u (i + 1)).state (cancelOutcome ps u i).unwound
      (cancelOutcome ps u i).report := by
  rw [cancelTally_succ h, cancelPlan_eq, cancelOutcome_of_get h]
  exact cancelTake_takes _ p

end

/-! ## The command (R171, R175) -/

/-- CANCEL_JOB of an OPEN job other than 0: the block's effects, with its answer placed. -/
theorem exec_cancelJob {s : State} {j : Fin 64} {b : Job} (hj : j ≠ 0) (hb : s.job j = some b) (hopen : b.state = .opened) :
    exec (.cancelJob j) s = .next (putResponse .ok (cancelBody j (takeFrame 3 s) (cancelEffects j (takeFrame 3 s)))
      (cancelEffects j (takeFrame 3 s)).state) := by
  have hreply : cancelReply j b (takeFrame 3 s) = ⟨(cancelEffects j (takeFrame 3 s)).state, .ok,
      cancelBody j (takeFrame 3 s) (cancelEffects j (takeFrame 3 s))⟩ := if_neg (by simp [hj, hopen])
  exact serve_of_work (size := 1) (work := fun t => withJob j (fun j b => cancelReply j b t) t)
    ((withJob_of_some (s := takeFrame 3 s) hb fun j b => cancelReply j b (takeFrame 3 s)).trans hreply)

/-- A response placed after effects that leave the link and the queue as the frame's taking left them. -/
theorem putResponse_eq {size : Nat} {s u : State} (hlink : u.link = (takeFrame (size + 2) s).link) (hpending : u.pending = s.pending)
    (status : Status) (body : List Byte) : putResponse status body u = { u with link := answeredLink s size status body } := by
  unfold putResponse State.onLink
  rw [hlink, hpending]
  rfl

/-- R175: the body, with the counts told by what they count. -/
theorem cancelBody_eq (j : Fin 64) (s : State) (c : CancelTally) : cancelBody j s c =
    be 1 j ++ be 1 1 ++ be 2 (((c.state.job j).map fun d => d.openCount).getD 0) ++
      be 1 ((jobPieces j s.jobs).countP fun x => decide (x.state ≠ .issued ∧ x.state ≠ .cut)) ++
      flagByte ((jobPieces j s.jobs).any fun x => x.state == .issued) ++
      be 1 (((List.finRange 16).map fun p =>
        (s.placements p).countP fun y => decide (y.state = some .queued ∧ y.piece.job = j)).sum) ++
      be 1 (redraftedCount j s) ++ be 1 c.unwound ++ be 1 c.closed ++ indication c.report := by
  rw [← voids_eq, ← cancelDeletes_eq]
  rfl

section
variable {j : Fin 64} {s : State} (hnone : ∀ p y, y ∈ s.placements p → y.piece.job = j → y.state ≠ some .queued)
include hnone

theorem not_voids_of_none {p : Fin 16} {y : Placement} (hy : y ∈ s.placements p) : ¬voids j y = true := by
  rw [voids_eq, decide_eq_true_iff]
  exact fun h => hnone p y hy h.2 h.1

theorem voidedPlans_of_none : voidedPlans j s = [] := by
  rw [voidedPlans, List.filter_eq_nil_iff]
  intro p _ h
  obtain ⟨y, hy, hvoids⟩ := List.any_eq_true.mp h
  exact not_voids_of_none hnone hy hvoids

theorem voidedCount_of_none : voidedCount j s = 0 := by
  have hzero : ∀ p, (s.placements p).countP (voids j) = 0 := fun p =>
    List.countP_eq_zero.mpr fun y hy => not_voids_of_none hnone hy
  simp [voidedCount, hzero]

end

/-- Settles O45: the records by `cancelStart`, and the plans with a voided placement one after the other by `cancelTally`. -/
theorem cancelJobDeletes : Obligations.CancelJobDeletes := by
  unfold Obligations.CancelJobDeletes
  intro s j b hj hb hopen
  obtain ⟨ps, hps⟩ : ∃ ps, ps = voidedPlans j (takeFrame 3 s) := ⟨_, rfl⟩
  obtain ⟨u, hu⟩ : ∃ u, u = cancelStart j (takeFrame 3 s) := ⟨_, rfl⟩
  have hstate := cancelStart_state j (takeFrame 3 s)
  have hjob : ∀ q, u.job q = if q = j then (s.job q).map fun b => { b with state := .cancelling } else s.job q :=
    hu ▸ cancelStart_job j (takeFrame 3 s)
  have hplan : ∀ p, u.plan p = (s.plan p).map (cancelInPlan j) := hu ▸ cancelStart_plan j (takeFrame 3 s)
  have hexec := exec_cancelJob hj hb hopen
  rw [← hu] at hstate
  rw [cancelEffects_eq, ← hps, ← hu] at hexec
  have hself : u.job j = some { b with state := .cancelling } := by rw [hjob, if_pos rfl, hb]; rfl
  have hpending : u.pending = s.pending := (congrArg State.pending hstate :)
  refine ⟨u, _, ps, fun i => (cancelTally ps u i).state, fun i => (cancelOutcome ps u i).unwound,
    fun i => (cancelOutcome ps u i).report, hstate, hself, fun q hq => by rw [hjob, if_neg hq],
    hu ▸ cancelStart_pieces j (takeFrame 3 s), hu ▸ cancelStart_queue j (takeFrame 3 s),
    fun p hp => by rw [hplan, hp]; rfl, fun p x hx => ?_, hu ▸ cancelStart_station j (takeFrame 3 s), ?_, rfl,
    fun i p => cancelTally_takes u, hexec, ?_, fun hnone => ?_⟩
  · rw [hplan, hx, Option.map_some, ← voidPlacement_eq]
    exact ⟨fun kerf l rate h => congrArg some (cancelInPlan_committed h j),
      fun kerf l rate h => congrArg some (cancelInPlan_cutting h j),
      fun hc hk h => congrArg some (cancelInPlan_spared (beforeCommit_iff.mpr ⟨hc, hk⟩) h),
      fun hc hk h => congrArg some (cancelInPlan_redrafted (beforeCommit_iff.mpr ⟨hc, hk⟩) h)⟩
  · rw [hps, voidedPlans, voids_eq]
    rfl
  · have hsum := cancelTally_eq ps u (Nat.le_refl ps.length)
    have hunwound := congrArg CancelTally.unwound hsum
    have hclosed := congrArg CancelTally.closed hsum
    have hreport := congrArg CancelTally.report hsum
    rw [cancelBody_eq, hunwound, hclosed, hreport]
    dsimp only [putResponse, State.onLink]
    rw [cancelTally_pending, hpending]
    rfl
  · obtain rfl : ps = [] := hps.trans (voidedPlans_of_none hnone)
    have hvoided : voidedCount j (takeFrame 3 s) = 0 := voidedCount_of_none hnone
    show putResponse .ok (cancelBody j (takeFrame 3 s) ⟨u, 0, 0, none⟩) u = _
    rw [putResponse_eq (size := 1) (congrArg State.link hstate :) hpending, cancelBody, hvoided, hself, deletedCount, cancelDeletes_eq]
    rfl

end Sys2Proof.Machine
end

section
/-! The sample tick and the meters of the decisecond tick (R94 to R96, R109, R110): each station's record is changed by itself, with its
lines as they stand.  The statements O46 and O47. -/

namespace Sys2Proof.Machine

/-! ## One update for each station -/

/-- Updates of the stations of a list, each reading its own record, change those records and nothing else. -/
theorem foldl_onStation {l : List (Fin 6)} (hl : l.Nodup) (f : Fin 6 → Station → Station) (s : State) :
    l.foldl (fun t st => t.onStation st (f st)) s =
        { s with stations := (l.foldl (fun t st => t.onStation st (f st)) s).stations } ∧
      ∀ q, (l.foldl (fun t st => t.onStation st (f st)) s).station q = if q ∈ l then f q (s.station q) else s.station q := by
  induction l generalizing s with
  | nil => exact ⟨rfl, fun _ => rfl⟩
  | cons st l ih =>
    obtain ⟨hst, hl⟩ := List.nodup_cons.mp hl
    obtain ⟨hstate, hstation⟩ := ih hl (s.onStation st (f st))
    refine ⟨hstate, fun q => (hstation q).trans ?_⟩
    by_cases hq : q = st
    · subst hq
      rw [if_neg hst, if_pos List.mem_cons_self, station_onStation_self]
    · rw [station_onStation_ne _ _ _ _ hq]
      exact if_congr (by simp [hq]) rfl rfl

/-- The six stations' updates. -/
theorem foldl_allStations (f : Fin 6 → Station → Station) (s : State) :
    allStations.foldl (fun t st => t.onStation st (f st)) s =
        { s with stations := (allStations.foldl (fun t st => t.onStation st (f st)) s).stations } ∧
      ∀ q, (allStations.foldl (fun t st => t.onStation st (f st)) s).station q = f q (s.station q) := by
  obtain ⟨hstate, hstation⟩ := foldl_onStation allStations_nodup f s
  exact ⟨hstate, fun q => (hstation q).trans (if_pos (mem_allStations q))⟩

/-! ## The sample tick (R94) -/

/-- R94, R96, R109: a station after a sample, with its PERMIT as it stands. -/
def sampledStation (level permit : Bool) (x : Station) : Station :=
  let y := sampleSpindle level x
  if flipsSpindle level x then
    if level then stopHold y
    else if permit && !x.issued.isSome then startHold { y with dryTimer := 0 } else { y with dryTimer := 0 }
  else y

/-- Two updates of one station are one. -/
theorem onStation_onStation (st : Fin 6) (f g : Station → Station) (s : State) :
    (s.onStation st f).onStation st g = s.onStation st fun x => g (f x) := by
  simp only [State.onStation, get_set_self, Vector.set_set]

/-- An update of one station may be told by what it makes of the record there. -/
theorem onStation_congr {st : Fin 6} {f g : Station → Station} {s : State} (h : f (s.station st) = g (s.station st)) :
    s.onStation st f = s.onStation st g := by
  simp only [State.onStation, State.station] at *
  rw [h]

/-- R94: the hold condition at an accepted stop. -/
theorem holdCondition_stopped {s : State} {st : Fin 6} (h : flipsSpindle false (s.station st) = true) :
    (s.onStation st fun x => { sampleSpindle false x with dryTimer := 0 }).holdCondition st =
      (s.permit st && !(s.station st).issued.isSome) := by
  have hspin : (sampleSpindle false (s.station st)).spindle = false := by
    simp only [flipsSpindle, Bool.and_eq_true, decide_eq_true_eq, bne_iff_ne, ne_eq] at h
    simp [sampleSpindle, h.1, h.2]
  have hissued : (sampleSpindle false (s.station st)).issued = (s.station st).issued := by
    unfold sampleSpindle
    split_ifs <;> rfl
  unfold State.holdCondition
  rw [station_onStation_self]
  simp only [hspin, hissued, Bool.not_false, Bool.and_true]
  rfl

theorem sampleStation_eq (spin : BitVec 6) (s : State) (st : Fin 6) :
    sampleStation spin s st = s.onStation st (sampledStation spin[st] (s.permit st)) := by
  unfold sampleStation sampledStation spindleStarted spindleStopped startHoldIf
  generalize spin[st] = level
  cases hflip : flipsSpindle level (s.station st) with
  | false =>
    rw [if_neg Bool.false_ne_true]
    exact onStation_congr (by rw [hflip]; rfl)
  | true =>
    rw [if_pos rfl]
    cases level with
    | true =>
      rw [if_pos rfl, onStation_onStation]
      exact onStation_congr (by rw [hflip]; rfl)
    | false =>
      rw [if_neg Bool.false_ne_true, onStation_onStation, holdCondition_stopped hflip, onStation_onStation]
      cases hcond : s.permit st && !(s.station st).issued.isSome with
      | false =>
        rw [if_neg Bool.false_ne_true]
        exact onStation_congr (by rw [hflip, hcond]; rfl)
      | true =>
        rw [if_pos rfl]
        exact onStation_congr (by rw [hflip, hcond]; rfl)

/-- R94: the sample tick, station by station. -/
theorem sampleAll_eq (spin : BitVec 6) (s : State) : sampleAll spin s =
    allStations.foldl (fun t st => t.onStation st (sampledStation spin[st] (s.permit st)))
      (s.onPins fun p => { p with spin := spin }) := by
  have key : ∀ (l : List (Fin 6)) (t : State), t.arbiter = s.arbiter → l.foldl (sampleStation spin) t =
      l.foldl (fun t st => t.onStation st (sampledStation spin[st] (s.permit st))) t := fun l => by
    induction l with
    | nil => exact fun _ _ => rfl
    | cons st l ih =>
      intro t ht
      have hpermit : t.permit st = s.permit st := by rw [State.permit, State.grant, ht]; rfl
      rw [List.foldl_cons, List.foldl_cons, sampleStation_eq, hpermit]
      exact ih _ ht
  exact key allStations _ rfl

/-- R94: a sample equal to the accepted level. -/
theorem sampledStation_same {level permit : Bool} {x : Station} (h : level = x.spindle) :
    sampledStation level permit x = { x with spindleRun := 0 } := by
  simp [sampledStation, flipsSpindle, sampleSpindle, h]

/-- R94: a differing sample before the third. -/
theorem sampledStation_counting {level permit : Bool} {x : Station} (h : level ≠ x.spindle) (hrun : x.spindleRun < 2) :
    sampledStation level permit x = { x with spindleRun := x.spindleRun + 1 } := by
  have hrun' : ¬2 ≤ x.spindleRun := Nat.not_le.mpr hrun
  simp [sampledStation, flipsSpindle, sampleSpindle, h, hrun']

/-- R94, R109: the spindle starts. -/
theorem sampledStation_started {permit : Bool} {x : Station} (h : x.spindle = false) (hrun : 2 ≤ x.spindleRun) :
    sampledStation true permit x = { x with spindle := true, spindleRun := 0, hold := none } := by
  simp [sampledStation, flipsSpindle, sampleSpindle, stopHold, h, hrun]

/-- R94, R96, R109: the spindle stops. -/
theorem sampledStation_stopped {permit : Bool} {x : Station} (h : x.spindle = true) (hrun : 2 ≤ x.spindleRun) :
    sampledStation false permit x = { x with
      spindle := false
      spindleRun := 0
      dryTimer := 0
      hold := if permit = true ∧ x.issued = none then (if x.holdSetting = 0 then none else some (x.holdSetting * 5)) else x.hold } := by
  cases permit <;> cases hissued : x.issued <;> simp [sampledStation, flipsSpindle, sampleSpindle, startHold, h, hrun, hissued]

/-- Settles O46: each station's record by `sampledStation`, and nothing else by `foldl_allStations`. -/
theorem sampleTickFilters : Obligations.SampleTickFilters := by
  unfold Obligations.SampleTickFilters
  intro s spin
  obtain ⟨hstate, hstation⟩ := foldl_allStations (fun st => sampledStation spin[st] (s.permit st))
    (s.onPins fun p => { p with spin := spin })
  rw [← sampleAll_eq] at hstate hstation
  refine ⟨sampleAll spin s, rfl, hstate, fun st => ⟨fun h => ?_, fun h hrun => ?_, fun h hspin hrun => ?_, fun h hspin hrun => ?_⟩⟩
  · exact (hstation st).trans (sampledStation_same h)
  · exact (hstation st).trans (sampledStation_counting h hrun)
  · rw [hstation st, hspin]
    exact sampledStation_started h hrun
  · rw [hstation st, hspin]
    exact sampledStation_stopped h hrun

/-! ## The meters and the timers (R95, R96, R109, R110) -/

/-- R95, R84: the two run meters. -/
theorem runTick_eq (x : Station) : runTick x = { x with
    runMeter := if x.spindle = true then min 4294967295 (x.runMeter + 1) else x.runMeter
    bladeMeter := if x.spindle = true then min 4294967295 (x.bladeMeter + 1) else x.bladeMeter
    bladeDue := x.bladeDue || decide (x.spindle = true ∧ x.bladeMeter < 4294967295 ∧ x.bladeMeter + 1 = x.life) } := by
  cases hspin : x.spindle with
  | false =>
    simp only [runTick, hspin, Bool.false_eq_true, if_false, false_and, decide_false, Bool.or_false]
    rw [← hspin]
  | true => simp [runTick, hspin, meterUp, reachesLife, Bool.beq_eq_decide_eq]

/-- R110: the water meter, with the valve as it stands. -/
theorem waterTick_eq (valve : Bool) (y : Station) : (if valve then waterTick y else y) = { y with
    waterMeter := if valve = true ∧ y.waterMeter < 4294967295 ∧ 600 ≤ y.remainder + y.flow then y.waterMeter + 1 else y.waterMeter
    remainder := if valve = true ∧ y.waterMeter < 4294967295 then
        (if 600 ≤ y.remainder + y.flow then y.remainder + y.flow - 600 else y.remainder + y.flow)
      else y.remainder } := by
  cases valve with
  | false => simp
  | true =>
    by_cases hend : Config.meterMax ≤ y.waterMeter
    · simp [waterTick, hend, Nat.not_lt.mpr hend]
    · by_cases hfull : 600 ≤ y.remainder + y.flow <;> simp [waterTick, hend, Nat.not_le.mp hend, hfull]

/-- R96: the dry timer, with the permit as it stands. -/
theorem dryTick_eq (permit : Bool) (y : Station) : (if y.spindle && !permit then dryTick y else y) = { y with
    dryTimer := if y.spindle = true ∧ permit = false ∧ y.dryTimer < 30 then y.dryTimer + 1 else y.dryTimer
    dryDue := y.dryDue || decide (y.spindle = true ∧ permit = false ∧ y.dryTimer = 29) } := by
  by_cases hdry : y.spindle = true ∧ permit = false
  · obtain ⟨hspin, rfl⟩ := hdry
    by_cases hend : y.dryTimer < Config.dryLimit
    · simp [dryTick, hspin, hend, Bool.beq_eq_decide_eq, Config.dryLimit]
    · have hnot : y.dryTimer ≠ 29 := fun h => hend (by rw [h]; decide)
      rw [hspin, Bool.not_false, Bool.and_self, if_pos rfl, dryTick, if_neg hend, if_neg fun h => hend h.2.2,
        decide_eq_false fun h => hnot h.2.2, Bool.or_false, ← hspin]
  · have hcond : (y.spindle && !permit) = false := by simpa using hdry
    simp only [hcond, Bool.false_eq_true, if_false, ← and_assoc, hdry, false_and, decide_false, Bool.or_false]

/-- R95, R96, R109, R110: a station's meters and timers after a decisecond, with its VALVE and PERMIT as they stand. -/
theorem tickStation_eq (valve permit : Bool) (x : Station) : tickStation valve permit x = { x with
    runMeter := if x.spindle = true then min 4294967295 (x.runMeter + 1) else x.runMeter
    bladeMeter := if x.spindle = true then min 4294967295 (x.bladeMeter + 1) else x.bladeMeter
    bladeDue := x.bladeDue || decide (x.spindle = true ∧ x.bladeMeter < 4294967295 ∧ x.bladeMeter + 1 = x.life)
    waterMeter := if valve = true ∧ x.waterMeter < 4294967295 ∧ 600 ≤ x.remainder + x.flow then x.waterMeter + 1 else x.waterMeter
    remainder := if valve = true ∧ x.waterMeter < 4294967295 then
        (if 600 ≤ x.remainder + x.flow then x.remainder + x.flow - 600 else x.remainder + x.flow)
      else x.remainder
    dryTimer := if x.spindle = true ∧ permit = false ∧ x.dryTimer < 30 then x.dryTimer + 1 else x.dryTimer
    dryDue := x.dryDue || decide (x.spindle = true ∧ permit = false ∧ x.dryTimer = 29)
    hold := x.hold.map fun n => n - 1 } := by
  unfold tickStation
  dsimp only
  rw [waterTick_eq, dryTick_eq, runTick_eq]
  rfl

/-- R95: the tick's meters and timers, station by station. -/
theorem tickStations_spec (s : State) : tickStations s = { s with stations := (tickStations s).stations } ∧
    ∀ q, (tickStations s).station q = tickStation (s.valve q) (s.permit q) (s.station q) :=
  foldl_allStations (fun q => tickStation (s.valve q) (s.permit q)) s

/-! ## The filters at rest (R117) -/

/-- R117: a sample equal to the accepted value. -/
theorem sampleFilter_same {α : Type} [DecidableEq α] {v : α} {f : InputFilter α} (h : v = f.accepted) :
    sampleFilter v f = { f with run := 0 } := if_pos h

/-- The plant with another SUMP filter. -/
def withSump (f : InputFilter (Fin 8)) (p : Plant) : Plant :=
  { p with sump := f }

/-- The plant with another SETTLING filter. -/
def withSettling (f : InputFilter (Fin 8)) (p : Plant) : Plant :=
  { p with settling := f }

/-- The plant with another CLEAN filter. -/
def withClean (f : InputFilter (Fin 8)) (p : Plant) : Plant :=
  { p with clean := f }

/-- The plant with another turbidity filter. -/
def withTurbidity (f : InputFilter Bool) (p : Plant) : Plant :=
  { p with turbidity := f }

theorem sampleSump_kept {v : Fin 8} {s : State} (h : (sampleFilter v s.plant.sump).accepted = s.plant.sump.accepted) :
    sampleSump v s = s.onPlant (withSump (sampleFilter v s.plant.sump)) := if_pos h

theorem sampleSump_changed {v : Fin 8} {s : State} (h : (sampleFilter v s.plant.sump).accepted ≠ s.plant.sump.accepted) :
    sampleSump v s = sumpChanged (s.onPlant (withSump (sampleFilter v s.plant.sump))) := if_neg h

theorem sampleSump_same {v : Fin 8} {s : State} (h : v = s.plant.sump.accepted) :
    sampleSump v s = s.onPlant (withSump { s.plant.sump with run := 0 }) := by
  rw [sampleSump_kept (by rw [sampleFilter_same h]), sampleFilter_same h]

theorem sampleSettling_kept {v : Fin 8} {s : State} (h : (sampleFilter v s.plant.settling).accepted = s.plant.settling.accepted) :
    sampleSettling v s = s.onPlant (withSettling (sampleFilter v s.plant.settling)) := if_pos h

theorem sampleSettling_changed {v : Fin 8} {s : State} (h : (sampleFilter v s.plant.settling).accepted ≠ s.plant.settling.accepted) :
    sampleSettling v s = settlingChanged (s.onPlant (withSettling (sampleFilter v s.plant.settling))) := if_neg h

theorem sampleSettling_same {v : Fin 8} {s : State} (h : v = s.plant.settling.accepted) :
    sampleSettling v s = s.onPlant (withSettling { s.plant.settling with run := 0 }) := by
  rw [sampleSettling_kept (by rw [sampleFilter_same h]), sampleFilter_same h]

theorem sampleClean_kept {v : Fin 8} {s : State} (h : (sampleFilter v s.plant.clean).accepted = s.plant.clean.accepted) :
    sampleClean v s = s.onPlant (withClean (sampleFilter v s.plant.clean)) := if_pos h

theorem sampleClean_changed {v : Fin 8} {s : State} (h : (sampleFilter v s.plant.clean).accepted ≠ s.plant.clean.accepted) :
    sampleClean v s = cleanChanged (s.onPlant (withClean (sampleFilter v s.plant.clean))) := if_neg h

theorem sampleClean_same {v : Fin 8} {s : State} (h : v = s.plant.clean.accepted) :
    sampleClean v s = s.onPlant (withClean { s.plant.clean with run := 0 }) := by
  rw [sampleClean_kept (by rw [sampleFilter_same h]), sampleFilter_same h]

theorem sampleTurbidity_kept {v : Bool} {s : State} (h : (sampleFilter v s.plant.turbidity).accepted = s.plant.turbidity.accepted) :
    sampleTurbidity v s = s.onPlant (withTurbidity (sampleFilter v s.plant.turbidity)) := if_pos h

theorem sampleTurbidity_changed {v : Bool} {s : State} (h : (sampleFilter v s.plant.turbidity).accepted ≠ s.plant.turbidity.accepted) :
    sampleTurbidity v s = turbidityChanged (s.onPlant (withTurbidity (sampleFilter v s.plant.turbidity))) := if_neg h

theorem sampleTurbidity_same {v : Bool} {s : State} (h : v = s.plant.turbidity.accepted) :
    sampleTurbidity v s = s.onPlant (withTurbidity { s.plant.turbidity with run := 0 }) := by
  rw [sampleTurbidity_kept (by rw [sampleFilter_same h]), sampleFilter_same h]

/-- Settles O47: each station by `tickStation_eq`, and every filter at rest. -/
theorem decisecondTickMeters : Obligations.DecisecondTickMeters := by
  unfold Obligations.DecisecondTickMeters
  intro s sump settling clean cloudy hsump hsettling hclean hcloudy
  obtain ⟨hstate, hstation⟩ := tickStations_spec (readPins sump settling clean cloudy s)
  have hplant : (tickStations (readPins sump settling clean cloudy s)).plant = s.plant := by rw [hstate]; rfl
  have hrun : decisecond sump settling clean cloudy s =
      { tickStations (readPins sump settling clean cloudy s) with plant := { s.plant with
        sump := { s.plant.sump with run := 0 }
        settling := { s.plant.settling with run := 0 }
        clean := { s.plant.clean with run := 0 }
        turbidity := { s.plant.turbidity with run := 0 } } } := by
    unfold decisecond
    rw [← hplant] at hsump hsettling hclean hcloudy ⊢
    rw [sampleSump_same hsump, sampleSettling_same, sampleClean_same, sampleTurbidity_same]
    exacts [rfl, hcloudy, hclean, hsettling]
  refine ⟨decisecond sump settling clean cloudy s, rfl, ?_, fun st => ⟨_, rfl, ?_⟩⟩
  · rw [hrun, hstate]
    rfl
  · rw [hrun]
    exact (hstation st).trans (tickStation_eq ..)

end Sys2Proof.Machine
end

section
/-! What arbitration does, grant by grant (R104, R107). -/

namespace Sys2Proof.Machine

/-! ## Arbitration ends, or makes one grant and goes on (R104) -/

/-- R104: no grant is made with the capacity used, the clean band at 0 or no request above the floor. -/
theorem nextGrant_eq_none {s : State} (h : s.arbiter.capacity ≤ s.arbiter.grants.length ∨ s.plant.clean.accepted = 0 ∨
    ∀ r ∈ s.arbiter.pending, r.level ≤ s.arbiter.floor) : nextGrant s = none := by
  cases hn : nextGrant s with
  | none => rfl
  | some r =>
    obtain ⟨hr, hfloor, hplace, hclean⟩ := nextGrant_spec hn
    rcases h with h | h | h
    · omega
    · exact absurd h hclean
    · have := h r hr
      omega

theorem arbitrate_of_nextGrant_none {s : State} (h : nextGrant s = none) : arbitrate s = s := arbitrateUpTo_of_none h _

theorem makeGrant_pending (r : Request) (s : State) :
    (makeGrant r s).arbiter.pending = s.arbiter.pending.filter fun q => q.station != r.station := by
  rw [makeGrant_state]
  rfl

theorem makeGrant_grants (r : Request) (s : State) : (makeGrant r s).arbiter.grants =
    insertBy (fun x y => decide (x.station < y.station)) ⟨r.station, r.level, r.stamp, false⟩ s.arbiter.grants := by
  rw [makeGrant_state]
  rfl

/-- R104: a grant made takes a request out of the list. -/
theorem length_makeGrant_lt {r : Request} {s : State} (h : r ∈ s.arbiter.pending) :
    (makeGrant r s).arbiter.pending.length < s.arbiter.pending.length := by
  rw [makeGrant_pending]
  exact List.length_filter_lt_length_iff_exists.mpr ⟨r, h, by simp⟩

/-- Once every request can have been granted, more turns change nothing. -/
theorem arbitrateUpTo_of_length_le {n : Nat} {s : State} (h : s.arbiter.pending.length ≤ n) :
    arbitrateUpTo n s = arbitrate s ∧ nextGrant (arbitrateUpTo n s) = none := by
  unfold arbitrate
  generalize hm : s.arbiter.pending.length = m at *
  induction m using Nat.strongRecOn generalizing n s with
  | ind m ih =>
    cases hn : nextGrant s with
    | none => rw [arbitrateUpTo_of_none hn, arbitrateUpTo_of_none hn]; exact ⟨rfl, hn⟩
    | some r =>
      have hlt := length_makeGrant_lt (nextGrant_spec hn).1
      obtain ⟨n, rfl⟩ : ∃ k, n = k + 1 := ⟨n - 1, by omega⟩
      obtain ⟨m, rfl⟩ : ∃ k, m = k + 1 := ⟨m - 1, by omega⟩
      simp only [arbitrateUpTo, hn]
      obtain ⟨h1, h2⟩ := ih _ (by omega) rfl (n := n) (s := makeGrant r s) (by omega)
      obtain ⟨h3, -⟩ := ih _ (by omega) rfl (n := m) (s := makeGrant r s) (by omega)
      exact ⟨h1.trans h3.symm, h2⟩

/-- R104: arbitration goes on after a grant. -/
theorem arbitrate_of_nextGrant {s : State} {r : Request} (h : nextGrant s = some r) : arbitrate s = arbitrate (makeGrant r s) := by
  have hlt := length_makeGrant_lt (nextGrant_spec h).1
  have hmore : arbitrateUpTo (s.arbiter.pending.length + 1) s = arbitrate s := (arbitrateUpTo_of_length_le (Nat.le_succ _)).1
  rw [← hmore, arbitrateUpTo, h]
  exact (arbitrateUpTo_of_length_le (by omega)).1

/-- R104: arbitration leaves nothing to grant. -/
theorem nextGrant_arbitrate (s : State) : nextGrant (arbitrate s) = none := (arbitrateUpTo_of_length_le (Nat.le_refl _)).2

/-- R104: the request that goes before every other is the best. -/
theorem bestRequest_of_best {l : List Request} {r : Request} (hr : r ∈ l) (h : ∀ q ∈ l, q = r ∨ winsOver r q = true) :
    bestRequest l = some r := by
  have hanti : ∀ q, winsOver r q = true → winsOver q r = false := fun q hq => by
    simp only [winsOver, Bool.or_eq_true, Bool.and_eq_true, decide_eq_true_eq, Bool.or_eq_false_iff, Bool.and_eq_false_iff,
      decide_eq_false_iff_not] at hq ⊢
    omega
  have hirr : winsOver r r = false := by simp [winsOver]
  induction l with
  | nil => cases hr
  | cons q l ih =>
    have hrest : ∀ z ∈ l, z = r ∨ winsOver r z = true := fun z hz => h z (List.mem_cons_of_mem _ hz)
    by_cases hmem : r ∈ l
    · rw [bestRequest, ih hmem hrest]
      rcases h q List.mem_cons_self with rfl | hq
      · simp [hirr]
      · simp [hq]
    · obtain rfl : r = q := (List.mem_cons.mp hr).resolve_right hmem
      rw [bestRequest]
      split
      · rename_i z hz
        have hzl := bestRequest_mem hz
        have hz' := (hrest z hzl).resolve_left fun e => hmem (e ▸ hzl)
        rw [hanti z hz', if_neg Bool.false_ne_true]
      · rfl

/-- R104: the request granted next. -/
theorem nextGrant_of_best {s : State} {r : Request} (hplace : s.arbiter.grants.length < s.arbiter.capacity)
    (hclean : s.plant.clean.accepted ≠ 0) (hr : r ∈ s.arbiter.pending) (hfloor : s.arbiter.floor < r.level)
    (hbest : ∀ q ∈ s.arbiter.pending, s.arbiter.floor < q.level →
      q = r ∨ q.level < r.level ∨ (q.level = r.level ∧ r.stamp < q.stamp)) : nextGrant s = some r := by
  rw [nextGrant, if_pos ⟨hplace, hclean⟩]
  refine bestRequest_of_best (List.mem_filter.mpr ⟨hr, by simpa [grantable] using hfloor⟩) fun q hq => ?_
  obtain ⟨hq, hlow⟩ := List.mem_filter.mp hq
  refine (hbest q hq (by simpa [grantable] using hlow)).imp_right fun h => ?_
  simp only [winsOver, Bool.or_eq_true, Bool.and_eq_true, decide_eq_true_eq]
  exact h.imp_right fun ⟨h1, h2⟩ => ⟨h1.symm, h2⟩

/-- R109: the hold timer as a start loads it. -/
def loadedHold (x : Station) : Option Nat :=
  if x.holdSetting = 0 then none else some (x.holdSetting * 5)

/-- R107: the station of a grant just made. -/
def grantedStation (x : Station) : Station :=
  { x with dryTimer := 0, hold := if x.issued = none ∧ x.spindle = false then loadedHold x else x.hold }

/-- R104, R107: the grant and its effects on its station. -/
theorem makeGrant_eq (r : Request) (s : State) : makeGrant r s = { s with
    arbiter := enterGrant ⟨r.station, r.level, r.stamp, false⟩ (dropRequest r.station s.arbiter)
    stations := s.stations.set r.station (grantedStation (s.station r.station))
    link := postNotice .granted r.station s.link } := by
  have hpermit : ((s.onArbiter fun a => enterGrant ⟨r.station, r.level, r.stamp, false⟩ (dropRequest r.station a)).onStation r.station
      fun x => { x with dryTimer := 0 }).permit r.station = true :=
    permit_iff.mpr ⟨⟨r.station, r.level, r.stamp, false⟩, (insertBy_perm _ _ _).mem_iff.mpr List.mem_cons_self, rfl⟩
  have hcond : ((s.onArbiter fun a => enterGrant ⟨r.station, r.level, r.stamp, false⟩ (dropRequest r.station a)).onStation r.station
      fun x => { x with dryTimer := 0 }).holdCondition r.station =
        decide ((s.station r.station).issued = none ∧ (s.station r.station).spindle = false) := by
    unfold State.holdCondition
    rw [hpermit, station_onStation_self]
    show (true && !(s.station r.station).issued.isSome && !(s.station r.station).spindle) = _
    cases (s.station r.station).issued <;> cases (s.station r.station).spindle <;> rfl
  unfold makeGrant startHoldIf grantedStation
  rw [hcond]
  by_cases h : (s.station r.station).issued = none ∧ (s.station r.station).spindle = false
  · rw [decide_eq_true h, if_pos rfl, onStation_onStation, if_pos h]
    rfl
  · rw [decide_eq_false h, if_neg Bool.false_ne_true, if_neg h]
    rfl

end Sys2Proof.Machine
end

section
/-! What the water's moves do not read: the marks of a transaction on the link and the filters' run counts (`overlaid`), and, for
charges, the arbiter and the stations' timers (`rehomed`). -/

namespace Sys2Proof.Machine

/-! ## Changes of the link and the plant that the water's moves do not see -/

/-- The state with its link and its plant changed. -/
def overlaid (k : Link → Link) (f : Plant → Plant) (s : State) : State :=
  { s with link := k s.link, plant := f s.plant }

/-- A change of the link beside the notices and the mode, and of the plant beside the accepted bands of the floor's sources. -/
structure Unread (k : Link → Link) (f : Plant → Plant) : Prop where
  post : ∀ n o l, postNotice n o (k l) = k (postNotice n o l)
  mode : ∀ l, (k l).mode = l.mode
  clean : ∀ p, (f p).clean.accepted = p.clean.accepted
  sump : ∀ p, (f p).sump.accepted = p.sump.accepted

section
variable {k : Link → Link} {f : Plant → Plant} (h : Unread k f)
include h

theorem Unread.raise (n : NoticeKind) (o : Nat) (s : State) : raiseNotice n o (overlaid k f s) = overlaid k f (raiseNotice n o s) := by
  unfold raiseNotice State.onLink overlaid
  simp only [h.post]

omit h in
theorem startHoldIf_overlaid (st : Fin 6) (s : State) : startHoldIf st (overlaid k f s) = overlaid k f (startHoldIf st s) := by
  unfold startHoldIf
  rw [apply_ite (overlaid k f)]
  rfl

theorem Unread.makeGrant (r : Request) (s : State) : makeGrant r (overlaid k f s) = overlaid k f (makeGrant r s) := by
  unfold Machine.makeGrant
  rw [← h.raise, ← startHoldIf_overlaid]
  rfl

theorem Unread.nextGrant (s : State) : nextGrant (overlaid k f s) = nextGrant s := by
  unfold Machine.nextGrant overlaid
  rw [h.clean]

theorem Unread.arbitrate (s : State) : arbitrate (overlaid k f s) = overlaid k f (arbitrate s) := by
  unfold Machine.arbitrate
  show arbitrateUpTo s.arbiter.pending.length (overlaid k f s) = _
  generalize s.arbiter.pending.length = n
  induction n generalizing s with
  | zero => rfl
  | succ n ih =>
    unfold arbitrateUpTo
    rw [h.nextGrant]
    cases Machine.nextGrant s with
    | none => rfl
    | some r => exact (congrArg _ (h.makeGrant r s)).trans (ih _)

theorem Unread.budgetWatch (j : Fin 64) (s : State) : budgetWatch j (overlaid k f s) = overlaid k f (budgetWatch j s) := by
  unfold Machine.budgetWatch
  show (match s.job j with | some b => _ | none => _) = _
  cases s.job j with
  | none => rfl
  | some b =>
    dsimp only
    rw [apply_ite (overlaid k f), ← h.raise]
    rfl

theorem Unread.charge (j : Fin 64) (c : Category) (q r : Nat) (s : State) :
    charge j c q r (overlaid k f s) = overlaid k f (charge j c q r s) := by
  unfold Machine.charge
  show (match s.job j with | some b => _ | none => _) = _
  cases s.job j with
  | none => rfl
  | some b =>
    dsimp only
    rw [← h.budgetWatch, apply_ite (overlaid k f), ← h.raise]
    rfl

theorem Unread.chargeMeters (st : Fin 6) (j : Fin 64) (s : State) :
    chargeMeters st j (overlaid k f s) = overlaid k f (chargeMeters st j s) := by
  have key : ∀ (c : Prop) [Decidable c] (q : Category) (n r : Nat) (t : State),
      (if c then Machine.charge j q n r (overlaid k f t) else overlaid k f t) = overlaid k f (if c then Machine.charge j q n r t else t) :=
    fun c _ q n r t => by rw [apply_ite (overlaid k f), h.charge]
  unfold Machine.chargeMeters
  dsimp only
  show State.onStation st snapMeters (if 0 < (s.station st).waterMeter - (s.station st).waterSnap then
    Machine.charge j .water ((s.station st).waterMeter - (s.station st).waterSnap) s.rates.water
      (if 0 < (s.station st).runMeter - (s.station st).runSnap then
        Machine.charge j .saw ((s.station st).runMeter - (s.station st).runSnap) (s.station st).machineRate (overlaid k f s)
      else overlaid k f s)
    else (if 0 < (s.station st).runMeter - (s.station st).runSnap then
        Machine.charge j .saw ((s.station st).runMeter - (s.station st).runSnap) (s.station st).machineRate (overlaid k f s)
      else overlaid k f s)) = _
  rw [key, key]
  rfl

theorem Unread.releaseGrant (st : Fin 6) (s : State) : releaseGrant st (overlaid k f s) = overlaid k f (releaseGrant st s) := by
  unfold Machine.releaseGrant
  rw [← h.arbitrate, h.chargeMeters]
  rfl

theorem Unread.releaseIfHeld (st : Fin 6) (s : State) : releaseIfHeld st (overlaid k f s) = overlaid k f (releaseIfHeld st s) := by
  unfold Machine.releaseIfHeld
  rw [apply_ite (overlaid k f), h.releaseGrant]
  rfl

theorem Unread.withdrawRequest (st : Fin 6) (s : State) : withdrawRequest st (overlaid k f s) = overlaid k f (withdrawRequest st s) := by
  unfold Machine.withdrawRequest
  rw [apply_ite (overlaid k f), ← h.arbitrate]
  rfl

theorem Unread.dropWater (st : Fin 6) (s : State) : dropWater st (overlaid k f s) = overlaid k f (dropWater st s) := by
  unfold Machine.dropWater
  rw [h.releaseIfHeld, h.withdrawRequest]

theorem Unread.releaseIfMarked (st : Fin 6) (s : State) : releaseIfMarked st (overlaid k f s) = overlaid k f (releaseIfMarked st s) := by
  unfold Machine.releaseIfMarked
  show (match s.grant st with | some g => _ | none => _) = _
  cases s.grant st with
  | none => rfl
  | some g =>
    dsimp only
    rw [apply_ite (overlaid k f), h.releaseGrant]

theorem Unread.releaseMarkedIdle (s : State) (st : Fin 6) :
    releaseMarkedIdle (overlaid k f s) st = overlaid k f (releaseMarkedIdle s st) := by
  unfold Machine.releaseMarkedIdle
  rw [apply_ite (overlaid k f), h.releaseIfMarked]
  rfl

theorem Unread.floorNow (s : State) : floorNow (overlaid k f s) = floorNow s := by
  unfold Machine.floorNow tableTerm sumpTerm loadingTerm overlaid
  simp only [h.clean, h.sump, h.mode]

theorem Unread.storeFloor (s : State) : storeFloor (overlaid k f s) = overlaid k f (storeFloor s) := by
  unfold Machine.storeFloor
  rw [h.floorNow]
  rfl

omit h in
/-- A fold of moves that do not see a change does not see it. -/
theorem foldl_overlaid {α : Type} {g : State → α → State} (hg : ∀ s a, g (overlaid k f s) a = overlaid k f (g s a)) (l : List α)
    (s : State) : l.foldl g (overlaid k f s) = overlaid k f (l.foldl g s) := by
  induction l generalizing s with
  | nil => rfl
  | cons a l ih => rw [List.foldl_cons, hg, ih, List.foldl_cons]

theorem Unread.reformFloor (s : State) : reformFloor (overlaid k f s) = overlaid k f (reformFloor s) := by
  unfold Machine.reformFloor
  rw [h.floorNow, h.storeFloor, apply_ite (overlaid k f), ← h.arbitrate, ← foldl_overlaid h.releaseMarkedIdle]
  rfl

theorem Unread.revokeGrant (s : State) (st : Fin 6) : revokeGrant (overlaid k f s) st = overlaid k f (revokeGrant s st) := by
  unfold Machine.revokeGrant
  show (match s.grant st with | some g => _ | none => _) = _
  cases s.grant st with
  | none => rfl
  | some g =>
    dsimp only
    have hmeters : (if ((overlaid k f s).station st).issued.isSome = true then overlaid k f s
        else Machine.chargeMeters st 0 (overlaid k f s)) =
        overlaid k f (if (s.station st).issued.isSome = true then s else Machine.chargeMeters st 0 s) := by
      rw [apply_ite (overlaid k f), ← h.chargeMeters]
      rfl
    rw [hmeters, ← h.raise]
    rfl

theorem Unread.revokeAll (s : State) : revokeAll (overlaid k f s) = overlaid k f (revokeAll s) := by
  unfold Machine.revokeAll
  rw [h.storeFloor, foldl_overlaid h.revokeGrant, h.arbitrate]

theorem Unread.waterStep (st : Fin 6) (level : Nat) (s : State) :
    waterStep st level (overlaid k f s) = overlaid k f (waterStep st level s) := by
  have harbiter : ∀ (g : Arbiter → Arbiter) (t : State), Machine.arbitrate ((overlaid k f t).onArbiter g) =
      overlaid k f (Machine.arbitrate (t.onArbiter g)) := fun g t => h.arbitrate (t.onArbiter g)
  unfold Machine.waterStep
  rw [h.releaseGrant]
  simp only [harbiter, apply_ite (overlaid k f)]
  rfl

end

/-! ## A request served (R178 to R181) -/

/-- R178, R179: the link's marks once a request frame is taken. -/
def frameTaken (miso : List Byte) (l : Link) : Link :=
  { l with miso := miso, response := none, held := false }

theorem unread_frameTaken (miso : List Byte) : Unread (frameTaken miso) id :=
  ⟨fun n o l => postNotice_with n o l none miso false, fun _ => rfl, fun _ => rfl, fun _ => rfl⟩

theorem takeFrame_eq (n : Nat) (s : State) : takeFrame n s = overlaid (frameTaken (presented s n)) id s := rfl

/-- R181: the answer of a request whose effects are those of a move of the water, told without the transaction. -/
theorem putResponse_taken {s w : State} {size : Nat} (hw : w = { s with
      jobs := w.jobs, plans := w.plans, stations := w.stations, arbiter := w.arbiter, link := w.link })
    (hlink : LinkKept s.link w.link) (q : Status) (body : List Byte) :
    putResponse q body (overlaid (frameTaken (presented s (size + 2))) id w) = { s with
      jobs := w.jobs
      plans := w.plans
      stations := w.stations
      arbiter := w.arbiter
      link := { answeredLink s size q body with notices := w.link.notices, overflow := w.link.overflow } } := by
  have hmode := hlink.mode
  have hpending : w.pending = s.pending := by rw [hw]
  have hstock := congrArg State.stock hw
  have hengine := congrArg State.engine hw
  have hplant := congrArg State.plant hw
  have hrates := congrArg State.rates hw
  have hpins := congrArg State.pins hw
  exact state_eq hstock rfl hengine rfl rfl rfl hplant hrates (link_ext rfl (congrArg waitingFrame hpending) rfl rfl hmode rfl) hpins
    hpending

/-- R178 to R181: a request whose block moves the water and does not see the transaction's marks. -/
theorem serve_of_water {size : Nat} {work : State → Reply} {s w : State} {q : Status} {body : List Byte}
    (h : work (overlaid (frameTaken (presented s (size + 2))) id s) = ⟨overlaid (frameTaken (presented s (size + 2))) id w, q, body⟩)
    (hw : WaterFrame s w) : serve size work s = .next { s with
      jobs := w.jobs
      stations := w.stations
      arbiter := w.arbiter
      link := { answeredLink s size q body with notices := w.link.notices, overflow := w.link.overflow } } := by
  rw [serve_of_work h]
  dsimp only
  rw [putResponse_taken (by rw [hw.state]) hw.link]
  have hplans : w.plans = s.plans := by rw [hw.state]
  rw [hplans]

/-! ## What a charge reads (R97, R140) -/

/-- The state with other stations and another arbiter. -/
def rehomed (v : Vector Station 6) (a : Arbiter) (s : State) : State :=
  { s with stations := v, arbiter := a }

theorem budgetWatch_rehomed (j : Fin 64) (v : Vector Station 6) (a : Arbiter) (s : State) :
    budgetWatch j (rehomed v a s) = rehomed v a (budgetWatch j s) := by
  unfold budgetWatch
  show (match s.job j with | some b => _ | none => _) = _
  cases s.job j with
  | none => rfl
  | some b =>
    dsimp only
    rw [apply_ite (rehomed v a)]
    rfl

theorem charge_rehomed (j : Fin 64) (c : Category) (q r : Nat) (v : Vector Station 6) (a : Arbiter) (s : State) :
    charge j c q r (rehomed v a s) = rehomed v a (charge j c q r s) := by
  unfold charge
  show (match s.job j with | some b => _ | none => _) = _
  cases s.job j with
  | none => rfl
  | some b =>
    dsimp only
    rw [← budgetWatch_rehomed, apply_ite (rehomed v a)]
    rfl

/-- R97: a charge of meters reads the meters, the accounts, the water rate and the notices. -/
theorem chargeMeters_rehomed {st : Fin 6} {v : Vector Station 6} {s : State} (h : SameMeters (s.station st) (v.get st)) (j : Fin 64)
    (a : Arbiter) : chargeMeters st j (rehomed v a s) = rehomed (v.set st (snapMeters (v.get st))) a (chargeMeters st j s) := by
  have key : ∀ (c : Prop) [Decidable c] (q : Category) (n r : Nat) (t : State),
      (if c then charge j q n r (rehomed v a t) else rehomed v a t) = rehomed v a (if c then charge j q n r t else t) :=
    fun c _ q n r t => by rw [apply_ite (rehomed v a), charge_rehomed]
  have hstation : (rehomed v a s).station st = v.get st := rfl
  have hrates : (rehomed v a s).rates = s.rates := rfl
  unfold chargeMeters
  dsimp only
  rw [hstation, hrates, h.run, h.runSnap, h.water, h.waterSnap, h.rate, key, key]
  rfl

end Sys2Proof.Machine
end

section
/-! A grant made and a grant released (R105, R107): what each leaves of the arbiter and the station, and the station events that a tick
made due (R84, R96, R109).  The statement O49. -/

namespace Sys2Proof.Machine

/-! ## One grant made (R104, R107) -/

theorem find?_insertBy_station (x : Grant) (l : List Grant) :
    (insertBy (fun x y => decide (x.station < y.station)) x l).find? (fun g => g.station == x.station) = some x := by
  induction l with
  | nil => simp [insertBy]
  | cons y l ih =>
    rw [insertBy]
    by_cases hlt : y.station < x.station
    · have hne : (y.station == x.station) = false := by simpa using ne_of_lt hlt
      rw [if_pos (decide_eq_true hlt), List.find?_cons, hne]
      exact ih
    · rw [if_neg (by simpa using hlt), List.find?_cons, beq_self_eq_true]

/-- R107: the station of a grant made holds that grant, and every other what it held. -/
theorem grant_makeGrant (r : Request) (s : State) (q : Fin 6) : (makeGrant r s).grant q =
    if q = r.station then some ⟨r.station, r.level, r.stamp, false⟩ else s.grant q := by
  unfold State.grant
  rw [makeGrant_grants]
  split
  · rename_i h
    rw [h]
    exact find?_insertBy_station ⟨r.station, r.level, r.stamp, false⟩ _
  · rename_i h
    exact find?_insertBy_false _ _ _ (by simpa using fun e => h e.symm) _

theorem length_insertBy {α : Type} (before : α → α → Bool) (x : α) (l : List α) : (insertBy before x l).length = l.length + 1 :=
  (insertBy_perm before x l).length_eq

theorem length_makeGrant_grants (r : Request) (s : State) : (makeGrant r s).arbiter.grants.length = s.arbiter.grants.length + 1 := by
  rw [makeGrant_grants]
  exact length_insertBy ..

/-- R104: arbitration that makes one grant, no other request being above the floor. -/
theorem arbitrate_one {s : State} {r : Request} (hnext : nextGrant s = some r)
    (hlow : ∀ q ∈ s.arbiter.pending, q.station ≠ r.station → q.level ≤ s.arbiter.floor) : arbitrate s = makeGrant r s := by
  rw [arbitrate_of_nextGrant hnext]
  refine arbitrate_of_low fun q hq => ?_
  rw [floor_makeGrant]
  rw [makeGrant_pending] at hq
  obtain ⟨hq, hne⟩ := List.mem_filter.mp hq
  exact hlow q hq (by simpa using hne)

/-! ## One grant released (R105) -/

/-- R105, steps 1 and 2: the meters charged to job 0, the grant gone, the hold timer idle. -/
theorem removeGrant_charged (st : Fin 6) (s : State) : removeGrant st (chargeMeters st 0 s) = { s with
    jobs := (chargeMeters st 0 s).jobs
    stations := s.stations.set st (withoutGrant true (s.station st))
    arbiter := dropGrant st s.arbiter
    link := (chargeMeters st 0 s).link } := by
  rw [chargeMeters_state]
  simp only [removeGrant, State.onArbiter, State.onStation, get_set_self, Vector.set_set]
  rfl

/-- R97: the Job Table after the meters are charged to job 0. -/
theorem jobs_chargeMeters {st : Fin 6} {s : State} {b : Job} (h : s.job 0 = some b) : (chargeMeters st 0 s).jobs =
    { s.jobs with slots := s.jobs.slots.set 0 (some (meteredJob (s.station st) s.rates.water b)) } := by
  refine jobTable_ext (chargeMeters_pieces ..) fun j => ?_
  refine (job_chargeMeters j st 0 s).trans ?_
  split
  · rename_i hj
    subst hj
    rw [h]
    exact (get_set_self _ (0 : Fin 64) _).symm
  · rename_i hj
    exact (get_set_ne _ (0 : Fin 64) j _ hj).symm

theorem grant_dropGrant_self (st : Fin 6) (s : State) : (s.onArbiter (dropGrant st)).grant st = none :=
  grant_eq_none.mpr fun g hg => by simpa using (List.mem_filter.mp hg).2

/-- R99: one grant of each station, and so one less without a station's. -/
theorem length_dropGrant {l : List Grant} (h : (l.map fun g => g.station).Nodup) {st : Fin 6} (hst : ∃ g ∈ l, g.station = st) :
    (l.filter fun g => g.station != st).length + 1 = l.length := by
  have hmem : st ∈ l.map fun g => g.station := List.mem_map.mpr hst
  have hlen : (l.filter fun g => g.station != st).length = ((l.map fun g => g.station).erase st).length := by
    rw [h.erase_eq_filter, List.filter_map, List.length_map]
    rfl
  have hpos := List.length_pos_of_mem hmem
  rw [hlen, List.length_erase_of_mem hmem, List.length_map] at *
  omega

theorem WaterOk.pending_nodup {s : State} (h : WaterOk s) : (s.arbiter.pending.map fun r => r.station).Nodup :=
  (List.nodup_append'.mp h.1).1

theorem WaterOk.grants_nodup {s : State} (h : WaterOk s) : (s.arbiter.grants.map fun g => g.station).Nodup :=
  (List.nodup_append'.mp h.1).2.1

theorem WaterOk.clean_of_permit {s : State} (h : WaterOk s) {st : Fin 6} (hp : s.permit st = true) : s.plant.clean.accepted ≠ 0 :=
  fun hc => by
    obtain ⟨g, hg, -⟩ := permit_iff.mp hp
    rw [h.2 hc] at hg
    cases hg

theorem valve_of_permit_false {s : State} {st : Fin 6} (h : s.permit st = false) : s.valve st = false := by
  rw [State.valve, h, Bool.false_and]

/-! ## The station events (R84, R96, R109) -/

/-- R105, R109: the part when a hold time has run out, before arbitration. -/
def holdExpired (st : Fin 6) (b : Job) (s : State) : State :=
  { s with
    jobs := { s.jobs with slots := s.jobs.slots.set 0 (some (meteredJob (s.station st) s.rates.water b)) }
    stations := s.stations.set st { s.station st with
      hold := none, runSnap := (s.station st).runMeter, waterSnap := (s.station st).waterMeter }
    arbiter := { s.arbiter with grants := s.arbiter.grants.filter fun g => g.station != st }
    link := { s.link with notices := (chargeMeters st 0 s).link.notices, overflow := (chargeMeters st 0 s).link.overflow } }

theorem LinkKept.eq {l m : Link} (h : LinkKept l m) : m = { l with notices := m.notices, overflow := m.overflow } :=
  link_ext h.response h.held rfl rfl h.mode h.miso

/-- R105, R109: the grant of a hold time that has run out is released. -/
theorem expireHold_of_permit {st : Fin 6} {s : State} {b : Job} (hhold : (s.station st).hold = some 0) (hp : s.permit st = true)
    (hb : s.job 0 = some b) : expireHold st s = arbitrate (holdExpired st b s) := by
  have hstop : s.onStation st stopHold = rehomed (s.stations.set st (stopHold (s.station st))) s.arbiter s := rfl
  have hmeters : SameMeters (s.station st) ((s.stations.set st (stopHold (s.station st))).get st) := by
    rw [get_set_self]
    exact ⟨rfl, rfl, rfl, rfl, rfl⟩
  rw [expireHold, if_pos hhold, releaseIfHeld, if_pos (show (s.onStation st stopHold).permit st = true from hp), releaseGrant,
    removeGrant_charged, hstop, chargeMeters_rehomed hmeters]
  refine congrArg arbitrate (state_eq rfl (jobs_chargeMeters hb) rfl rfl ?_ rfl rfl rfl (chargeMeters_link st 0 s).eq rfl rfl)
  show (s.stations.set st (stopHold (s.station st))).set st (withoutGrant true ((s.stations.set st (stopHold (s.station st))).get st)) = _
  rw [get_set_self, Vector.set_set]
  rfl

theorem expireHold_of_dry {st : Fin 6} {s : State} (hhold : (s.station st).hold = some 0) (hp : s.permit st = false) :
    expireHold st s = s.onStation st stopHold := by
  rw [expireHold, if_pos hhold, releaseIfHeld]
  exact if_neg (by rw [show (s.onStation st stopHold).permit st = false from hp]; decide)

section
variable {st : Fin 6} {s : State} {b : Job}

theorem holdExpired_grant : (holdExpired st b s).grant st = none := grant_dropGrant_self st s

/-- R99, R105: a station that has released its grant has no water, whatever arbitration does. -/
theorem holdExpired_dry (hp : s.permit st = true) (hwater : WaterOk s) :
    (arbitrate (holdExpired st b s)).station st = (holdExpired st b s).station st ∧
      (arbitrate (holdExpired st b s)).permit st = false := by
  have hnone : (holdExpired st b s).request st = none := hwater.request_of_permit hp
  obtain ⟨hstation, -, hgrant⟩ := arbitrate_of_absent hnone
  exact ⟨hstation, permit_eq_false.mpr (hgrant holdExpired_grant)⟩

/-- R104: the one request above the floor takes the place. -/
theorem holdExpired_one (hp : s.permit st = true) (hwater : WaterOk s) {r : Request} (hr : r ∈ s.arbiter.pending)
    (hfloor : s.arbiter.floor < r.level) (hone : ∀ q ∈ s.arbiter.pending, q = r ∨ q.level ≤ s.arbiter.floor)
    (hplace : s.arbiter.grants.length ≤ s.arbiter.capacity) :
    arbitrate (holdExpired st b s) = makeGrant r (holdExpired st b s) ∧
      (holdExpired st b s).arbiter.grants.length + 1 = s.arbiter.grants.length := by
  have hlen : (holdExpired st b s).arbiter.grants.length + 1 = s.arbiter.grants.length :=
    length_dropGrant hwater.grants_nodup (permit_iff.mp hp)
  refine ⟨arbitrate_one (nextGrant_of_best ?_ (hwater.clean_of_permit hp) hr hfloor fun q hq hlow => ?_) fun q hq hne => ?_, hlen⟩
  · show (holdExpired st b s).arbiter.grants.length < s.arbiter.capacity
    omega
  · exact .inl ((hone q hq).resolve_right (Nat.not_le.mpr hlow))
  · exact (hone q hq).resolve_left fun e => hne (by rw [e])

end

/-- Settles O49: the marks and timers as they stand, and the release by `expireHold_of_permit`. -/
theorem stationEventsTaken : Obligations.StationEventsTaken := by
  unfold Obligations.StationEventsTaken
  intro s st
  refine ⟨fun h => ?_, fun h => ?_, fun h => ?_, fun h => ?_, fun h => ?_, fun h hp => ?_, fun b hhold hp hb => ?_⟩
  · exact congrArg Host.Outcome.next (if_pos h)
  · exact congrArg Host.Outcome.next (if_neg (by rw [h]; decide))
  · exact congrArg Host.Outcome.next (if_pos h)
  · exact congrArg Host.Outcome.next (if_neg (by rw [h]; decide))
  · exact congrArg Host.Outcome.next (if_neg h)
  · exact congrArg Host.Outcome.next (expireHold_of_dry h hp)
  · have hstate := arbitrate_state (holdExpired st b s)
    have hjobs : (arbitrate (holdExpired st b s)).jobs = (holdExpired st b s).jobs := by rw [hstate]
    have hdry := fun h : WaterOk s => holdExpired_dry (b := b) hp h
    refine ⟨_, holdExpired st b s, _, rfl, rfl, rfl, congrArg Host.Outcome.next (expireHold_of_permit hhold hp hb), ?_,
      fun j hj => ?_, by rw [hjobs]; rfl, fun hlow => ?_, fun hwater => ?_, fun r hr hwater hfloor hone hplace => ?_⟩
    · rw [State.job, hjobs]
      exact get_set_self _ (0 : Fin 64) _
    · rw [State.job, hjobs]
      exact get_set_ne _ (0 : Fin 64) j _ hj
    · have hstill := arbitrate_of_low (s := holdExpired st b s) hlow
      have hp' := permit_eq_false.mpr (holdExpired_grant (st := st) (b := b) (s := s))
      rw [hstill]
      exact ⟨rfl, hp', valve_of_permit_false hp'⟩
    · obtain ⟨hstation, hp'⟩ := hdry hwater
      exact ⟨hstation, hp', valve_of_permit_false hp'⟩
    · obtain ⟨hmade, hlen⟩ := holdExpired_one (b := b) hp hwater hr hfloor hone hplace
      rw [hmade]
      refine ⟨(grant_makeGrant ..).trans (if_pos rfl), makeGrant_pending .., ?_, by rw [makeGrant_state]⟩
      rw [length_makeGrant_grants, hlen]

end Sys2Proof.Machine
end

section
/-! The floor formed afresh and the clean tank run dry (R101, R102, R105, R106): the turns of the stations in ascending order, told as
their charges one after another and what is left of the stations and the arbiter. -/

namespace Sys2Proof.Machine

/-! ## Turns of the stations, one after another -/

/-- What the turns of a list of stations do: a station in turn by `c` is changed by `g`, the arbiter by `H`, and the accounts and notices
by `C`, which leaves the other stations' meters.  `Inv` is what a turn needs of the stations to come. -/
structure Turns (F : State → Fin 6 → State) (c : Fin 6 → Bool) (g : Fin 6 → Station → Station) (H : Arbiter → Fin 6 → Arbiter)
    (C : State → Fin 6 → State) (Inv : List (Fin 6) → Vector Station 6 → Arbiter → Prop) : Prop where
  turn : ∀ st l v a x, Inv (st :: l) v a → SameMeters (x.station st) (v.get st) → F (rehomed v a x) st =
    if c st then rehomed (v.set st (g st (v.get st))) (H a st) (C x st) else rehomed v a x
  skip : ∀ st l v a, Inv (st :: l) v a → Inv l v a
  next : ∀ st l v a, st ∉ l → c st = true → Inv (st :: l) v a → Inv l (v.set st (g st (v.get st))) (H a st)
  others : ∀ x st q, q ≠ st → (C x st).station q = x.station q

theorem Turns.fold {F : State → Fin 6 → State} {c : Fin 6 → Bool} {g : Fin 6 → Station → Station} {H : Arbiter → Fin 6 → Arbiter}
    {C : State → Fin 6 → State} {Inv : List (Fin 6) → Vector Station 6 → Arbiter → Prop} (h : Turns F c g H C Inv) {l : List (Fin 6)}
    (hl : l.Nodup) {v : Vector Station 6} {a : Arbiter} {x : State} (hinv : Inv l v a)
    (hmeters : ∀ q ∈ l, SameMeters (x.station q) (v.get q)) :
    ∃ w, l.foldl F (rehomed v a x) = rehomed w ((l.filter c).foldl H a) ((l.filter c).foldl C x) ∧
      ∀ q, w.get q = if q ∈ l ∧ c q = true then g q (v.get q) else v.get q := by
  induction l generalizing v a x with
  | nil => exact ⟨v, rfl, fun q => by simp⟩
  | cons st l ih =>
    obtain ⟨hst, hl⟩ := List.nodup_cons.mp hl
    have hturn := h.turn st l v a x hinv (hmeters st List.mem_cons_self)
    have hrest := fun q hq => hmeters q (List.mem_cons_of_mem st hq)
    rw [List.foldl_cons, hturn]
    cases hc : c st with
    | false =>
      obtain ⟨w, hw, hget⟩ := ih hl (h.skip st l v a hinv) hrest
      refine ⟨w, by rw [if_neg Bool.false_ne_true, hw, List.filter_cons_of_neg (by rw [hc]; decide)], fun q => (hget q).trans ?_⟩
      refine if_congr ⟨fun ⟨h1, h2⟩ => ⟨List.mem_cons_of_mem _ h1, h2⟩, fun ⟨h1, h2⟩ => ⟨?_, h2⟩⟩ rfl rfl
      exact (List.mem_cons.mp h1).resolve_left fun e => by rw [e, hc] at h2; cases h2
    | true =>
      have hne : ∀ q ∈ l, q ≠ st := fun q hq e => hst (e ▸ hq)
      obtain ⟨w, hw, hget⟩ := ih hl (v := v.set st (g st (v.get st))) (x := C x st) (h.next st l v a hst hc hinv) fun q hq => by
        rw [h.others _ _ _ (hne q hq), get_set_ne _ _ _ _ (hne q hq)]
        exact hrest q hq
      refine ⟨w, by rw [if_pos rfl, hw, List.filter_cons_of_pos hc]; rfl, fun q => (hget q).trans ?_⟩
      by_cases hq : q = st
      · subst hq
        rw [if_neg fun h => hst h.1, get_set_self, if_pos ⟨List.mem_cons_self, hc⟩]
      · rw [get_set_ne _ _ _ _ hq]
        exact if_congr (by simp [hq]) rfl rfl

/-! ## Grants of different stations (R99) -/

/-- R99: with one grant of each station, each is its station's. -/
theorem find?_station_of_mem {l : List Grant} (h : (l.map fun g => g.station).Nodup) {g : Grant} (hg : g ∈ l) :
    l.find? (fun x => x.station == g.station) = some g := by
  induction l with
  | nil => cases hg
  | cons x l ih =>
    obtain ⟨hx, hl⟩ := List.nodup_cons.mp h
    rcases List.mem_cons.mp hg with rfl | hg
    · rw [List.find?_cons, beq_self_eq_true]
    · have hne : (x.station == g.station) = false := by
        simpa using fun e : x.station = g.station => hx (List.mem_map.mpr ⟨g, hg, e.symm⟩)
      rw [List.find?_cons, hne]
      exact ih hl hg

theorem grant_station {s : State} {st : Fin 6} {g : Grant} (h : s.grant st = some g) : g.station = st ∧ g ∈ s.arbiter.grants :=
  ⟨by simpa using List.find?_some h, List.mem_of_find?_eq_some h⟩

/-- The grants left when several stations' are dropped. -/
theorem foldl_dropGrant (l : List (Fin 6)) (a : Arbiter) : l.foldl (fun a st => dropGrant st a) a =
    { a with grants := a.grants.filter fun g => decide (g.station ∉ l) } := by
  induction l generalizing a with
  | nil => simp
  | cons st l ih =>
    rw [List.foldl_cons, ih]
    simp only [dropGrant, List.filter_filter]
    congr 2
    funext g
    by_cases h1 : g.station = st <;> by_cases h2 : g.station ∈ l <;> simp [h1, h2]

theorem find?_dropGrant_ne {st q : Fin 6} (h : q ≠ st) (l : List Grant) :
    (l.filter fun g => g.station != st).find? (fun g => g.station == q) = l.find? fun g => g.station == q := by
  rw [List.find?_filter]
  congr 1
  funext g
  by_cases hg : g.station = q
  · simp [hg, h]
  · simp [hg]

/-! ## The meters charged in turn (R97) -/

/-- Charges of the meters of several stations touch accounts, snapshots and notices alone. -/
theorem foldl_money {F : State → Fin 6 → State} (hF : ∀ s st, WaterFrame s (F s st)) (ha : ∀ s st, (F s st).arbiter = s.arbiter)
    (l : List (Fin 6)) (s : State) : l.foldl F s = { s with
      jobs := (l.foldl F s).jobs, stations := (l.foldl F s).stations, link := (l.foldl F s).link } := by
  have hw := foldl_rel (R := WaterFrame) .refl (fun _ _ _ => .trans) F hF l s
  have harb := foldl_rel (R := fun s t : State => t.arbiter = s.arbiter) (fun _ => rfl) (fun _ _ _ h g => g.trans h) F ha l s
  generalize l.foldl F s = t at *
  rw [hw.state, harb]

theorem arbiter_chargeMeters (st : Fin 6) (j : Fin 64) (s : State) : (chargeMeters st j s).arbiter = s.arbiter := by
  rw [chargeMeters_state]

/-! ## The marked grants released (R102, R105) -/

/-- R102: the station holds a marked grant and has no cut issued. -/
def losesGrant (s : State) (st : Fin 6) : Bool :=
  decide ((s.station st).issued = none) && ((s.grant st).map fun g => g.mark).getD false

/-- With no request above the floor a release moves nothing else. -/
theorem releaseMarkedIdle_eq {s : State} (hlow : ∀ r ∈ s.arbiter.pending, r.level ≤ s.arbiter.floor) (st : Fin 6) :
    releaseMarkedIdle s st = if losesGrant s st then removeGrant st (chargeMeters st 0 s) else s := by
  have hrelease : releaseGrant st s = removeGrant st (chargeMeters st 0 s) := by
    refine arbitrate_of_low (s := removeGrant st (chargeMeters st 0 s)) ?_
    rw [removeGrant_charged]
    exact hlow
  unfold releaseMarkedIdle releaseIfMarked losesGrant
  cases hissued : (s.station st).issued with
  | some e => simp
  | none =>
    cases hg : s.grant st with
    | none => simp
    | some g => simp [hrelease]

/-- What a release of marked grants needs of the stations to come: nothing to grant, and their own grants and cuts as at first. -/
structure ReleaseInv (s : State) (l : List (Fin 6)) (v : Vector Station 6) (a : Arbiter) : Prop where
  low : ∀ r ∈ a.pending, r.level ≤ a.floor
  issued : ∀ q ∈ l, (v.get q).issued = (s.station q).issued
  grant : ∀ q ∈ l, a.grants.find? (fun g => g.station == q) = s.grant q

theorem releaseTurns (s : State) : Turns releaseMarkedIdle (losesGrant s) (fun _ => withoutGrant true) (fun a st => dropGrant st a)
    (fun x st => chargeMeters st 0 x) (ReleaseInv s) where
  turn st l v a x h hm := by
    have hc : losesGrant (rehomed v a x) st = losesGrant s st := by
      unfold losesGrant
      rw [show ((rehomed v a x).station st).issued = _ from h.issued st List.mem_cons_self,
        show (rehomed v a x).grant st = _ from h.grant st List.mem_cons_self]
    rw [releaseMarkedIdle_eq (s := rehomed v a x) h.low, hc, removeGrant_charged, chargeMeters_rehomed hm]
    refine ite_congr rfl (fun _ => ?_) fun _ => rfl
    rw [chargeMeters_state]
    rfl
  skip st l v a h := ⟨h.low, fun q hq => h.issued q (List.mem_cons_of_mem _ hq), fun q hq => h.grant q (List.mem_cons_of_mem _ hq)⟩
  next st l v a hst _ h := by
    have hne : ∀ q ∈ l, q ≠ st := fun q hq e => hst (e ▸ hq)
    refine ⟨h.low, fun q hq => ?_, fun q hq => ?_⟩
    · rw [get_set_ne _ _ _ _ (hne q hq)]
      exact h.issued q (List.mem_cons_of_mem _ hq)
    · exact (find?_dropGrant_ne (hne q hq) _).trans (h.grant q (List.mem_cons_of_mem _ hq))
  others x st q hq := station_chargeMeters_ne hq 0 x

theorem sameMeters_refl (x : Station) : SameMeters x x := ⟨rfl, rfl, rfl, rfl, rfl⟩

/-- R102, R105: the marked grants released with no request above the floor; the charges are told from a state with another arbiter. -/
theorem foldl_releaseMarkedIdle {s : State} (hlow : ∀ r ∈ s.arbiter.pending, r.level ≤ s.arbiter.floor) {x : State}
    (hx : s = { x with arbiter := s.arbiter }) :
    ∃ w, allStations.foldl releaseMarkedIdle s = rehomed w
        { s.arbiter with grants := s.arbiter.grants.filter fun g => !losesGrant s g.station }
        ((allStations.filter (losesGrant s)).foldl (fun x st => chargeMeters st 0 x) x) ∧
      ∀ q, w.get q = if losesGrant s q = true then withoutGrant true (s.station q) else s.station q := by
  have hstations : s.stations = x.stations := by rw [hx]
  have hsame : s = rehomed s.stations s.arbiter x := by rw [hstations]; exact hx
  obtain ⟨w, hw, hget⟩ := (releaseTurns s).fold allStations_nodup (v := s.stations) (a := s.arbiter) (x := x)
    ⟨hlow, fun _ _ => rfl, fun _ _ => rfl⟩ fun q _ => by rw [State.station, hstations]; exact sameMeters_refl _
  refine ⟨w, ?_, fun q => (hget q).trans (if_congr (by simp [mem_allStations]) rfl rfl)⟩
  rw [← hsame] at hw
  rw [hw, foldl_dropGrant]
  congr 3
  funext g
  simp [List.mem_filter, mem_allStations]

end Sys2Proof.Machine
end

section
/-! SET_WATER in both forms, arbitration's clauses and the floor formed afresh (R101, R102, R104, R105, R107, R112, R113).  The statement
O50. -/

namespace Sys2Proof.Machine

/-! ## The floor (R101, R102) -/

theorem releaseGrant_keeps (st : Fin 6) (s : State) : (releaseGrant st s).arbiter.floor = s.arbiter.floor ∧
    ∀ q, q ≠ st → s.permit q = true → (releaseGrant st s).permit q = true := by
  refine ⟨?_, fun q hq hp => ?_⟩
  · rw [releaseGrant, floor_arbitrate, removeGrant_charged]
    rfl
  · obtain ⟨g, hg, hst⟩ := permit_iff.mp hp
    refine permit_iff.mpr ⟨g, (stations_arbitrate _).2 g ?_, hst⟩
    rw [removeGrant_charged]
    exact List.mem_filter.mpr ⟨hg, by simpa [hst] using hq⟩

/-- R102: a turn keeps the floor, and a grant with a cut issued. -/
theorem releaseMarkedIdle_keeps (s : State) (q : Fin 6) : (releaseMarkedIdle s q).arbiter.floor = s.arbiter.floor ∧
    ∀ st, (s.station st).issued.isSome = true → s.permit st = true → (releaseMarkedIdle s q).permit st = true := by
  unfold releaseMarkedIdle
  split
  · exact ⟨rfl, fun _ _ => id⟩
  · rename_i hidle
    unfold releaseIfMarked
    split
    · split
      · obtain ⟨hfloor, hkeep⟩ := releaseGrant_keeps q s
        exact ⟨hfloor, fun st hissued => hkeep st fun e => hidle (e ▸ hissued)⟩
      · exact ⟨rfl, fun _ _ => id⟩
    · exact ⟨rfl, fun _ _ => id⟩

theorem issued_of_water {s t : State} (h : WaterFrame s t) (st : Fin 6) : (t.station st).issued = (s.station st).issued := by
  have hkept := h.station st
  unfold StationKept at hkept
  rw [hkept]

theorem queue_of_water {s t : State} (h : WaterFrame s t) (st : Fin 6) : (t.station st).queue = (s.station st).queue := by
  have hkept := h.station st
  unfold StationKept at hkept
  rw [hkept]

theorem foldl_releaseMarkedIdle_keeps (l : List (Fin 6)) (s : State) : (l.foldl releaseMarkedIdle s).arbiter.floor = s.arbiter.floor ∧
    ∀ st, (s.station st).issued.isSome = true → s.permit st = true → (l.foldl releaseMarkedIdle s).permit st = true := by
  induction l generalizing s with
  | nil => exact ⟨rfl, fun _ _ => id⟩
  | cons q l ih =>
    obtain ⟨hfloor, hkeep⟩ := releaseMarkedIdle_keeps s q
    obtain ⟨hfloor', hkeep'⟩ := ih (releaseMarkedIdle s q)
    refine ⟨hfloor'.trans hfloor, fun st hissued hp => hkeep' st ?_ (hkeep st hissued hp)⟩
    rw [issued_of_water (releaseMarkedIdle_water s q)]
    exact hissued

/-- R102: the part with a new floor and the marks against it. -/
def refloored (s : State) : State :=
  (storeFloor s).onArbiter markGrants

theorem permit_refloored (s : State) (st : Fin 6) : (refloored s).permit st = s.permit st := by
  refine Bool.eq_iff_iff.mpr ?_
  rw [permit_iff, permit_iff]
  simp [refloored, markGrants, storeFloor]

theorem reformFloor_of_change {s : State} (h : floorNow s ≠ s.arbiter.floor) :
    reformFloor s = arbitrate (allStations.foldl releaseMarkedIdle (refloored s)) := if_neg h

theorem permit_arbitrate {s : State} {st : Fin 6} (h : s.permit st = true) : (arbitrate s).permit st = true := by
  obtain ⟨g, hg, hst⟩ := permit_iff.mp h
  exact permit_iff.mpr ⟨g, (stations_arbitrate s).2 g hg, hst⟩

/-- R101: the floor formed afresh is the largest of its terms. -/
theorem floor_reformFloor (s : State) : (reformFloor s).arbiter.floor = floorNow s := by
  by_cases h : floorNow s = s.arbiter.floor
  · rw [reformFloor, if_pos h, h]
  · rw [reformFloor_of_change h, floor_arbitrate, (foldl_releaseMarkedIdle_keeps ..).1]
    rfl

/-- R102: a grant with a cut issued is kept. -/
theorem permit_reformFloor {s : State} {st : Fin 6} (hissued : (s.station st).issued.isSome = true) (hp : s.permit st = true) :
    (reformFloor s).permit st = true := by
  by_cases h : floorNow s = s.arbiter.floor
  · rw [reformFloor, if_pos h]
    exact hp
  · rw [reformFloor_of_change h]
    exact permit_arbitrate ((foldl_releaseMarkedIdle_keeps allStations (refloored s)).2 st hissued ((permit_refloored s st).trans hp))

theorem WaterFrame.floorNow {s t : State} (h : WaterFrame s t) : floorNow t = floorNow s := by
  have hplant : t.plant = s.plant := by rw [h.state]
  unfold Machine.floorNow tableTerm sumpTerm loadingTerm
  rw [h.table, hplant, h.link.mode]

/-- R102: with every marked grant's cut issued, the turns release nothing. -/
theorem foldl_releaseMarkedIdle_of_issued {s : State}
    (h : ∀ g ∈ s.arbiter.grants, g.mark = true → (s.station g.station).issued.isSome = true) (l : List (Fin 6)) :
    l.foldl releaseMarkedIdle s = s := by
  have hturn : ∀ st, releaseMarkedIdle s st = s := fun st => by
    unfold releaseMarkedIdle
    split
    · rfl
    · rename_i hidle
      refine releaseIfMarked_of_unmarked fun g hg => ?_
      obtain ⟨hst, hmem⟩ := grant_station hg
      exact Bool.eq_false_iff.mpr fun hm => hidle (hst ▸ h g hmem hm)
  induction l with
  | nil => rfl
  | cons st l ih => rw [List.foldl_cons, hturn, ih]

theorem refloored_eq (s : State) : refloored s = { s with arbiter := { s.arbiter with
    floor := floorNow s
    grants := s.arbiter.grants.map fun g => { g with mark := decide (g.level ≤ floorNow s) } } } := rfl

/-- R101, R102: a new floor with no grant to release. -/
theorem reformFloor_of_kept {s : State} (h : floorNow s ≠ s.arbiter.floor)
    (hkept : ∀ g ∈ s.arbiter.grants, g.level ≤ floorNow s → (s.station g.station).issued.isSome = true) :
    reformFloor s = arbitrate (refloored s) := by
  rw [reformFloor_of_change h, foldl_releaseMarkedIdle_of_issued fun g hg hm => ?_]
  rw [refloored_eq] at hg
  obtain ⟨x, hx, rfl⟩ := List.mem_map.mp hg
  exact hkept x hx (of_decide_eq_true hm)

/-! ## A new floor with no request above it (R102, R105) -/

/-- R102: the stations whose grants a new floor `f` releases. -/
def fallsUnder (s : State) (f : Nat) (st : Fin 6) : Bool :=
  decide ((s.station st).issued = none) && s.arbiter.grants.any fun g => g.station == st && decide (g.level ≤ f)

theorem find?_mark_eq_any {l : List Grant} (h : (l.map fun g => g.station).Nodup) (p : Grant → Bool) (st : Fin 6) :
    ((l.find? fun g => g.station == st).map p).getD false = l.any fun g => g.station == st && p g := by
  cases hf : l.find? fun g => g.station == st with
  | none =>
    refine Eq.symm (List.any_eq_false.mpr fun g hg => ?_)
    have := List.find?_eq_none.mp hf g hg
    simp_all
  | some g =>
    have hst : g.station = st := by simpa using List.find?_some hf
    refine Bool.eq_iff_iff.mpr ⟨fun hp => List.any_eq_true.mpr ⟨g, List.mem_of_find?_eq_some hf, by simpa [hst] using hp⟩, fun hp => ?_⟩
    obtain ⟨x, hx, hxp⟩ := List.any_eq_true.mp hp
    rw [Bool.and_eq_true, beq_iff_eq] at hxp
    obtain ⟨rfl, hxp⟩ := hxp
    rw [find?_station_of_mem h hx] at hf
    cases hf
    exact hxp

theorem losesGrant_refloored {s : State} (h : (s.arbiter.grants.map fun g => g.station).Nodup) (st : Fin 6) :
    losesGrant (refloored s) st = fallsUnder s (floorNow s) st := by
  unfold losesGrant fallsUnder
  refine congrArg (_ && ·) ?_
  rw [← find?_mark_eq_any h (fun g => decide (g.level ≤ floorNow s)), State.grant, refloored_eq]
  simp only [List.find?_map, Option.map_map]
  rfl

/-- R101, R102, R105: the marked grants released in ascending station order, their meters charged to job 0. -/
theorem reformFloor_of_low {s : State} (h : floorNow s ≠ s.arbiter.floor) (hlow : ∀ r ∈ s.arbiter.pending, r.level ≤ floorNow s)
    (hnodup : (s.arbiter.grants.map fun g => g.station).Nodup) :
    ∃ w, reformFloor s = rehomed w
        { s.arbiter with
          floor := floorNow s
          grants := (s.arbiter.grants.filter fun g => !fallsUnder s (floorNow s) g.station).map
            fun g => { g with mark := decide (g.level ≤ floorNow s) } }
        ((allStations.filter (fallsUnder s (floorNow s))).foldl (fun x st => chargeMeters st 0 x) s) ∧
      ∀ q, w.get q = if fallsUnder s (floorNow s) q = true then withoutGrant true (s.station q) else s.station q := by
  obtain ⟨w, hw, hget⟩ := foldl_releaseMarkedIdle (s := refloored s) hlow (x := s) rfl
  have hloses := losesGrant_refloored hnodup
  rw [show losesGrant (refloored s) = fallsUnder s (floorNow s) from funext hloses] at hw
  refine ⟨w, ?_, fun q => by rw [hget, hloses]; rfl⟩
  rw [reformFloor_of_change h, hw]
  refine (arbitrate_of_low hlow).trans ?_
  rw [refloored_eq]
  simp only [List.filter_map]
  rfl

theorem fallsUnder_of_mem {s : State} (h : (s.arbiter.grants.map fun g => g.station).Nodup) {g : Grant} (hg : g ∈ s.arbiter.grants)
    (f : Nat) : fallsUnder s f g.station = (decide (g.level ≤ f) && decide ((s.station g.station).issued = none)) := by
  rw [fallsUnder, ← find?_mark_eq_any h (fun g => decide (g.level ≤ f)), find?_station_of_mem h hg, Bool.and_comm]
  rfl

theorem fallsUnder_iff {s : State} {f : Nat} {st : Fin 6} : fallsUnder s f st = true ↔
    (s.station st).issued = none ∧ ∃ g ∈ s.arbiter.grants, g.station = st ∧ g.level ≤ f := by
  simp [fallsUnder]

/-! ## SET_WATER (R112, R113) -/

/-- R112: SET_WATER in the STATION form. -/
theorem exec_setWaterStation (s : State) (st : Fin 6) (flow hold : Nat) : ∃ t, exec (.setWaterStation st flow hold) s = .next t ∧
    t = { s with
      stations := s.stations.set st { s.station st with flow := max 10 (min flow 600), holdSetting := hold }
      link := answeredLink s 5 .ok (waterStationBody st t) } := by
  refine ⟨_, serve_of_work (r := setWaterReply flow hold st (takeFrame 7 s)) (withStation_of_lt ..), rfl⟩

/-- R113: the arbiter's settings stored. -/
def arbiterStored (capacity f0 f1 f2 f3 f4 f5 f6 f7 : Nat) (s : State) : State :=
  s.onArbiter (storeArbiter capacity f0 f1 f2 f3 f4 f5 f6 f7)

theorem exec_setWaterArbiter (s : State) (capacity f0 f1 f2 f3 f4 f5 f6 f7 : Nat) {v : State}
    (hv : v = arbitrate (reformFloor (arbiterStored capacity f0 f1 f2 f3 f4 f5 f6 f7 s))) :
    ∃ t, exec (.setWaterArbiter capacity f0 f1 f2 f3 f4 f5 f6 f7) s = .next t ∧
      t = { s with
        jobs := v.jobs
        stations := v.stations
        arbiter := v.arbiter
        link := { answeredLink s 10 .ok (waterArbiterBody t) with notices := v.link.notices, overflow := v.link.overflow } } := by
  have hframe : WaterFrame (arbiterStored capacity f0 f1 f2 f3 f4 f5 f6 f7 s) v :=
    hv ▸ (reformFloor_water _).trans (arbitrate_water _)
  have hread := unread_frameTaken (presented s 12)
  have hmoved : arbitrate (reformFloor (arbiterStored capacity f0 f1 f2 f3 f4 f5 f6 f7 (takeFrame 12 s))) =
      overlaid (frameTaken (presented s 12)) id v := by
    rw [hv, ← hread.arbitrate, ← hread.reformFloor]
    rfl
  have hwork : setArbiterReply capacity f0 f1 f2 f3 f4 f5 f6 f7 (takeFrame 12 s) =
      ⟨overlaid (frameTaken (presented s 12)) id v, .ok, waterArbiterBody (overlaid (frameTaken (presented s 12)) id v)⟩ := by
    rw [← hmoved]
    rfl
  have hplans : v.plans = s.plans := by rw [hframe.state]; rfl
  refine ⟨_, serve_of_work hwork, ?_⟩
  have hanswer := putResponse_taken (s := s) (w := v) (size := 10) (by rw [hframe.state]; rfl) hframe.link .ok
    (waterArbiterBody (overlaid (frameTaken (presented s 12)) id v))
  rw [hplans] at hanswer
  exact hanswer

theorem insertBy_eq_takeWhile {α : Type} (before : α → α → Bool) (x : α) (l : List α) :
    insertBy before x l = l.takeWhile (fun y => before y x) ++ x :: l.dropWhile (fun y => before y x) := by
  induction l with
  | nil => rfl
  | cons y l ih =>
    rw [insertBy]
    split
    · rename_i h
      simp [ih, h]
    · rename_i h
      simp [h]

/-- Settles O50: both forms as served, arbitration by `nextGrant`, and the floor by its releases. -/
theorem setWaterStores : Obligations.SetWaterStores := by
  unfold Obligations.SetWaterStores
  refine ⟨exec_setWaterStation, fun s capacity f0 f1 f2 f3 f4 f5 f6 f7 => ?_, fun u h => ?_, fun u r hplace hclean hr hfloor hbest => ?_,
    fun u f hf => ?_⟩
  · obtain ⟨t, hrun, ht⟩ := exec_setWaterArbiter s capacity f0 f1 f2 f3 f4 f5 f6 f7 rfl
    obtain ⟨u, hu⟩ : ∃ u, u = arbiterStored capacity f0 f1 f2 f3 f4 f5 f6 f7 s := ⟨_, rfl⟩
    rw [← hu] at ht
    have hframe : WaterFrame u (arbitrate (reformFloor u)) := (reformFloor_water u).trans (arbitrate_water _)
    have hfloor : (arbitrate (reformFloor u)).arbiter.floor = floorNow u := (floor_arbitrate _).trans (floor_reformFloor u)
    have hissued : ∀ st, (u.station st).issued.isSome = true → u.permit st = true → (arbitrate (reformFloor u)).permit st = true :=
      fun st h1 h2 => permit_arbitrate (permit_reformFloor h1 h2)
    refine ⟨arbitrate (reformFloor u), t, by rw [hu]; rfl, hrun, ht, ?_, ?_, fun _ => ?_, ?_, fun j hj => ?_, fun st => ⟨?_, ?_, ?_⟩⟩
    · rw [ht]; exact hframe.capacity.trans (by rw [hu]; rfl)
    · rw [ht]; exact hframe.table.trans (by rw [hu]; rfl)
    · show t.arbiter.floor = floorNow t
      rw [ht]
      refine hfloor.trans (hframe.floorNow.symm.trans ?_)
      unfold floorNow tableTerm sumpTerm loadingTerm
      rw [hframe.link.mode, hframe.state, hu]
      rfl
    · rw [ht]; exact hframe.pieces.trans (by rw [hu]; rfl)
    · rw [ht]; exact (hframe.other j hj).trans (by rw [hu]; rfl)
    · rw [ht]; exact (issued_of_water hframe st).trans (by rw [hu]; rfl)
    · rw [ht]; exact (queue_of_water hframe st).trans (by rw [hu]; rfl)
    · rw [ht]; exact fun h1 h2 => hissued st (by rw [hu]; exact h1) (by rw [hu]; exact h2)
  · exact arbitrate_of_nextGrant_none (nextGrant_eq_none h)
  · rw [arbitrate_of_nextGrant (nextGrant_of_best hplace hclean hr hfloor hbest), makeGrant_eq, enterGrant, insertBy_eq_takeWhile]
    rfl
  · replace hf : f = floorNow u := hf
    subst hf
    refine ⟨fun h => if_pos h, fun h hkept => reformFloor_of_kept h hkept, fun h hlow hnodup => ?_⟩
    obtain ⟨w, hw, hget⟩ := reformFloor_of_low h hlow hnodup
    refine ⟨_, _, rfl, rfl, ?_, fun st => ?_⟩
    · have hmoney := foldl_money (fun x st => chargeMeters_water st x) (fun x st => arbiter_chargeMeters st 0 x)
        (allStations.filter (fallsUnder u (floorNow u))) u
      have hkept : (u.arbiter.grants.filter fun g => !fallsUnder u (floorNow u) g.station) =
          u.arbiter.grants.filter fun g => !(decide (g.level ≤ floorNow u) && decide ((u.station g.station).issued = none)) :=
        List.filter_congr fun g hg => by rw [fallsUnder_of_mem hnodup hg]
      rw [hkept, hmoney] at hw
      rw [hw]
      rfl
    · rw [hw]
      exact (hget st).trans (if_congr fallsUnder_iff rfl rfl)

end Sys2Proof.Machine
end

section
/-! The plant's filters at the decisecond tick and the effects of a change (R106, R117, R118, R121, R122, R125).  The statement O48. -/

namespace Sys2Proof.Machine

/-! ## Each filter takes its sample (R117) -/

/-- R117: two plants whose four filters agree. -/
def SameFilters (p q : Plant) : Prop :=
  q.sump = p.sump ∧ q.settling = p.settling ∧ q.clean = p.clean ∧ q.turbidity = p.turbidity

theorem SameFilters.trans {p q r : Plant} (h : SameFilters p q) (g : SameFilters q r) : SameFilters p r := by
  obtain ⟨h1, h2, h3, h4⟩ := h
  obtain ⟨g1, g2, g3, g4⟩ := g
  exact ⟨g1.trans h1, g2.trans h2, g3.trans h3, g4.trans h4⟩

theorem SameFilters.of_eq {p q : Plant} (h : q = p) : SameFilters p q := h ▸ ⟨rfl, rfl, rfl, rfl⟩

theorem PlantFrame.filters {s t : State} (h : PlantFrame s t) : SameFilters s.plant t.plant :=
  ⟨h.sump, h.settling, h.clean, h.turbidity⟩

theorem WaterFrame.filters {s t : State} (h : WaterFrame s t) : SameFilters s.plant t.plant :=
  .of_eq (by rw [h.state])

theorem sumpTest_plantFrame (s : State) : PlantFrame s (sumpTest s) := by
  unfold sumpTest
  split
  · exact startTest_plantFrame s
  · exact .refl s

theorem settlingTest_plantFrame (s : State) : PlantFrame s (settlingTest s) := by
  unfold settlingTest
  split
  · exact fillTest_plantFrame s
  · split
    · exact decantEndTest_plantFrame s
    · exact .refl s

theorem cleanBandTest_plantFrame (s : State) : PlantFrame s (cleanBandTest s) := by
  unfold cleanBandTest
  split
  · exact cleanTest_plantFrame s
  · exact .refl s

theorem turbidityChanged_plantFrame (s : State) : PlantFrame s (turbidityChanged s) := by
  unfold turbidityChanged
  split
  · exact decantEndTest_plantFrame s
  · exact .refl s

theorem sumpChanged_filters (s : State) : SameFilters s.plant (sumpChanged s).plant := by
  refine .trans (.trans (.of_eq ?_) (reformFloor_water _).filters) (sumpTest_plantFrame _).filters
  split <;> rfl

theorem settlingChanged_filters (s : State) : SameFilters s.plant (settlingChanged s).plant :=
  (settlingTest_plantFrame (raiseNotice .band 1 s)).filters

theorem cleanChanged_filters (s : State) : SameFilters s.plant (cleanChanged s).plant := by
  refine .trans (.of_eq ?_) (cleanBandTest_plantFrame _).filters
  split
  · rw [(revokeAll_water _).state]
    rfl
  · rw [((reformFloor_water _).trans (arbitrate_water _)).state]
    rfl

theorem sampleSump_filters (v : Fin 8) (s : State) :
    SameFilters (withSump (sampleFilter v s.plant.sump) s.plant) (sampleSump v s).plant := by
  by_cases h : (sampleFilter v s.plant.sump).accepted = s.plant.sump.accepted
  · rw [sampleSump_kept h]
    exact .of_eq rfl
  · rw [sampleSump_changed h]
    exact sumpChanged_filters _

theorem sampleSettling_filters (v : Fin 8) (s : State) :
    SameFilters (withSettling (sampleFilter v s.plant.settling) s.plant) (sampleSettling v s).plant := by
  by_cases h : (sampleFilter v s.plant.settling).accepted = s.plant.settling.accepted
  · rw [sampleSettling_kept h]
    exact .of_eq rfl
  · rw [sampleSettling_changed h]
    exact settlingChanged_filters _

theorem sampleClean_filters (v : Fin 8) (s : State) :
    SameFilters (withClean (sampleFilter v s.plant.clean) s.plant) (sampleClean v s).plant := by
  by_cases h : (sampleFilter v s.plant.clean).accepted = s.plant.clean.accepted
  · rw [sampleClean_kept h]
    exact .of_eq rfl
  · rw [sampleClean_changed h]
    exact cleanChanged_filters _

theorem sampleTurbidity_filters (v : Bool) (s : State) :
    SameFilters (withTurbidity (sampleFilter v s.plant.turbidity) s.plant) (sampleTurbidity v s).plant := by
  by_cases h : (sampleFilter v s.plant.turbidity).accepted = s.plant.turbidity.accepted
  · rw [sampleTurbidity_kept h]
    exact .of_eq rfl
  · rw [sampleTurbidity_changed h]
    exact (turbidityChanged_plantFrame _).filters

theorem filterStep_sampleFilter {α : Type} [DecidableEq α] (v : α) (f : InputFilter α) : FilterStep v f (sampleFilter v f) := by
  unfold sampleFilter
  refine ⟨fun h => if_pos h, fun h hc hrun => ?_, fun h hc hrun => ?_, fun h hc => ?_⟩
  · rw [if_neg h, if_pos ⟨hc, by omega⟩, if_neg (by omega), hrun]
  · rw [if_neg h, if_pos ⟨hc, by omega⟩, if_pos (by omega)]
  · rw [if_neg h, if_neg fun ⟨h1, h2⟩ => hc.elim (fun hc => hc h1) fun hc => by omega]

/-- The plant after the meters and timers of a tick. -/
theorem plant_tickStations (s : State) : (tickStations s).plant = s.plant := by rw [(tickStations_spec s).1]

/-- R117, R118: every tick moves the four filters by their samples, whatever else it brings about. -/
theorem decisecond_filters (sump settling clean : Fin 8) (cloudy : Bool) (s : State) :
    (decisecond sump settling clean cloudy s).plant.sump = sampleFilter sump s.plant.sump ∧
    (decisecond sump settling clean cloudy s).plant.settling = sampleFilter settling s.plant.settling ∧
    (decisecond sump settling clean cloudy s).plant.clean = sampleFilter clean s.plant.clean ∧
    (decisecond sump settling clean cloudy s).plant.turbidity = sampleFilter cloudy s.plant.turbidity := by
  unfold decisecond
  have hm : (tickStations (readPins sump settling clean cloudy s)).plant = s.plant := plant_tickStations _
  generalize tickStations (readPins sump settling clean cloudy s) = m at hm ⊢
  obtain ⟨a1, a2, a3, a4⟩ := sampleSump_filters sump m
  generalize sampleSump sump m = n at *
  obtain ⟨b1, b2, b3, b4⟩ := sampleSettling_filters settling n
  generalize sampleSettling settling n = o at *
  obtain ⟨c1, c2, c3, c4⟩ := sampleClean_filters clean o
  generalize sampleClean clean o = p at *
  obtain ⟨d1, d2, d3, d4⟩ := sampleTurbidity_filters cloudy p
  simp only [withSump, withSettling, withClean, withTurbidity] at *
  simp_all

/-! ## The plant's tests do not read the filters' run counts -/

/-- A change of the plant that neither the water's moves nor the cycle's tests see. -/
structure Unseen (f : Plant → Plant) : Prop extends Unread id f where
  settling : ∀ p, (f p).settling.accepted = p.settling.accepted
  turbidity : ∀ p, (f p).turbidity.accepted = p.turbidity.accepted
  cycle : ∀ p, (f p).cycle = p.cycle
  started : ∀ p, (f p).started = p.started
  counter : ∀ p, (f p).counter = p.counter
  active : ∀ p, (f p).active = p.active
  move : ∀ p c, { f p with cycle := c } = f { p with cycle := c }
  count : ∀ p n, { f p with counter := n } = f { p with counter := n }
  load : ∀ p, { f p with active := (f p).buffered } = f { p with active := p.buffered }

section
variable {f : Plant → Plant} (h : Unseen f)
include h

theorem Unseen.enterCycle (c : CycleState) (s : State) : enterCycle c (overlaid id f s) = overlaid id f (enterCycle c s) := by
  unfold Machine.enterCycle
  rw [← h.raise]
  unfold State.onPlant overlaid
  simp only [h.move]

theorem Unseen.moveCycle (c : CycleState) (s : State) : moveCycle c (overlaid id f s) = overlaid id f (moveCycle c s) := by
  unfold Machine.moveCycle
  rw [h.enterCycle, apply_ite (overlaid id f), show (overlaid id f s).plant.cycle = _ from h.cycle _]

theorem Unseen.setCounter (n : Nat) (s : State) : setCounter n (overlaid id f s) = overlaid id f (setCounter n s) := by
  unfold Machine.setCounter State.onPlant overlaid
  simp only [h.count]

theorem Unseen.loadSettings (s : State) : loadSettings (overlaid id f s) = overlaid id f (loadSettings s) := by
  unfold Machine.loadSettings State.onPlant overlaid
  simp only [h.load]

theorem Unseen.enterSludge (s : State) : enterSludge (overlaid id f s) = overlaid id f (enterSludge s) := by
  unfold Machine.enterSludge
  rw [h.setCounter, h.enterCycle, show (overlaid id f s).plant.active = _ from h.active _]

theorem Unseen.endTestPasses (p : Plant) : endTestPasses (f p) = endTestPasses p := by
  unfold Machine.endTestPasses
  rw [h.turbidity, h.settling, h.active]

theorem Unseen.decantEndTest (s : State) : decantEndTest (overlaid id f s) = overlaid id f (decantEndTest s) := by
  unfold Machine.decantEndTest
  rw [h.enterSludge, apply_ite (overlaid id f), show Machine.endTestPasses (overlaid id f s).plant = _ from h.endTestPasses _]

theorem Unseen.cleanTest (s : State) : cleanTest (overlaid id f s) = overlaid id f (cleanTest s) := by
  unfold Machine.cleanTest
  rw [h.moveCycle, show (overlaid id f s).plant.clean.accepted = _ from h.clean _]

theorem Unseen.decantTests (s : State) : decantTests (overlaid id f s) = overlaid id f (decantTests s) := by
  unfold Machine.decantTests
  rw [h.enterSludge, h.cleanTest, apply_ite (overlaid id f), show Machine.endTestPasses (overlaid id f s).plant = _ from h.endTestPasses _]

theorem Unseen.enterDecant (s : State) : enterDecant (overlaid id f s) = overlaid id f (enterDecant s) := by
  unfold Machine.enterDecant
  rw [h.setCounter, h.enterCycle, h.decantTests]

theorem Unseen.settleTest (s : State) : settleTest (overlaid id f s) = overlaid id f (settleTest s) := by
  unfold Machine.settleTest
  rw [h.enterDecant, h.moveCycle, h.moveCycle, apply_ite (overlaid id f), apply_ite (overlaid id f),
    show (overlaid id f s).plant.active = _ from h.active _, show (overlaid id f s).plant.counter = _ from h.counter _]

theorem Unseen.fillTest (s : State) : fillTest (overlaid id f s) = overlaid id f (fillTest s) := by
  unfold Machine.fillTest Machine.enterDoseSettle
  rw [h.setCounter, h.loadSettings, h.settleTest, apply_ite (overlaid id f),
    show (overlaid id f s).plant.active = _ from h.active _, show (overlaid id f s).plant.settling.accepted = _ from h.settling _]

theorem Unseen.startTest (s : State) : startTest (overlaid id f s) = overlaid id f (startTest s) := by
  unfold Machine.startTest Machine.enterFill
  rw [h.setCounter, h.enterCycle, h.fillTest, apply_ite (overlaid id f),
    show (overlaid id f s).plant.active = _ from h.active _, show (overlaid id f s).plant.sump.accepted = _ from h.sump _]

theorem Unseen.sumpTest (s : State) : sumpTest (overlaid id f s) = overlaid id f (sumpTest s) := by
  unfold Machine.sumpTest
  rw [h.startTest, apply_ite (overlaid id f), show (overlaid id f s).plant.cycle = _ from h.cycle _,
    show (overlaid id f s).plant.started = _ from h.started _]

theorem Unseen.inDecant (p : Plant) : inDecant (f p) = inDecant p := by
  unfold Machine.inDecant
  rw [h.cycle]

theorem Unseen.settlingTest (s : State) : settlingTest (overlaid id f s) = overlaid id f (settlingTest s) := by
  unfold Machine.settlingTest
  rw [h.fillTest, h.decantEndTest, apply_ite (overlaid id f), apply_ite (overlaid id f),
    show (overlaid id f s).plant.cycle = _ from h.cycle _, show Machine.inDecant (overlaid id f s).plant = _ from h.inDecant _]

theorem Unseen.cleanBandTest (s : State) : cleanBandTest (overlaid id f s) = overlaid id f (cleanBandTest s) := by
  unfold Machine.cleanBandTest
  rw [h.cleanTest, apply_ite (overlaid id f), show Machine.inDecant (overlaid id f s).plant = _ from h.inDecant _]

theorem Unseen.sumpChanged (s : State) : sumpChanged (overlaid id f s) = overlaid id f (sumpChanged s) := by
  unfold Machine.sumpChanged
  dsimp only
  rw [h.raise, h.raise, show (overlaid id f s).plant.sump.accepted = _ from h.sump _, ← apply_ite (overlaid id f), h.reformFloor,
    h.sumpTest]

theorem Unseen.settlingChanged (s : State) : settlingChanged (overlaid id f s) = overlaid id f (settlingChanged s) := by
  unfold Machine.settlingChanged
  rw [h.raise, h.settlingTest]

theorem Unseen.cleanChanged (s : State) : cleanChanged (overlaid id f s) = overlaid id f (cleanChanged s) := by
  unfold Machine.cleanChanged
  rw [h.raise, show (overlaid id f s).plant.clean.accepted = _ from h.clean _]
  dsimp only
  rw [h.revokeAll, h.reformFloor, h.arbitrate, ← apply_ite (overlaid id f), h.cleanBandTest]

end

/-- R117: the plant with other run counts of the filters that are sampled after the sump's. -/
def rerun (a b c : Nat → Nat) (p : Plant) : Plant :=
  { p with
    settling := { p.settling with run := a p.settling.run }
    clean := { p.clean with run := b p.clean.run }
    turbidity := { p.turbidity with run := c p.turbidity.run } }

theorem unseen_rerun (a b c : Nat → Nat) : Unseen (rerun a b c) where
  post _ _ _ := rfl
  mode _ := rfl
  clean _ := rfl
  sump _ := rfl
  settling _ := rfl
  turbidity _ := rfl
  cycle _ := rfl
  started _ := rfl
  counter _ := rfl
  active _ := rfl
  move _ _ := rfl
  count _ _ := rfl
  load _ := rfl

/-- R117: the plant with the run count of one filter at 0. -/
def restSettling : Plant → Plant :=
  rerun (fun _ => 0) id id

def restClean : Plant → Plant :=
  rerun id (fun _ => 0) id

def restTurbidity : Plant → Plant :=
  rerun id id fun _ => 0

theorem unseen_restSettling : Unseen restSettling := unseen_rerun ..

theorem unseen_restClean : Unseen restClean := unseen_rerun ..

theorem unseen_restTurbidity : Unseen restTurbidity := unseen_rerun ..

theorem sampleSettling_rest {v : Fin 8} {s : State} (h : v = s.plant.settling.accepted) :
    sampleSettling v s = overlaid id restSettling s := sampleSettling_same h

theorem sampleClean_rest {v : Fin 8} {s : State} (h : v = s.plant.clean.accepted) :
    sampleClean v s = overlaid id restClean s := sampleClean_same h

theorem sampleTurbidity_rest {v : Bool} {s : State} (h : v = s.plant.turbidity.accepted) :
    sampleTurbidity v s = overlaid id restTurbidity s := sampleTurbidity_same h

/-- R117: the third differing sample in a row. -/
theorem sampleFilter_third {α : Type} [DecidableEq α] {v : α} {f : InputFilter α} (h : v ≠ f.accepted) (hc : f.candidate = v)
    (hrun : f.run = 2) : sampleFilter v f = { f with accepted := v, run := 0 } :=
  (filterStep_sampleFilter v f).2.2.1 h hc.symm hrun

theorem sampleSump_third {v : Fin 8} {s : State} (h : v ≠ s.plant.sump.accepted) (hc : s.plant.sump.candidate = v)
    (hrun : s.plant.sump.run = 2) :
    sampleSump v s = sumpChanged (s.onPlant (withSump { s.plant.sump with accepted := v, run := 0 })) := by
  have hthird := sampleFilter_third h hc hrun
  rw [sampleSump_changed (by rw [hthird]; exact h), hthird]

theorem sampleSettling_third {v : Fin 8} {s : State} (h : v ≠ s.plant.settling.accepted) (hc : s.plant.settling.candidate = v)
    (hrun : s.plant.settling.run = 2) :
    sampleSettling v s = settlingChanged (s.onPlant (withSettling { s.plant.settling with accepted := v, run := 0 })) := by
  have hthird := sampleFilter_third h hc hrun
  rw [sampleSettling_changed (by rw [hthird]; exact h), hthird]

theorem sampleClean_third {v : Fin 8} {s : State} (h : v ≠ s.plant.clean.accepted) (hc : s.plant.clean.candidate = v)
    (hrun : s.plant.clean.run = 2) :
    sampleClean v s = cleanChanged (s.onPlant (withClean { s.plant.clean with accepted := v, run := 0 })) := by
  have hthird := sampleFilter_third h hc hrun
  rw [sampleClean_changed (by rw [hthird]; exact h), hthird]

theorem sampleTurbidity_third {v : Bool} {s : State} (h : v ≠ s.plant.turbidity.accepted) (hc : s.plant.turbidity.candidate = v)
    (hrun : s.plant.turbidity.run = 2) :
    sampleTurbidity v s = turbidityChanged (s.onPlant (withTurbidity { s.plant.turbidity with accepted := v, run := 0 })) := by
  have hthird := sampleFilter_third h hc hrun
  rw [sampleTurbidity_changed (by rw [hthird]; exact h), hthird]

theorem inDecant_iff {p : Plant} : inDecant p = true ↔ p.cycle = .decant ∨ p.cycle = .decantWait := by
  simp [inDecant]

/-! ## One accepted change in a tick (R118) -/

/-- R118: a changed SUMP band raises its notices, forms the floor and makes the start test. -/
theorem sumpChanged_eq (s : State) : sumpChanged s = sumpTest (reformFloor { s with
    link := if s.plant.sump.accepted = 7 then postNotice .sumpHigh 0 (postNotice .band 0 s.link) else postNotice .band 0 s.link }) := by
  unfold sumpChanged
  split <;> rfl

/-- R118: the SUMP filter alone accepts a change. -/
theorem decisecond_sumpChanged {sump settling clean : Fin 8} {cloudy : Bool} {s : State} (hne : sump ≠ s.plant.sump.accepted)
    (hc : s.plant.sump.candidate = sump) (hrun : s.plant.sump.run = 2) (hsettling : settling = s.plant.settling.accepted)
    (hclean : clean = s.plant.clean.accepted) (hcloudy : cloudy = s.plant.turbidity.accepted) :
    decisecond sump settling clean cloudy s = sumpChanged { tickStations (readPins sump settling clean cloudy s) with
      plant := { s.plant with
        sump := { s.plant.sump with accepted := sump, run := 0 }
        settling := { s.plant.settling with run := 0 }
        clean := { s.plant.clean with run := 0 }
        turbidity := { s.plant.turbidity with run := 0 } } } := by
  unfold decisecond
  have hm : (tickStations (readPins sump settling clean cloudy s)).plant = s.plant := plant_tickStations _
  generalize tickStations (readPins sump settling clean cloudy s) = m at hm ⊢
  rw [← hm] at hne hc hrun hsettling hclean hcloudy ⊢
  rw [sampleSump_third hne hc hrun, sampleSettling_rest, ← unseen_restSettling.sumpChanged, sampleClean_rest,
    ← unseen_restClean.sumpChanged, sampleTurbidity_rest, ← unseen_restTurbidity.sumpChanged]
  · rfl
  · rw [(sumpChanged_filters _).2.2.2]
    exact hcloudy
  · rw [(sumpChanged_filters _).2.2.1]
    exact hclean
  · rw [(sumpChanged_filters _).2.1]
    exact hsettling

/-- R118: the SETTLING filter alone accepts a change. -/
theorem decisecond_settlingChanged {sump settling clean : Fin 8} {cloudy : Bool} {s : State}
    (hne : settling ≠ s.plant.settling.accepted) (hc : s.plant.settling.candidate = settling) (hrun : s.plant.settling.run = 2)
    (hsump : sump = s.plant.sump.accepted) (hclean : clean = s.plant.clean.accepted) (hcloudy : cloudy = s.plant.turbidity.accepted) :
    decisecond sump settling clean cloudy s = settlingChanged { tickStations (readPins sump settling clean cloudy s) with
      plant := { s.plant with
        sump := { s.plant.sump with run := 0 }
        settling := { s.plant.settling with accepted := settling, run := 0 }
        clean := { s.plant.clean with run := 0 }
        turbidity := { s.plant.turbidity with run := 0 } } } := by
  unfold decisecond
  have hm : (tickStations (readPins sump settling clean cloudy s)).plant = s.plant := plant_tickStations _
  generalize tickStations (readPins sump settling clean cloudy s) = m at hm ⊢
  rw [← hm] at hne hc hrun hsump hclean hcloudy ⊢
  rw [sampleSump_same hsump, sampleSettling_third, sampleClean_rest, ← unseen_restClean.settlingChanged,
    sampleTurbidity_rest, ← unseen_restTurbidity.settlingChanged]
  · rfl
  · rw [(settlingChanged_filters _).2.2.2]
    exact hcloudy
  · rw [(settlingChanged_filters _).2.2.1]
    exact hclean
  · exact hne
  · exact hc
  · exact hrun

/-- R118: the CLEAN filter alone accepts a change. -/
theorem decisecond_cleanChanged {sump settling clean : Fin 8} {cloudy : Bool} {s : State} (hne : clean ≠ s.plant.clean.accepted)
    (hc : s.plant.clean.candidate = clean) (hrun : s.plant.clean.run = 2) (hsump : sump = s.plant.sump.accepted)
    (hsettling : settling = s.plant.settling.accepted) (hcloudy : cloudy = s.plant.turbidity.accepted) :
    decisecond sump settling clean cloudy s = cleanChanged { tickStations (readPins sump settling clean cloudy s) with
      plant := { s.plant with
        sump := { s.plant.sump with run := 0 }
        settling := { s.plant.settling with run := 0 }
        clean := { s.plant.clean with accepted := clean, run := 0 }
        turbidity := { s.plant.turbidity with run := 0 } } } := by
  unfold decisecond
  have hm : (tickStations (readPins sump settling clean cloudy s)).plant = s.plant := plant_tickStations _
  generalize tickStations (readPins sump settling clean cloudy s) = m at hm ⊢
  rw [← hm] at hne hc hrun hsump hsettling hcloudy ⊢
  rw [sampleSump_same hsump, sampleSettling_same, sampleClean_third, sampleTurbidity_rest,
    ← unseen_restTurbidity.cleanChanged]
  · rfl
  · rw [(cleanChanged_filters _).2.2.2]
    exact hcloudy
  · exact hne
  · exact hc
  · exact hrun
  · exact hsettling

/-- R118: the turbidity filter alone accepts a change. -/
theorem decisecond_turbidityChanged {sump settling clean : Fin 8} {cloudy : Bool} {s : State}
    (hne : cloudy ≠ s.plant.turbidity.accepted) (hc : s.plant.turbidity.candidate = cloudy) (hrun : s.plant.turbidity.run = 2)
    (hsump : sump = s.plant.sump.accepted) (hsettling : settling = s.plant.settling.accepted) (hclean : clean = s.plant.clean.accepted) :
    decisecond sump settling clean cloudy s = turbidityChanged { tickStations (readPins sump settling clean cloudy s) with
      plant := { s.plant with
        sump := { s.plant.sump with run := 0 }
        settling := { s.plant.settling with run := 0 }
        clean := { s.plant.clean with run := 0 }
        turbidity := { s.plant.turbidity with accepted := cloudy, run := 0 } } } := by
  unfold decisecond
  have hm : (tickStations (readPins sump settling clean cloudy s)).plant = s.plant := plant_tickStations _
  generalize tickStations (readPins sump settling clean cloudy s) = m at hm ⊢
  rw [← hm] at hne hc hrun hsump hsettling hclean ⊢
  rw [sampleSump_same hsump, sampleSettling_same, sampleClean_same, sampleTurbidity_third]
  · rfl
  · exact hne
  · exact hc
  · exact hrun
  · exact hclean
  · exact hsettling

/-! ## Every grant revoked (R106) -/

/-- R106: the request that a revoked grant leaves. -/
def asRequest (g : Grant) : Request :=
  ⟨g.station, g.level, g.stamp⟩

/-- R106: the arbiter's part of a revocation. -/
def requeued (u : State) (a : Arbiter) (st : Fin 6) : Arbiter :=
  (u.grant st).elim a fun g => enterRequest (asRequest g) (dropGrant st a)

/-- R97, R106: the charge and the notice of a revocation. -/
def revokeCharge (u x : State) (st : Fin 6) : State :=
  raiseNotice .revoked st (if (u.station st).issued.isSome then x else chargeMeters st 0 x)

/-- R106: what a revocation leaves of its station. -/
def revokedStation (u : State) (st : Fin 6) (x : Station) : Station :=
  if (u.station st).issued.isSome then stopHold x else withoutGrant true x

theorem revokeCharge_water (u x : State) (st : Fin 6) : WaterFrame x (revokeCharge u x st) := by
  unfold revokeCharge
  refine WaterFrame.trans ?_ (raiseNotice_water ..)
  split
  · exact .refl x
  · exact chargeMeters_water st x

theorem arbiter_revokeCharge (u x : State) (st : Fin 6) : (revokeCharge u x st).arbiter = x.arbiter := by
  unfold revokeCharge
  split
  · rfl
  · exact arbiter_chargeMeters st 0 x

/-- What a revocation needs of the stations to come: their own grants and cuts as at first. -/
structure RevokeInv (u : State) (l : List (Fin 6)) (v : Vector Station 6) (a : Arbiter) : Prop where
  issued : ∀ q ∈ l, (v.get q).issued = (u.station q).issued
  grant : ∀ q ∈ l, a.grants.find? (fun g => g.station == q) = u.grant q

theorem revokeTurns (u : State) : Turns revokeGrant u.permit (revokedStation u) (requeued u) (revokeCharge u) (RevokeInv u) where
  turn st l v a x h hm := by
    have hgrant : (rehomed v a x).grant st = u.grant st := h.grant st List.mem_cons_self
    have hissued : ((rehomed v a x).station st).issued = (u.station st).issued := h.issued st List.mem_cons_self
    unfold revokeGrant State.permit requeued revokedStation revokeCharge
    rw [hgrant, hissued]
    cases hg : u.grant st with
    | none => rfl
    | some g =>
      have hst := (grant_station hg).1
      subst hst
      cases hi : (u.station g.station).issued.isSome with
      | true => rfl
      | false =>
        simp only [Bool.false_eq_true, if_false, Option.isSome_some, if_true]
        rw [removeGrant_charged, chargeMeters_rehomed hm, chargeMeters_state]
        rfl
  skip st l v a h := ⟨fun q hq => h.issued q (List.mem_cons_of_mem _ hq), fun q hq => h.grant q (List.mem_cons_of_mem _ hq)⟩
  next st l v a hst hc h := by
    have hne : ∀ q ∈ l, q ≠ st := fun q hq e => hst (e ▸ hq)
    obtain ⟨g, hg⟩ := Option.isSome_iff_exists.mp hc
    refine ⟨fun q hq => ?_, fun q hq => ?_⟩
    · rw [get_set_ne _ _ _ _ (hne q hq)]
      exact h.issued q (List.mem_cons_of_mem _ hq)
    · rw [requeued, hg]
      exact (find?_dropGrant_ne (hne q hq) _).trans (h.grant q (List.mem_cons_of_mem _ hq))
  others x st q hq := by
    unfold revokeCharge
    split
    · rfl
    · exact station_chargeMeters_ne hq 0 x

/-- R106: the grants of several stations put back into the list by their stamps. -/
theorem foldl_requeued {u : State} {l : List (Fin 6)} (hl : ∀ st ∈ l, u.permit st = true) (a : Arbiter) :
    ∃ p, l.foldl (requeued u) a = { a with pending := p, grants := a.grants.filter fun g => decide (g.station ∉ l) } ∧
      p.Perm (a.pending ++ (l.filterMap u.grant).map asRequest) ∧
      ((a.pending.Pairwise fun x y => x.stamp ≤ y.stamp) → p.Pairwise fun x y => x.stamp ≤ y.stamp) := by
  induction l generalizing a with
  | nil => exact ⟨a.pending, by simp, by simp, id⟩
  | cons st l ih =>
    obtain ⟨g, hg⟩ := Option.isSome_iff_exists.mp (hl st List.mem_cons_self)
    have hturn : requeued u a st = enterRequest (asRequest g) (dropGrant st a) := by rw [requeued, hg]; rfl
    obtain ⟨p, hp, hperm, hsort⟩ := ih (fun q hq => hl q (List.mem_cons_of_mem _ hq)) (requeued u a st)
    refine ⟨p, ?_, ?_, fun h => hsort ?_⟩
    · rw [List.foldl_cons, hp, hturn]
      simp only [enterRequest, dropGrant, List.filter_filter]
      congr 2
      funext x
      by_cases h1 : x.station = st <;> by_cases h2 : x.station ∈ l <;> simp [h1, h2]
    · rw [hturn] at hperm
      rw [List.filterMap_cons_some hg, List.map_cons]
      refine hperm.trans (((insertBy_perm _ _ _).append_right _).trans ?_)
      exact List.perm_middle.symm
    · rw [hturn]
      exact insertBy_pairwise (R := fun x y : Request => x.stamp ≤ y.stamp) (fun _ _ _ => Nat.le_trans)
        (fun _ _ hb => Nat.le_of_lt (of_decide_eq_true hb)) (fun _ _ hb => Nat.le_of_not_lt (of_decide_eq_false hb)) _ h

/-- R99: the grants by ascending station. -/
theorem filterMap_grant_perm {u : State} (h : (u.arbiter.grants.map fun g => g.station).Nodup) :
    ((allStations.filter u.permit).filterMap u.grant).Perm u.arbiter.grants := by
  refine (List.perm_ext_iff_of_nodup ?_ (List.Nodup.of_map _ h)).mpr fun g => ?_
  · refine (allStations_nodup.filter _).filterMap fun q r g hq hr => ?_
    rw [← (grant_station hq).1, ← (grant_station hr).1]
  · refine ⟨fun hg => ?_, fun hg => ?_⟩
    · obtain ⟨q, _, hq⟩ := List.mem_filterMap.mp hg
      exact (grant_station hq).2
    · have hfind : u.grant g.station = some g := find?_station_of_mem h hg
      refine List.mem_filterMap.mpr ⟨g.station, List.mem_filter.mpr ⟨mem_allStations _, ?_⟩, hfind⟩
      rw [State.permit, hfind]
      rfl

/-- R106: the revocation told as the charges one after another and what is left of the stations and the arbiter. -/
theorem revokeAll_eq {u : State} (hclean : u.plant.clean.accepted = 0) :
    ∃ w, revokeAll u = rehomed w ((allStations.filter u.permit).foldl (requeued u) { u.arbiter with floor := floorNow u })
        ((allStations.filter u.permit).foldl (revokeCharge u) u) ∧
      ∀ q, w.get q = if u.permit q = true then revokedStation u q (u.station q) else u.station q := by
  obtain ⟨w, hw, hget⟩ := (revokeTurns u).fold allStations_nodup (v := u.stations) (a := { u.arbiter with floor := floorNow u })
    (x := u) ⟨fun _ _ => rfl, fun _ _ => rfl⟩ fun q _ => sameMeters_refl _
  refine ⟨w, ?_, fun q => (hget q).trans (if_congr (by simp [mem_allStations]) rfl rfl)⟩
  refine (congrArg arbitrate hw).trans (arbitrate_of_nextGrant_none (nextGrant_eq_none (.inr (.inl ?_))))
  have hwater := foldl_rel (R := WaterFrame) .refl (fun _ _ _ => .trans) (revokeCharge u) (revokeCharge_water u)
    (allStations.filter u.permit) u
  show (List.foldl (revokeCharge u) u (allStations.filter u.permit)).plant.clean.accepted = 0
  rw [hwater.state]
  exact hclean

/-- R106: an empty clean tank revokes every grant. -/
theorem revokeAll_clean {u : State} (hclean : u.plant.clean.accepted = 0)
    (hnodup : (u.arbiter.pending.map (fun r => r.station) ++ u.arbiter.grants.map (fun g => g.station)).Nodup) {v : State}
    (hv : v = (allStations.filter u.permit).foldl (revokeCharge u) u) :
    revokeAll u = { u with
        jobs := v.jobs, stations := (revokeAll u).stations, arbiter := (revokeAll u).arbiter, link := v.link } ∧
      (∀ st, (revokeAll u).station st = if u.permit st = true then revokedStation u st (u.station st) else u.station st) ∧
      (revokeAll u).arbiter = { u.arbiter with pending := (revokeAll u).arbiter.pending, grants := [], floor := floorNow u } ∧
      (revokeAll u).arbiter.pending.Perm (u.arbiter.pending ++ u.arbiter.grants.map asRequest) ∧
      ((u.arbiter.pending.Pairwise fun a b => a.stamp ≤ b.stamp) →
        (revokeAll u).arbiter.pending.Pairwise fun a b => a.stamp ≤ b.stamp) := by
  obtain ⟨w, hw, hget⟩ := revokeAll_eq hclean
  obtain ⟨p, hp, hperm, hsort⟩ := foldl_requeued (u := u) (l := allStations.filter u.permit)
    (fun st hst => (List.mem_filter.mp hst).2) { u.arbiter with floor := floorNow u }
  have hmoney := foldl_money (revokeCharge_water u) (arbiter_revokeCharge u) (allStations.filter u.permit) u
  have hnone : (u.arbiter.grants.filter fun g => decide (g.station ∉ allStations.filter u.permit)) = [] := by
    refine List.filter_eq_nil_iff.mpr fun g hg => ?_
    have hpermit : u.permit g.station = true := permit_iff.mpr ⟨g, hg, rfl⟩
    simp [List.mem_filter, mem_allStations, hpermit]
  rw [← hv] at hw hmoney
  rw [hw, hp, hnone]
  refine ⟨?_, hget, rfl, ?_, hsort⟩
  · rw [hmoney]
    rfl
  · exact hperm.trans (((filterMap_grant_perm (List.nodup_append'.mp hnodup).2.1).map asRequest).append_left _)

/-- Settles O48: each filter by its rule, one change by its effects, and the revocation by its turns. -/
theorem plantFiltersSample : Obligations.PlantFiltersSample := by
  unfold Obligations.PlantFiltersSample
  refine ⟨fun s sump settling clean cloudy => ?_, fun s sump settling clean cloudy m u w hm hne hc hrun h1 h2 h3 hu hw => ?_,
    fun s sump settling clean cloudy m u hm hne hc hrun h1 h2 h3 hu => ?_,
    fun s sump settling clean cloudy m u w hm hne hc hrun h1 h2 h3 hu hw => ?_,
    fun s sump settling clean cloudy m u hm hne hc hrun h1 h2 h3 hu => ?_, fun u hclean hnodup => ?_⟩
  · obtain ⟨h1, h2, h3, h4⟩ := decisecond_filters sump settling clean cloudy s
    refine ⟨_, rfl, ?_⟩
    rw [h1, h2, h3, h4]
    exact ⟨filterStep_sampleFilter .., filterStep_sampleFilter .., filterStep_sampleFilter .., filterStep_sampleFilter ..⟩
  · have hplant : w.plant = u.plant := by rw [hw, (reformFloor_water u).state]
    refine congrArg Host.Outcome.next ((decisecond_sumpChanged hne hc hrun h1 h2 h3).trans ((sumpChanged_eq _).trans ?_))
    rw [← hm]
    refine (congrArg (fun x => sumpTest (reformFloor x)) hu.symm).trans ?_
    rw [← hw, sumpTest, hplant, hu]
  · refine congrArg Host.Outcome.next ((decisecond_settlingChanged hne hc hrun h1 h2 h3).trans ?_)
    rw [← hm]
    refine (congrArg settlingTest hu.symm).trans ?_
    simp only [settlingTest, inDecant_iff]
    rw [hu]
  · have hplant : w.plant = u.plant := by
      rw [hw]
      split
      · rw [(revokeAll_water u).state]
      · rw [((reformFloor_water u).trans (arbitrate_water _)).state]
    refine congrArg Host.Outcome.next ((decisecond_cleanChanged hne hc hrun h1 h2 h3).trans ?_)
    rw [← hm]
    refine (congrArg (fun x => cleanBandTest (if clean = 0 then revokeAll x else arbitrate (reformFloor x))) hu.symm).trans ?_
    rw [← hw]
    simp only [cleanBandTest, inDecant_iff]
    rw [hplant, hu]
  · refine congrArg Host.Outcome.next ((decisecond_turbidityChanged hne hc hrun h1 h2 h3).trans ?_)
    rw [← hm, ← hu]
    simp only [turbidityChanged, inDecant_iff]
    rw [hu]
  · obtain ⟨hstate, hstation, harbiter, hperm, hsort⟩ := revokeAll_clean hclean hnodup rfl
    refine ⟨_, revokeAll u, rfl, rfl, hstate, fun st hp => ?_, fun st hp => ?_, ?_, hperm, fun h => hsort ?_⟩
    · rw [hstation, hp, if_neg Bool.false_ne_true]
    · rw [hstation, hp, if_pos rfl, revokedStation]
      cases (u.station st).issued <;> rfl
    · have hfloor : floorNow u = max (u.arbiter.table.get 0)
          (max (if u.plant.sump.accepted = 7 then 7 else 0) (if u.link.mode = .loading then 7 else 0)) := by
        rw [floorNow, tableTerm, hclean]
        rfl
      rw [← hfloor]
      exact harbiter
    · exact h.imp fun h => Nat.le_of_lt h

end Sys2Proof.Machine
end

section
/-! STATION_ONLINE, STATION_OFFLINE and SET_BLADE (R80, R81, R83, R97, R105, R111).  The statement O38. -/

namespace Sys2Proof.Machine

theorem whenRunning_of_running {s : State} (h : s.link.mode = .running) (k : Reply) : whenRunning k s = k :=
  if_neg fun e => by rw [h] at e; cases e

theorem inRange_of_le {lo hi n : Nat} (h1 : lo ≤ n) (h2 : n ≤ hi) : inRange lo hi n = true := by
  simp [inRange, h1, h2]

/-- R80: an OFFLINE station brought online. -/
theorem exec_stationOnline {s : State} {st : Fin 6} {maxThick : Nat} (hrun : s.link.mode = .running)
    (hmode : (s.station st).mode = .offline) (h1 : 10 ≤ maxThick) (h2 : maxThick ≤ 60) :
    exec (.stationOnline st maxThick) s = .next { s with
      stations := s.stations.set st { s.station st with
        maxThick := maxThick, mode := if currentCutting st s then .loaded else .ready }
      link := answeredLink s 2 .ok (stationSummary st { s.station st with
        maxThick := maxThick, mode := if currentCutting st s then .loaded else .ready }) } := by
  have hreply : onlineReply maxThick st (takeFrame 4 s) = okStation st ((takeFrame 4 s).onStation st fun x =>
      { x with maxThick := maxThick, mode := if currentCutting st s then .loaded else .ready }) := by
    rw [onlineReply, if_neg (fun h => h hmode), inRange_of_le h1 h2]
    rfl
  refine (serve_of_work ((withStation_of_lt ..).trans ((whenRunning_of_running (s := takeFrame 4 s) hrun _).trans hreply))).trans ?_
  simp only [okStation, station_onStation_self]
  rfl

/-- R83: no committed plan of the station has a smaller kerf. -/
theorem widerThan_eq_false {s : State} {kerf : Nat} {c : Option (Fin 16)}
    (h : ∀ p x k, c = some p → s.plan p = some x → kerfOf x = some k → kerf ≤ k) : widerThan kerf c s = false := by
  unfold widerThan
  cases c with
  | none => rfl
  | some p =>
    dsimp only
    cases hx : s.plan p with
    | none => rfl
    | some x =>
      dsimp only
      cases hk : kerfOf x with
      | none => rfl
      | some k => exact decide_eq_false (Nat.not_lt.mpr (h p x k rfl hx hk))

/-- R83: a new blade on a station. -/
theorem exec_setBlade {s : State} {st : Fin 6} {kerf life : Nat} (h1 : 1 ≤ kerf) (h2 : kerf ≤ 10) (h3 : 1 ≤ life)
    (h4 : life ≤ 16777215) (hissued : (s.station st).issued = none)
    (hkerf : ∀ p x k, ((s.station st).current = some p ∨ (s.station st).next = some p) → s.plan p = some x → kerfOf x = some k →
      kerf ≤ k) :
    exec (.setBlade st kerf life) s = .next { s with
      stations := s.stations.set st { s.station st with kerf := kerf, life := life, bladeMeter := 0 }
      link := answeredLink s 5 .ok (stationSummary st { s.station st with kerf := kerf, life := life, bladeMeter := 0 }) } := by
  have hcurrent : widerThan kerf (s.station st).current (takeFrame 7 s) = false :=
    widerThan_eq_false fun p x k hp => hkerf p x k (.inl hp)
  have hnext : widerThan kerf (s.station st).next (takeFrame 7 s) = false := widerThan_eq_false fun p x k hp => hkerf p x k (.inr hp)
  have hreply : bladeReply kerf life st (takeFrame 7 s) = okStation st ((takeFrame 7 s).onStation st fun x =>
      { x with kerf := kerf, life := life, bladeMeter := 0 }) := by
    have hstation : (takeFrame 7 s).station st = s.station st := rfl
    rw [bladeReply, inRange_of_le h1 h2, inRange_of_le h3 h4, hstation, hissued, hcurrent, hnext]
    rfl
  refine (serve_of_work ((withStation_of_lt ..).trans hreply)).trans ?_
  simp only [okStation, station_onStation_self]
  rfl

/-- R81: a READY station with no current plan and no cut issued becomes OFFLINE. -/
theorem exec_stationOffline {s : State} {st : Fin 6} (hmode : (s.station st).mode = .ready) (hcurrent : (s.station st).current = none)
    (hissued : (s.station st).issued = none) :
    exec (.stationOffline st) s = .next { s with
      jobs := (takeOffline st s).jobs
      stations := (takeOffline st s).stations
      arbiter := (takeOffline st s).arbiter
      link := { answeredLink s 1 .ok (stationSummary st ((takeOffline st s).station st)) with
        notices := (takeOffline st s).link.notices, overflow := (takeOffline st s).link.overflow } } := by
  have hmoved : takeOffline st (takeFrame 3 s) = overlaid (frameTaken (presented s 3)) id (takeOffline st s) :=
    (unread_frameTaken (presented s 3)).dropWater st (s.onStation st fun x => { x with mode := .offline })
  have hreply : offlineReply st (takeFrame 3 s) = okStation st (overlaid (frameTaken (presented s 3)) id (takeOffline st s)) := by
    have hstation : (takeFrame 3 s).station st = s.station st := rfl
    rw [offlineReply, hstation, hissued, hmode, hcurrent, hmoved]
    rfl
  have hframe := takeOffline_frame s st
  have hplans : (takeOffline st s).plans = s.plans := by rw [hframe.state]
  have hanswer := putResponse_taken (s := s) (w := takeOffline st s) (size := 1) (by rw [hframe.state]) hframe.link .ok
    (stationSummary st ((takeOffline st s).station st))
  rw [hplans] at hanswer
  exact (serve_of_work ((withStation_of_lt ..).trans hreply)).trans (congrArg _ hanswer)

/-- R81, R97, R105: the stations, the arbiter and the notices of a station taken offline, and its accounts. -/
theorem takeOffline_eq {s : State} {st : Fin 6} (hone : s.permit st = true → s.request st = none) :
    SameShop (tookOffline st s) (takeOffline st s) :=
  SameShop.takeOffline ⟨rfl, rfl, ⟨rfl, rfl, rfl, .refl _⟩⟩ hone

theorem waterDropped_jobs {s t : State} (hj : t = { s with jobs := t.jobs }) (st : Fin 6) (had : Bool) :
    SameWater (waterDropped st had s) (waterDropped st had t) :=
  SameWater.dropped (s := s) (t := t) (by rw [hj]; exact ⟨rfl, rfl, rfl, .refl _⟩) st had

/-- Settles O38: each request as served; OFFLINE by `takeOffline_eq` and the frame of the water's moves. -/
theorem stationSettings : Obligations.StationSettings := by
  unfold Obligations.StationSettings
  refine ⟨fun s st maxThick hrun hmode h1 h2 => ⟨_, fun h => if_pos (currentCutting_iff.mpr h),
    fun h => if_neg fun hc => h (currentCutting_iff.mp hc), exec_stationOnline hrun hmode h1 h2⟩,
    fun s st hok hmode hcurrent hissued => ?_, fun s st kerf life h1 h2 h3 h4 hissued hkerf => exec_setBlade h1 h2 h3 h4 hissued hkerf⟩
  have hone : s.permit st = true → s.request st = none := hok.request_of_permit
  obtain ⟨hjobs, hrates, hwater⟩ := takeOffline_eq (s := s) (st := st) hone
  have hdropped := waterDropped_jobs (s := { s with
      stations := s.stations.set st (offlined (s.permit st) (s.station st))
      link := (if s.permit st then chargeMeters st 0 s else s).link }) (t := offAndMetered st s)
    (by rw [offAndMetered_state]; rfl) st (s.permit st || (s.request st).isSome)
  rw [← tookOffline_eq] at hdropped
  have hself : (takeOffline st s).station st = offlined (s.permit st) (s.station st) :=
    (hwater.station st).trans (station_tookOffline_self st s)
  obtain ⟨hpermit, hrequest⟩ := dry_tookOffline_self st s
  have hframe := takeOffline_frame s st
  have hmoved := dropWater_water st (s.onStation st fun x => { x with mode := .offline })
  refine ⟨_, _, _, rfl, rfl, exec_stationOffline hmode hcurrent hissued, ?_, ?_, ?_, ?_, fun hp => ?_, fun b hb => ⟨_, ?_, rfl⟩,
    hframe.other, hframe.pieces, fun q hq => ?_⟩
  · exact state_eq rfl rfl rfl rfl (hwater.stations.trans hdropped.stations) (hwater.arbiter.trans hdropped.arbiter) rfl rfl
      (link_ext rfl rfl (hwater.link.notices.trans hdropped.link.notices) (hwater.link.overflow.trans hdropped.link.overflow) rfl rfl)
      rfl rfl
  · show ((takeOffline st s).station st).mode = .offline
    rw [hself]
    rfl
  · show ((takeOffline st s).arbiter.grants.find? _).isSome = false
    rw [hwater.arbiter]
    exact hpermit
  · show (takeOffline st s).arbiter.pending.find? _ = none
    rw [hwater.arbiter]
    exact hrequest
  · show ((takeOffline st s).station st).runSnap = _ ∧ ((takeOffline st s).station st).waterSnap = _ ∧
      ((takeOffline st s).station st).hold = none
    rw [hself, hp]
    exact ⟨rfl, rfl, rfl⟩
  · show (takeOffline st s).job 0 = _
    rw [State.job, hjobs, ← State.job, job_tookOffline, hb]
    cases s.permit st <;> rfl
  · have hkept : StationKept (s.station q) ((takeOffline st s).station q) := by
      have h := hmoved.station q
      rwa [station_onStation_ne _ _ _ _ hq] at h
    show ((takeOffline st s).station q).queue = _ ∧ ((takeOffline st s).station q).issued = _ ∧ ((takeOffline st s).station q).mode = _
    rw [hkept]
    exact ⟨rfl, rfl, rfl⟩

end Sys2Proof.Machine
end

section
/-! NEXT_CUT: the chosen entry, the water step told by its cases, and a cut issued (R88 to R91, R97, R100, R103, R104, R107). -/

namespace Sys2Proof.Machine

/-! ## The chosen entry (R89) -/

/-- R89: the entry is not one that its station can be given. -/
theorem passedOver_iff {s : State} {st : Fin 6} {p : Fin 16} (hcurrent : (s.station st).current = some p) (d : CutEntry) :
    (waiting st s d && !s.heldJob d.piece.job) = false ↔
      d.plan ≠ p ∨ entryState d s ≠ some .queued ∨ s.heldJob d.piece.job = true := by
  unfold waiting
  rw [hcurrent]
  simp only [Bool.and_eq_false_iff, beq_eq_false_iff_ne, ne_eq, Option.some.injEq, Bool.not_eq_false', or_assoc]
  exact or_congr ⟨fun h e => h e.symm, fun h e => h e.symm⟩ Iff.rfl

theorem chooseEntry_eq_some {s : State} {st : Fin 6} {p : Fin 16} {pre post : List CutEntry} {e : CutEntry} {b : Job}
    (hcurrent : (s.station st).current = some p) (hqueue : (s.station st).queue = pre ++ e :: post) (hplan : e.plan = p)
    (hstate : entryState e s = some .queued)
    (hpre : ∀ d ∈ pre, d.plan ≠ p ∨ entryState d s ≠ some .queued ∨ s.heldJob d.piece.job = true)
    (hb : s.job e.piece.job = some b) (hfree : heldForDispatch b = false) : chooseEntry st s = some e := by
  have hheld : s.heldJob e.piece.job = false := by rw [State.heldJob, hb]; exact hfree
  rw [chooseEntry, hqueue, List.find?_append, List.find?_eq_none.mpr fun d hd => ?_]
  · rw [List.find?_cons, waiting, hcurrent, hplan, hstate, hheld]
    simp
  · rw [(passedOver_iff hcurrent d).mpr (hpre d hd)]
    decide

theorem chooseEntry_eq_none {s : State} {st : Fin 6} {p : Fin 16} (hcurrent : (s.station st).current = some p)
    (h : ∀ d ∈ (s.station st).queue, d.plan ≠ p ∨ entryState d s ≠ some .queued ∨ s.heldJob d.piece.job = true) :
    chooseEntry st s = none :=
  List.find?_eq_none.mpr fun d hd => by
    rw [(passedOver_iff hcurrent d).mpr (h d hd)]
    decide

theorem descriptor_congr {s t : State} (h : t.plans = s.plans) (st : Fin 6) (e : CutEntry) : descriptor st e t = descriptor st e s := by
  unfold descriptor State.plan
  rw [h]

/-! ## A cut issued (R90) -/

/-- R97: charges read the meters, the machine rate and the water rate alone. -/
theorem meteredJob_congr {x y : Station} (h : SameMeters x y) (rate : Nat) (b : Job) : meteredJob y rate b = meteredJob x rate b := by
  unfold meteredJob
  rw [h.run, h.runSnap, h.water, h.waterSnap, h.rate]

theorem setPlacement_congr {s t : State} (h : t.plans = s.plans) (p : Fin 16) (i : Nat) (z : PlaceState) :
    (setPlacement p i z t).plans = (setPlacement p i z s).plans := by
  have hplan : t.plan p = s.plan p := by rw [State.plan, h]; rfl
  unfold setPlacement State.modPlan
  rw [hplan]
  cases s.plan p with
  | none => exact h
  | some x =>
    simp only [State.putPlan, State.onPlans, h]

theorem issueCut_state (st : Fin 6) (e : CutEntry) (s : State) : issueCut st e s = { s with
    jobs := modPieces [e.piece] issuePiece (chargeMeters st 0 s).jobs
    plans := (setPlacement e.plan e.index .issued s).plans
    stations := s.stations.set st (takeEntry e (snapMeters (s.station st)))
    link := (chargeMeters st 0 s).link } := by
  have hplans := setPlacement_congr (s := s) (t := chargeMeters st 0 s) (by rw [chargeMeters_state]) e.plan e.index .issued
  unfold issueCut
  dsimp only
  rw [setPlacement_state, hplans, chargeMeters_state]
  simp only [State.onStation, State.onJobs, get_set_self, Vector.set_set]
  rfl

theorem issueCut_overlaid {k : Link → Link} {f : Plant → Plant} (h : Unread k f) (st : Fin 6) (e : CutEntry) (s : State) :
    issueCut st e (overlaid k f s) = overlaid k f (issueCut st e s) := by
  have hplans := setPlacement_congr (s := s) (t := overlaid k f s) rfl e.plan e.index .issued
  rw [issueCut_state, issueCut_state, h.chargeMeters, hplans]
  rfl

/-- R90, R97: what a cut issued leaves of the plans, the pieces and the accounts. -/
structure CutIssued (st : Fin 6) (e : CutEntry) (s t : State) : Prop where
  state : entryState e t = some .issued
  others : ∀ d : CutEntry, d.plan ≠ e.plan ∨ d.index ≠ e.index → entryState d t = entryState d s
  queue : t.plans.queue = s.plans.queue
  plans : ∀ q, q ≠ e.plan → t.plan q = s.plan q
  plan : ∀ x kerf l rate y, s.plan e.plan = some x → x.phase = .cutting kerf l rate → l.placements[e.index]? = some y →
    t.plan e.plan = some { x with
      phase := .cutting kerf { l with placements := l.placements.set e.index { y with state := some .issued } } rate }
  piece : findPiece e.piece t.jobs = (findPiece e.piece s.jobs).map (fun y => { y with state := .issued })
  pieces : ∀ i, i ≠ e.piece → findPiece i t.jobs = findPiece i s.jobs
  jobs : ∀ j, j ≠ 0 → t.job j = s.job j
  overhead : ∀ d, s.job 0 = some d → t.job 0 = some (meteredJob (s.station st) s.rates.water d)

theorem entryState_setPlacement (e d : CutEntry) (z : PlaceState) (s : State) : entryState d (setPlacement e.plan e.index z s) =
    if d.plan = e.plan ∧ d.index = e.index then ((s.placements d.plan)[d.index]?).map fun _ => z else entryState d s := by
  unfold entryState
  rw [placements_setPlacement]
  by_cases hp : d.plan = e.plan
  · rw [if_pos hp, List.getElem?_modify]
    by_cases hi : d.index = e.index
    · rw [if_pos ⟨hp, hi⟩, hi]
      cases (s.placements d.plan)[e.index]? with
      | none => simp
      | some y => simp [withState]
    · rw [if_neg fun h => hi h.2]
      simp [Ne.symm hi]
  · rw [if_neg hp, if_neg fun h => hp h.1]

theorem issueCut_issued {s : State} {st : Fin 6} {e : CutEntry} (hstate : entryState e s = some .queued) :
    CutIssued st e s (issueCut st e s) := by
  have hentry : ∀ d, entryState d (issueCut st e s) = entryState d (setPlacement e.plan e.index .issued s) := fun d => by
    rw [issueCut_state]
    rfl
  have hplan : ∀ q, (issueCut st e s).plan q = (setPlacement e.plan e.index .issued s).plan q := fun q => by rw [issueCut_state]; rfl
  have hjobs : (issueCut st e s).jobs = modPieces [e.piece] issuePiece (chargeMeters st 0 s).jobs := by rw [issueCut_state]
  have hjob : ∀ j, (issueCut st e s).job j = (chargeMeters st 0 s).job j := fun j => by rw [State.job, hjobs]; rfl
  obtain ⟨hpiece, hpieces⟩ := findPiece_one (t := s.jobs) (u := (issueCut st e s).jobs) (i := e.piece) (f := issuePiece)
    (fun _ => rfl) (by rw [hjobs, modPieces, chargeMeters_pieces]; rfl)
  refine ⟨?_, fun d hd => ?_, ?_, fun q hq => ?_, fun x kerf l rate y hx hphase hy => ?_, hpiece, hpieces, fun j hj => ?_, fun d hd => ?_⟩
  · have hplace : ((s.placements e.plan)[e.index]?).isSome = true := by
      unfold entryState at hstate
      split at hstate
      · rename_i h
        rw [h]
        rfl
      · cases hstate
    obtain ⟨y, hy⟩ := Option.isSome_iff_exists.mp hplace
    rw [hentry, entryState_setPlacement, if_pos ⟨rfl, rfl⟩, hy]
    rfl
  · rw [hentry, entryState_setPlacement, if_neg fun ⟨h1, h2⟩ => hd.elim (fun h => h h1) fun h => h h2]
  · rw [issueCut_state]
    exact modPlan_queue ..
  · rw [hplan, setPlacement, plan_modPlan, if_neg hq]
  · rw [hplan, setPlacement_cutting hx hphase hy]
    exact get_set_self ..
  · rw [hjob, job_chargeMeters, if_neg hj]
  · rw [hjob, job_chargeMeters, if_pos rfl, hd]
    rfl

/-! ## NEXT_CUT asks for water (R90, R103) -/

/-- R88 to R90: the chosen entry `e` of the station and its job. -/
structure Chosen (s : State) (st : Fin 6) (e : CutEntry) (b : Job) : Prop where
  running : s.link.mode = .running
  loaded : (s.station st).mode = .loaded
  issued : (s.station st).issued = none
  blade : (s.station st).bladeMeter * 4 < (s.station st).life * 5
  entry : chooseEntry st s = some e
  job : s.job e.piece.job = some b

theorem worn_eq_false {x : Station} (h : x.bladeMeter * 4 < x.life * 5) : worn x = false := by
  simpa [worn] using h

theorem Chosen.reply {s : State} {st : Fin 6} {e : CutEntry} {b : Job} (h : Chosen s st e b) :
    withStation st (fun q => whenRunning (nextCutReply q s) s) s = askForCut st e s := by
  rw [withStation_of_lt, whenRunning_of_running h.running, nextCutReply, if_neg (fun hm => hm h.loaded), h.issued]
  dsimp only
  rw [worn_eq_false h.blade, h.entry]
  rfl

theorem Chosen.level {s : State} {st : Fin 6} {e : CutEntry} {b : Job} (h : Chosen s st e b) : entryLevel e s = b.level := by
  rw [entryLevel, h.job]

theorem Chosen.taken {s : State} {st : Fin 6} {e : CutEntry} {b : Job} (h : Chosen s st e b) (n : Nat) : Chosen (takeFrame n s) st e b :=
  ⟨h.running, h.loaded, h.issued, h.blade, h.entry, h.job⟩

/-- R90, R103: the water step leaves no grant. -/
theorem Chosen.waits {s w : State} {st : Fin 6} {e : CutEntry} {b : Job} (h : Chosen s st e b) (hw : waterStep st b.level s = w)
    (hgrant : w.grant st = none) : exec (.nextCut st) s = .next { s with
      jobs := w.jobs
      stations := w.stations
      arbiter := w.arbiter
      link := { answeredLink s 1 .waitWater (be 1 e.plan ++ be 1 e.index ++ be 1 b.level) with
        notices := w.link.notices, overflow := w.link.overflow } } := by
  have hpermit : w.permit st = false := permit_eq_false.mpr hgrant
  refine serve_of_water (w := w) ?_ (hw ▸ waterStep_water ..)
  refine (h.taken 3).reply.trans ?_
  rw [askForCut, (h.taken 3).level, takeFrame_eq, (unread_frameTaken _).waterStep, hw,
    show (overlaid (frameTaken (presented s 3)) id w).permit st = false from hpermit, if_neg Bool.false_ne_true]

/-- R90, R103: the water step leaves the station a grant, and the cut is issued. -/
theorem Chosen.issues {s w : State} {st : Fin 6} {e : CutEntry} {b : Job} (h : Chosen s st e b) (hw : waterStep st b.level s = w)
    (hpermit : w.permit st = true) : exec (.nextCut st) s = .next { s with
      jobs := (issueCut st e w).jobs
      plans := (issueCut st e w).plans
      stations := (issueCut st e w).stations
      arbiter := w.arbiter
      link := { answeredLink s 1 .ok (descriptor st e s) with
        notices := (chargeMeters st 0 w).link.notices, overflow := (chargeMeters st 0 w).link.overflow } } := by
  have hframe : WaterFrame s w := hw ▸ waterStep_water ..
  have hdescriptor : descriptor st e w = descriptor st e s := descriptor_congr (by rw [hframe.state]) st e
  have hreply : withStation st (fun q => whenRunning (nextCutReply q (takeFrame 3 s)) (takeFrame 3 s)) (takeFrame 3 s) =
      ⟨overlaid (frameTaken (presented s 3)) id (issueCut st e w), .ok, descriptor st e s⟩ := by
    refine (h.taken 3).reply.trans ?_
    rw [askForCut, (h.taken 3).level, takeFrame_eq, (unread_frameTaken _).waterStep, hw, issueCut_overlaid (unread_frameTaken _),
      ← hdescriptor]
    exact if_pos hpermit
  have hlink : LinkKept s.link (issueCut st e w).link := by
    rw [issueCut_state]
    exact hframe.link.trans (chargeMeters_link st 0 w)
  have hanswer := putResponse_taken (s := s) (w := issueCut st e w) (size := 1)
    (by rw [issueCut_state, hframe.state]) hlink .ok (descriptor st e s)
  refine (serve_of_work hreply).trans (congrArg _ (hanswer.trans ?_))
  rw [issueCut_state]

/-! ## What the water step makes of the arbiter (R103) -/

theorem CutIssued.of_water {s w t : State} {st : Fin 6} {e : CutEntry} (h : CutIssued st e w t)
    (hw : w = { s with stations := w.stations, arbiter := w.arbiter, link := w.link })
    (hmeters : SameMeters (s.station st) (w.station st)) : CutIssued st e s t := by
  have hplans : w.plans = s.plans := by rw [hw]
  have hjobs : w.jobs = s.jobs := by rw [hw]
  have hrates : w.rates = s.rates := by rw [hw]
  have hplan : ∀ q, w.plan q = s.plan q := fun q => by rw [State.plan, hplans]; rfl
  have hjob : ∀ j, w.job j = s.job j := fun j => by rw [State.job, hjobs]; rfl
  have hentry : ∀ d, entryState d w = entryState d s := fun d => by
    unfold entryState State.placements
    rw [hplan]
  obtain ⟨h1, h2, h3, h4, h5, h6, h7, h8, h9⟩ := h
  refine ⟨h1, fun d hd => (h2 d hd).trans (hentry d), by rw [h3, hplans], fun q hq => (h4 q hq).trans (hplan q), ?_, by rw [h6, hjobs],
    fun i hi => by rw [h7 i hi, hjobs], fun j hj => (h8 j hj).trans (hjob j), fun d hd => ?_⟩
  · exact fun x kerf l rate y hx => h5 x kerf l rate y ((hplan _).trans hx)
  · rw [h9 d ((hjob 0).trans hd), meteredJob_congr hmeters, hrates]

theorem CutIssued.of_records {s t t' : State} {st : Fin 6} {e : CutEntry} (h : CutIssued st e s t) (hplans : t'.plans = t.plans)
    (hjobs : t'.jobs = t.jobs) : CutIssued st e s t' := by
  have hplan : ∀ q, t'.plan q = t.plan q := fun q => by rw [State.plan, hplans]; rfl
  have hjob : ∀ j, t'.job j = t.job j := fun j => by rw [State.job, hjobs]; rfl
  have hentry : ∀ d, entryState d t' = entryState d t := fun d => by
    unfold entryState State.placements
    rw [hplan]
  obtain ⟨h1, h2, h3, h4, h5, h6, h7, h8, h9⟩ := h
  exact ⟨(hentry e).trans h1, fun d hd => (hentry d).trans (h2 d hd), by rw [hplans, h3], fun q hq => (hplan q).trans (h4 q hq),
    fun x kerf l rate y hx hphase hy => (hplan _).trans (h5 x kerf l rate y hx hphase hy), by rw [hjobs, h6],
    fun i hi => by rw [hjobs, h7 i hi], fun j hj => (hjob j).trans (h8 j hj), fun d hd => (hjob 0).trans (h9 d hd)⟩

theorem find?_station_map {l : List Grant} {f : Grant → Grant} (hf : ∀ g, (f g).station = g.station) (q : Fin 6) :
    (l.map f).find? (fun g => g.station == q) = (l.find? fun g => g.station == q).map f := by
  rw [List.find?_map]
  simp only [Function.comp_def, hf]

/-- R103: the grant takes the level and loses its mark, and no other is touched. -/
theorem grant_relevelGrant (st q : Fin 6) (level : Nat) (s : State) : (s.onArbiter (relevelGrant st level)).grant q =
    if q = st then (s.grant st).map fun g => { g with level := level, mark := false } else s.grant q := by
  have hfind : (s.onArbiter (relevelGrant st level)).grant q =
      (s.grant q).map fun g => if g.station == st then { g with level := level, mark := false } else g :=
    find?_station_map (fun g => by split <;> rfl) q
  rw [hfind]
  by_cases hq : q = st
  · subst hq
    rw [if_pos rfl]
    refine Option.map_congr fun g hg => ?_
    rw [(grant_station hg).1, beq_self_eq_true, if_pos rfl]
  · rw [if_neg hq]
    cases hg : s.grant q with
    | none => rfl
    | some g =>
      have hne : (g.station == st) = false := by rw [(grant_station hg).1]; exact beq_eq_false_iff_ne.mpr hq
      rw [Option.map_some, hne]
      rfl

/-- R103: with a grant held above the floor and none to make, the grant takes the level. -/
theorem waterStep_relevelGrant {s : State} {st : Fin 6} {level : Nat} (hpermit : s.permit st = true) (hlevel : s.arbiter.floor < level)
    (hnone : (∀ r ∈ s.arbiter.pending, r.level ≤ s.arbiter.floor) ∨ s.arbiter.capacity ≤ s.arbiter.grants.length ∨
      s.plant.clean.accepted = 0) : waterStep st level s = s.onArbiter (relevelGrant st level) := by
  rw [waterStep, if_pos hpermit, if_pos hlevel]
  refine arbitrate_of_nextGrant_none (nextGrant_eq_none ?_)
  rcases hnone with h | h | h
  · exact .inr (.inr h)
  · exact .inl (by simpa [State.onArbiter, relevelGrant] using h)
  · exact .inr (.inl h)

/-- R99, R100: the request that a station without grant has in its water step. -/
def asked (st : Fin 6) (level : Nat) (s : State) : State :=
  if (s.request st).isSome then s.onArbiter (relevelRequest st level) else s.onArbiter (newRequest st level)

theorem waterStep_of_no_grant {s : State} {st : Fin 6} (h : s.grant st = none) (level : Nat) :
    waterStep st level s = arbitrate (asked st level s) := by
  rw [waterStep, permit_eq_false.mpr h, if_neg Bool.false_ne_true, asked]
  split <;> rfl

theorem newRequest_of_lt {a : Arbiter} (h : a.stamp < 4294967295) (st : Fin 6) (level : Nat) :
    newRequest st level a = { a with pending := a.pending ++ [⟨st, level, a.stamp⟩], stamp := a.stamp + 1 } := if_pos h

theorem request_mem {s : State} {st : Fin 6} {r : Request} (h : s.request st = some r) : r ∈ s.arbiter.pending ∧ r.station = st :=
  ⟨List.mem_of_find?_eq_some h, by simpa using List.find?_some h⟩

/-- R99, R100: a new request has the next stamp, one that stands keeps its own; the others stand. -/
structure Asks (st : Fin 6) (level n stamp' : Nat) (s v : State) : Prop where
  state : v = { s with arbiter := { s.arbiter with pending := v.arbiter.pending, stamp := stamp' } }
  mem : ⟨st, level, n⟩ ∈ v.arbiter.pending
  own : ∀ q ∈ v.arbiter.pending, q.station = st → q = ⟨st, level, n⟩
  others : (v.arbiter.pending.filter fun r => r.station != st) = s.arbiter.pending.filter fun r => r.station != st

theorem asked_spec {s : State} {st : Fin 6} {n stamp' : Nat} (hok : (s.arbiter.pending.map fun r => r.station).Nodup)
    (h : (s.request st = none ∧ n = s.arbiter.stamp ∧ n < 4294967295 ∧ stamp' = n + 1) ∨
      ((∃ r, s.request st = some r ∧ n = r.stamp) ∧ stamp' = s.arbiter.stamp)) (level : Nat) :
    Asks st level n stamp' s (asked st level s) := by
  rcases h with ⟨hnone, rfl, hlt, rfl⟩ | ⟨⟨r, hr, rfl⟩, rfl⟩
  · have hv : asked st level s = s.onArbiter (newRequest st level) := by rw [asked, hnone]; rfl
    rw [hv, State.onArbiter, newRequest_of_lt hlt]
    refine ⟨rfl, by simp, fun q hq hst => ?_, by simp⟩
    exact ((List.mem_append.mp hq).resolve_left fun hq => request_eq_none.mp hnone q hq hst) |> List.mem_singleton.mp
  · have hv : asked st level s = s.onArbiter (relevelRequest st level) := by rw [asked, hr]; rfl
    obtain ⟨hmem, hst⟩ := request_mem hr
    rw [hv]
    refine ⟨rfl, List.mem_map.mpr ⟨r, hmem, by simp [hst]⟩, fun q hq hq' => ?_, ?_⟩
    · obtain ⟨x, hx, rfl⟩ := List.mem_map.mp hq
      have hxst : x.station = st := by
        by_contra hne
        rw [if_neg (by simpa using hne)] at hq'
        exact hne hq'
      have hxr : x = r := List.inj_on_of_nodup_map hok hx hmem (hxst.trans hst.symm)
      rw [hxr, hst, beq_self_eq_true]
      simp
    · show (List.filter _ (List.map _ s.arbiter.pending)) = _
      have hstation : ((fun x : Request => x.station != st) ∘ fun x => if x.station == st then { x with level := level } else x) =
          fun x => x.station != st := funext fun x => by
        simp only [Function.comp_apply]
        split <;> rfl
      rw [List.filter_map, hstation]
      refine (List.map_congr_left fun x hx => ?_).trans (List.map_id _)
      have hne := (List.mem_filter.mp hx).2
      rw [if_neg (by simpa using hne)]
      rfl

theorem Asks.grants {s v : State} {st : Fin 6} {level n stamp' : Nat} (h : Asks st level n stamp' s v) :
    v.arbiter.grants = s.arbiter.grants := by rw [h.state]

theorem Asks.grant {s v : State} {st : Fin 6} {level n stamp' : Nat} (h : Asks st level n stamp' s v) (q : Fin 6) :
    v.grant q = s.grant q := by rw [State.grant, h.grants]; rfl

/-- R104: the station's own request, no other being above the floor, is granted. -/
theorem Asks.granted {s v : State} {st : Fin 6} {level n stamp' : Nat} (h : Asks st level n stamp' s v)
    (hlow : ∀ r ∈ s.arbiter.pending, r.station ≠ st → r.level ≤ s.arbiter.floor) (hlevel : s.arbiter.floor < level)
    (hplace : s.arbiter.grants.length < s.arbiter.capacity) (hclean : s.plant.clean.accepted ≠ 0) :
    arbitrate v = makeGrant ⟨st, level, n⟩ v := by
  have hothers : ∀ q ∈ v.arbiter.pending, q.station ≠ st → q.level ≤ s.arbiter.floor := fun q hq hne => by
    have hmem : q ∈ v.arbiter.pending.filter fun r => r.station != st := List.mem_filter.mpr ⟨hq, by simpa using hne⟩
    rw [h.others] at hmem
    exact hlow q (List.mem_filter.mp hmem).1 hne
  have hfloor : v.arbiter.floor = s.arbiter.floor := by rw [h.state]
  refine arbitrate_one (nextGrant_of_best ?_ ?_ h.mem ?_ fun q hq hq' => ?_) fun q hq hne => by rw [hfloor]; exact hothers q hq hne
  · rw [h.state]
    exact hplace
  · rw [h.state]
    exact hclean
  · rw [hfloor]
    exact hlevel
  · by_cases hst : q.station = st
    · exact .inl (h.own q hq hst)
    · have := hothers q hq hst
      omega

/-- R104, R107: the state of the grant made within the water step. -/
theorem Asks.makeGrant_eq {s v : State} {st : Fin 6} {level n stamp' : Nat} (h : Asks st level n stamp' s v) :
    makeGrant ⟨st, level, n⟩ v = rehomed (s.stations.set st (grantedStation (s.station st)))
      { s.arbiter with
        pending := s.arbiter.pending.filter fun r => r.station != st
        grants := (makeGrant ⟨st, level, n⟩ v).arbiter.grants
        stamp := stamp' } (raiseNotice .granted st s) := by
  have hgrants := makeGrant_grants ⟨st, level, n⟩ v
  have hv := h.state
  have hothers := h.others
  rw [Machine.makeGrant_eq] at hgrants ⊢
  generalize hp : v.arbiter.pending = p at *
  subst hv
  simp only [enterGrant, dropRequest, hothers]
  rfl

/-- What an issued cut leaves: the state `t`, with the arbiter `a`, the station `y` before the issue, and the notices of the meters'
charge on `x`. -/
structure IssueOutcome (st : Fin 6) (e : CutEntry) (y : Station) (a : Arbiter) (x s t : State) : Prop where
  state : t = { s with
    jobs := t.jobs
    plans := t.plans
    stations := t.stations
    arbiter := a
    link := { answeredLink s 1 .ok (descriptor st e s) with
      notices := (chargeMeters st 0 x).link.notices, overflow := (chargeMeters st 0 x).link.overflow } }
  station : t.station st = takeEntry e (snapMeters y)
  stations : ∀ q, q ≠ st → t.station q = s.station q
  valve : t.valve st = true
  cut : CutIssued st e s t

/-- R90, R97: with a grant after the water step the cut is issued. -/
theorem Chosen.outcome {s x : State} {st : Fin 6} {e : CutEntry} {b : Job} {v : Vector Station 6} {a : Arbiter} (h : Chosen s st e b)
    (hstep : waterStep st b.level s = rehomed v a x) (hx : x = { s with link := x.link }) (hv : ∀ q, q ≠ st → v.get q = s.station q)
    (hmeters : SameMeters (s.station st) (v.get st)) (hstate : entryState e s = some .queued)
    (hgrant : (rehomed v a x).permit st = true) : ∃ t, exec (.nextCut st) s = .next t ∧ IssueOutcome st e (v.get st) a x s t := by
  have hentry : entryState e (rehomed v a x) = some .queued := by rw [hx]; exact hstate
  have hcut := (issueCut_issued (st := st) hentry).of_water (s := s) (by rw [hx]; rfl) hmeters
  have hcharge : (chargeMeters st 0 (rehomed v a x)).link = (chargeMeters st 0 x).link := by
    have hxst : x.station st = s.station st := by rw [hx]; rfl
    rw [chargeMeters_rehomed (by rw [hxst]; exact hmeters)]
    rfl
  have hstations : (issueCut st e (rehomed v a x)).stations = v.set st (takeEntry e (snapMeters (v.get st))) := by
    rw [issueCut_state]
    rfl
  have hself : (issueCut st e (rehomed v a x)).station st = takeEntry e (snapMeters (v.get st)) := by
    rw [State.station, hstations]
    exact get_set_self ..
  have hrun := h.issues hstep hgrant
  rw [hcharge] at hrun
  refine ⟨_, hrun, rfl, hself, fun q hq => ?_, ?_, hcut.of_records rfl rfl⟩
  · show (issueCut st e (rehomed v a x)).stations.get q = _
    rw [hstations, get_set_ne _ _ _ _ hq, hv q hq]
  · show ((rehomed v a x).permit st &&
      (((issueCut st e (rehomed v a x)).station st).issued.isSome || ((issueCut st e (rehomed v a x)).station st).spindle)) = true
    rw [hgrant, hself]
    rfl

/-- Settles O40: the water step's grant, held or made, and what the cut issued leaves. -/
theorem nextCutIssues : Obligations.NextCutIssues := by
  unfold Obligations.NextCutIssues
  intro s st p pre post e b hrun hmode hissued hblade hcurrent hqueue hplan hstate hpre hb hfree hlevel
  have hchosen : Chosen s st e b :=
    ⟨hrun, hmode, hissued, hblade, chooseEntry_eq_some hcurrent hqueue hplan hstate hpre hb hfree, hb⟩
  subst hplan
  refine ⟨fun g hg hnone => ?_, fun n stamp' hg hask hlow hplace hclean hok => ?_⟩
  · have hpermit : s.permit st = true := by rw [State.permit, hg]; rfl
    have hgrant := fun q => grant_relevelGrant st q b.level s
    have hself := hgrant st
    rw [if_pos rfl, hg] at hself
    obtain ⟨t, hexec, hout⟩ := hchosen.outcome (v := s.stations) (a := relevelGrant st b.level s.arbiter) (x := s)
      (waterStep_relevelGrant hpermit hlevel hnone) rfl (fun _ _ => rfl) (sameMeters_refl _) hstate
      (by rw [State.permit]; exact congrArg Option.isSome hself)
    have harbiter : t.arbiter = relevelGrant st b.level s.arbiter := by rw [hout.state]
    have hkeep : ∀ q, t.grant q = (s.onArbiter (relevelGrant st b.level)).grant q := fun q => by rw [State.grant, harbiter]; rfl
    obtain ⟨h1, h2, h3, h4, h5, h6, h7, h8, h9⟩ := hout.cut
    refine ⟨_, t, rfl, hexec, ?_, hout.station, hout.stations, (hkeep st).trans hself, hout.valve,
      fun q hq => (hkeep q).trans ((hgrant q).trans (if_neg hq)), h1, h2, h3, h4, h5, h6, h7, h8, h9⟩
    rw [harbiter]
    exact hout.state
  · have hasked := asked_spec hok.pending_nodup hask b.level
    have hstep := (waterStep_of_no_grant hg b.level).trans (hasked.granted hlow hlevel hplace hclean)
    have hgrant : ∀ q, (makeGrant ⟨st, b.level, n⟩ (asked st b.level s)).grant q =
        if q = st then some ⟨st, b.level, n, false⟩ else s.grant q := fun q => by
      rw [grant_makeGrant, hasked.grant]
    have hlength : (makeGrant ⟨st, b.level, n⟩ (asked st b.level s)).arbiter.grants.length = s.arbiter.grants.length + 1 := by
      rw [length_makeGrant_grants, hasked.grants]
    have hmade := hasked.makeGrant_eq
    have hself := hgrant st
    rw [if_pos rfl] at hself
    generalize hgrants : (makeGrant ⟨st, b.level, n⟩ (asked st b.level s)).arbiter.grants = gs at hmade hlength
    rw [hmade] at hstep hself hgrant
    obtain ⟨t, hexec, hout⟩ := hchosen.outcome hstep rfl (fun q hq => get_set_ne _ _ _ _ hq)
      (by rw [get_set_self]; exact ⟨rfl, rfl, rfl, rfl, rfl⟩) hstate (by rw [State.permit, hself]; rfl)
    have harbiter : t.arbiter = _ := congrArg State.arbiter hout.state
    have hkeep : ∀ q, t.grant q = if q = st then some ⟨st, b.level, n, false⟩ else s.grant q := fun q => by
      rw [State.grant, harbiter]
      exact hgrant q
    obtain ⟨h1, h2, h3, h4, h5, h6, h7, h8, h9⟩ := hout.cut
    refine ⟨_, t, rfl, hexec, ?_, ?_, hout.stations, (hkeep st).trans (if_pos rfl), hout.valve,
      fun q hq => (hkeep q).trans (if_neg hq), ?_, h1, h2, h3, h4, h5, h6, h7, h8, h9⟩
    · rw [harbiter]
      exact hout.state
    · rw [hout.station, get_set_self]
      simp only [takeEntry, stopHold, snapMeters, grantedStation]
    · rw [harbiter]
      exact hlength

end Sys2Proof.Machine
end

section
/-! NEXT_CUT's other answers: the descriptor again, BLADE_WORN, HELD_ONLY and WAIT_WATER (R88 to R90, R97, R100, R103 to R105, R111).  The
statement O41. -/

namespace Sys2Proof.Machine

/-! ## The answers without a chosen entry (R88, R89) -/

theorem exec_nextCut_issued {s : State} {st : Fin 6} {e : CutEntry} (hrun : s.link.mode = .running) (hmode : (s.station st).mode = .loaded)
    (hissued : (s.station st).issued = some e) : exec (.nextCut st) s = .next (answered s 1 .ok (descriptor st e s)) := by
  refine serve_of_answer ?_
  have hstation : (takeFrame 3 s).station st = s.station st := rfl
  rw [withStation_of_lt, whenRunning_of_running (s := takeFrame 3 s) hrun, nextCutReply, hstation, if_neg (fun hm => hm hmode), hissued]
  rfl

theorem exec_nextCut_worn {s : State} {st : Fin 6} (hrun : s.link.mode = .running) (hmode : (s.station st).mode = .loaded)
    (hissued : (s.station st).issued = none) (hblade : (s.station st).life * 5 ≤ (s.station st).bladeMeter * 4) :
    exec (.nextCut st) s = .next (answered s 1 .bladeWorn []) := by
  refine serve_of_answer ?_
  have hstation : (takeFrame 3 s).station st = s.station st := rfl
  have hworn : worn (s.station st) = true := decide_eq_true hblade
  rw [withStation_of_lt, whenRunning_of_running (s := takeFrame 3 s) hrun, nextCutReply, hstation, if_neg (fun hm => hm hmode), hissued]
  dsimp only
  rw [hworn]
  rfl

theorem waitingCount_eq {s : State} {st : Fin 6} {p : Fin 16} (hcurrent : (s.station st).current = some p) : waitingCount st s =
    (s.station st).queue.countP fun d => decide (d.plan = p ∧ entryState d s = some .queued) := by
  refine List.countP_congr fun d _ => ?_
  rw [waiting, hcurrent]
  simp only [Bool.and_eq_true, beq_iff_eq, decide_eq_true_eq, Option.some.injEq]
  exact and_congr_left' eq_comm

/-- R89: no entry can be chosen. -/
theorem heldOnlyReply {s : State} {st : Fin 6} (hrun : s.link.mode = .running) (hmode : (s.station st).mode = .loaded)
    (hissued : (s.station st).issued = none) (hblade : (s.station st).bladeMeter * 4 < (s.station st).life * 5)
    (hnone : chooseEntry st s = none) :
    withStation st (fun q => whenRunning (nextCutReply q s) s) s = answerHeldOnly st s := by
  rw [withStation_of_lt, whenRunning_of_running hrun, nextCutReply, if_neg (fun hm => hm hmode), hissued]
  dsimp only
  rw [worn_eq_false hblade, hnone]
  rfl

/-- R89, R111: HELD_ONLY, with the request withdrawn that stood. -/
theorem exec_nextCut_heldOnly {s : State} {st : Fin 6} {p : Fin 16} (hrun : s.link.mode = .running)
    (hmode : (s.station st).mode = .loaded) (hissued : (s.station st).issued = none)
    (hblade : (s.station st).bladeMeter * 4 < (s.station st).life * 5) (hcurrent : (s.station st).current = some p)
    (hnone : chooseEntry st s = none) : exec (.nextCut st) s = .next { s with
      jobs := (withdrawRequest st s).jobs
      stations := (withdrawRequest st s).stations
      arbiter := (withdrawRequest st s).arbiter
      link := { answeredLink s 1 .heldOnly
          (be 1 ((s.station st).queue.countP fun d => decide (d.plan = p ∧ entryState d s = some .queued))) with
        notices := (withdrawRequest st s).link.notices, overflow := (withdrawRequest st s).link.overflow } } := by
  refine serve_of_water (w := withdrawRequest st s) ?_ (withdrawRequest_water st s)
  refine (heldOnlyReply (s := takeFrame 3 s) hrun hmode hissued hblade hnone).trans ?_
  rw [answerHeldOnly, waitingCount_eq (s := takeFrame 3 s) hcurrent, takeFrame_eq, (unread_frameTaken _).withdrawRequest]
  rfl

/-! ## The water step that leaves no grant (R103) -/

theorem asked_grant (st q : Fin 6) (level : Nat) (s : State) (h : s.request st = none → s.arbiter.stamp < 4294967295) :
    (asked st level s).grant q = s.grant q := by
  unfold asked
  cases hr : s.request st with
  | some r => rfl
  | none =>
    show (s.onArbiter (newRequest st level)).grant q = _
    rw [State.onArbiter, newRequest_of_lt (h hr)]
    rfl

/-- R100: the last stamp brings the renumbering of all stamps in use. -/
theorem newRequest_of_last {a : Arbiter} (h : a.stamp = 4294967295) (st : Fin 6) (level : Nat) {rank : Nat → Nat}
    (hrank : ∀ n, rank n = 1 + a.pending.countP (fun r => decide (r.stamp < n)) +
      a.grants.countP (fun g => decide (g.stamp < n)) + if 4294967295 < n then 1 else 0) :
    newRequest st level a = { a with
      pending := (a.pending.map fun r => { r with stamp := rank r.stamp }) ++ [⟨st, level, rank 4294967295⟩]
      grants := a.grants.map fun g => { g with stamp := rank g.stamp }
      stamp := a.pending.length + a.grants.length + 2 } := by
  have hstep : stampRank { a with pending := a.pending ++ [⟨st, level, a.stamp⟩] } = rank := funext fun n => by
    rw [hrank, stampRank]
    simp only [List.countP_append, List.countP_singleton, h, decide_eq_true_eq]
    omega
  rw [newRequest, if_neg (by rw [h]; decide), renumberStamps, hstep]
  simp only [List.map_append, List.map_cons, List.map_nil, List.length_append, List.length_singleton, h]
  congr 1
  omega

/-- R104: nothing to grant, now or with a request at the level. -/
def NoneToGrant (level : Nat) (s : State) : Prop :=
  (level ≤ s.arbiter.floor ∧ ∀ r ∈ s.arbiter.pending, r.level ≤ s.arbiter.floor) ∨
    s.arbiter.capacity ≤ s.arbiter.grants.length ∨ s.plant.clean.accepted = 0

/-- R104: an arbiter with as many grants and other requests, these at the levels of the old ones or at the new level. -/
theorem NoneToGrant.arbitrate {s : State} {level : Nat} (h : NoneToGrant level s) {a : Arbiter} (hfloor : a.floor = s.arbiter.floor)
    (hcapacity : a.capacity = s.arbiter.capacity) (hgrants : a.grants.length = s.arbiter.grants.length)
    (hpending : ∀ r ∈ a.pending, r.level = level ∨ ∃ q ∈ s.arbiter.pending, r.level = q.level) :
    arbitrate { s with arbiter := a } = { s with arbiter := a } := by
  refine arbitrate_of_nextGrant_none (nextGrant_eq_none ?_)
  rcases h with ⟨h1, h2⟩ | h | h
  · refine .inr (.inr fun r hr => ?_)
    show r.level ≤ a.floor
    rw [hfloor]
    rcases hpending r hr with e | ⟨q, hq, e⟩
    · exact e ▸ h1
    · exact e ▸ h2 q hq
  · exact .inl (by rw [show ({ s with arbiter := a } : State).arbiter = a from rfl, hcapacity, hgrants]; exact h)
  · exact .inr (.inl h)

/-- R90, R103: the water step leaves an arbiter without a grant of the station, and nothing else moves. -/
theorem Chosen.waits_of_arbiter {s : State} {st : Fin 6} {e : CutEntry} {b : Job} (h : Chosen s st e b) {a : Arbiter}
    (hw : waterStep st b.level s = { s with arbiter := a }) (hgrant : ∀ g ∈ a.grants, g.station ≠ st) :
    exec (.nextCut st) s = .next { s with
      arbiter := a, link := answeredLink s 1 .waitWater (be 1 e.plan ++ be 1 e.index ++ be 1 b.level) } :=
  h.waits hw (grant_eq_none.mpr hgrant)

/-- R100: a new request joins the list. -/
theorem Chosen.waits_new {s : State} {st : Fin 6} {e : CutEntry} {b : Job} (h : Chosen s st e b) (hnone : NoneToGrant b.level s)
    (hgrant : s.grant st = none) (hrequest : s.request st = none) (hstamp : s.arbiter.stamp < 4294967295) :
    exec (.nextCut st) s = .next { s with
      arbiter := { s.arbiter with
        pending := s.arbiter.pending ++ [⟨st, b.level, s.arbiter.stamp⟩], stamp := s.arbiter.stamp + 1 }
      link := answeredLink s 1 .waitWater (be 1 e.plan ++ be 1 e.index ++ be 1 b.level) } := by
  refine h.waits_of_arbiter ?_ (grant_eq_none.mp hgrant)
  have hasked : asked st b.level s = s.onArbiter (newRequest st b.level) := by rw [asked, hrequest]; rfl
  rw [waterStep_of_no_grant hgrant, hasked, State.onArbiter, newRequest_of_lt hstamp]
  refine hnone.arbitrate rfl rfl rfl fun r hr => ?_
  exact (List.mem_append.mp hr).symm.imp (fun hr => by rw [List.mem_singleton.mp hr]) fun hr => ⟨r, hr, rfl⟩

/-- R100: a new request with the last stamp renumbers every stamp in use. -/
theorem Chosen.waits_last {s : State} {st : Fin 6} {e : CutEntry} {b : Job} (h : Chosen s st e b) (hnone : NoneToGrant b.level s)
    (hgrant : s.grant st = none) (hrequest : s.request st = none) (hstamp : s.arbiter.stamp = 4294967295) {rank : Nat → Nat}
    (hrank : ∀ n, rank n = 1 + s.arbiter.pending.countP (fun r => decide (r.stamp < n)) +
      s.arbiter.grants.countP (fun g => decide (g.stamp < n)) + if 4294967295 < n then 1 else 0) :
    exec (.nextCut st) s = .next { s with
      arbiter := { s.arbiter with
        pending := (s.arbiter.pending.map fun r => { r with stamp := rank r.stamp }) ++ [⟨st, b.level, rank 4294967295⟩]
        grants := s.arbiter.grants.map fun g => { g with stamp := rank g.stamp }
        stamp := s.arbiter.pending.length + s.arbiter.grants.length + 2 }
      link := answeredLink s 1 .waitWater (be 1 e.plan ++ be 1 e.index ++ be 1 b.level) } := by
  refine h.waits_of_arbiter ?_ fun g hg => ?_
  · have hasked : asked st b.level s = s.onArbiter (newRequest st b.level) := by rw [asked, hrequest]; rfl
    rw [waterStep_of_no_grant hgrant, hasked, State.onArbiter, newRequest_of_last hstamp st b.level hrank]
    refine hnone.arbitrate rfl rfl (List.length_map _) fun r hr => ?_
    refine (List.mem_append.mp hr).symm.imp (fun hr => by rw [List.mem_singleton.mp hr]) fun hr => ?_
    obtain ⟨q, hq, rfl⟩ := List.mem_map.mp hr
    exact ⟨q, hq, rfl⟩
  · obtain ⟨x, hx, rfl⟩ := List.mem_map.mp hg
    exact grant_eq_none.mp hgrant x hx

/-- R100: the request that stood takes the level. -/
theorem Chosen.waits_standing {s : State} {st : Fin 6} {e : CutEntry} {b : Job} (h : Chosen s st e b) (hnone : NoneToGrant b.level s)
    (hgrant : s.grant st = none) (hrequest : (s.request st).isSome = true) :
    exec (.nextCut st) s = .next { s with
      arbiter := relevelRequest st b.level s.arbiter
      link := answeredLink s 1 .waitWater (be 1 e.plan ++ be 1 e.index ++ be 1 b.level) } := by
  refine h.waits_of_arbiter ?_ (grant_eq_none.mp hgrant)
  rw [waterStep_of_no_grant hgrant, asked, if_pos hrequest, State.onArbiter]
  refine hnone.arbitrate rfl rfl rfl fun r hr => ?_
  obtain ⟨q, hq, rfl⟩ := List.mem_map.mp hr
  split
  · exact .inl rfl
  · exact .inr ⟨q, hq, rfl⟩

/-! ## A grant released at the floor (R103, R105) -/

/-- R104: a request at or below the floor changes nothing of what is granted next. -/
theorem nextGrant_of_low {s : State} {a : Arbiter} {r : Request} (hr : r.level ≤ s.arbiter.floor) (ha : a = { s.arbiter with
    pending := s.arbiter.pending ++ [r], stamp := a.stamp }) : nextGrant { s with arbiter := a } = nextGrant s := by
  have hfilter : (s.arbiter.pending ++ [r]).filter (grantable s.arbiter) = s.arbiter.pending.filter (grantable s.arbiter) := by
    have hlow : grantable s.arbiter r = false := decide_eq_false (Nat.not_lt.mpr hr)
    simp [List.filter_append, hlow]
  rw [ha]
  unfold nextGrant
  rw [← hfilter]
  rfl

/-- R103, R105: the grant released, then a request that waits. -/
theorem waterStep_release {s u : State} {st : Fin 6} {level : Nat} (hpermit : s.permit st = true) (hlevel : level ≤ s.arbiter.floor)
    (hstamp : s.arbiter.stamp < 4294967295) (hu : u = releaseGrant st s) :
    waterStep st level s = { u with arbiter := { u.arbiter with
      pending := u.arbiter.pending ++ [⟨st, level, s.arbiter.stamp⟩], stamp := s.arbiter.stamp + 1 } } := by
  have hkept : u.arbiter.floor = s.arbiter.floor ∧ u.arbiter.stamp = s.arbiter.stamp ∧ nextGrant u = none := by
    rw [hu, releaseGrant]
    refine ⟨?_, ?_, nextGrant_arbitrate _⟩
    · rw [floor_arbitrate, removeGrant_charged]
      rfl
    · rw [arbitrate_arbiter, removeGrant_charged]
      rfl
  obtain ⟨hfloor, hnext, hnone⟩ := hkept
  rw [waterStep, if_pos hpermit, if_neg (Nat.not_lt.mpr hlevel), ← hu, State.onArbiter, newRequest_of_lt (by rw [hnext]; exact hstamp),
    hnext]
  exact arbitrate_of_nextGrant_none ((nextGrant_of_low (by rw [hfloor]; exact hlevel) rfl).trans hnone)

/-- R105: the part without the station's grant, its meters charged to job 0. -/
theorem releaseGrant_eq (st : Fin 6) (s : State) : releaseGrant st s = arbitrate { chargeMeters st 0 s with
    stations := s.stations.set st (withoutGrant true (s.station st)), arbiter := dropGrant st s.arbiter } := by
  rw [releaseGrant, removeGrant_charged, chargeMeters_state]

/-- R99, R105: the station has no grant after the release, having no request. -/
theorem grant_releaseGrant {s : State} {st : Fin 6} (hrequest : s.request st = none) : (releaseGrant st s).grant st = none := by
  rw [releaseGrant, removeGrant_charged]
  refine (arbitrate_of_absent ?_).2.2 ?_
  · exact hrequest
  · exact grant_dropGrant_self st s

/-- R103, R105: a grant at the floor is released and a request waits. -/
theorem Chosen.waits_released {s u : State} {st : Fin 6} {e : CutEntry} {b : Job} (h : Chosen s st e b) (hpermit : s.permit st = true)
    (hlevel : b.level ≤ s.arbiter.floor) (hstamp : s.arbiter.stamp < 4294967295) (hu : u = releaseGrant st s)
    (hgrant : u.grant st = none) : exec (.nextCut st) s = .next { s with
      jobs := (chargeMeters st 0 s).jobs
      stations := u.stations
      arbiter := { u.arbiter with
        pending := u.arbiter.pending ++ [⟨st, b.level, s.arbiter.stamp⟩], stamp := s.arbiter.stamp + 1 }
      link := { answeredLink s 1 .waitWater (be 1 e.plan ++ be 1 e.index ++ be 1 b.level) with
        notices := u.link.notices, overflow := u.link.overflow } } := by
  have hjobs : u.jobs = (chargeMeters st 0 s).jobs := by rw [hu, releaseGrant_eq, arbitrate_state]
  rw [← hjobs]
  exact h.waits (waterStep_release hpermit hlevel hstamp hu) hgrant

/-- R103, R105: a grant at the floor is released with nothing else to grant. -/
theorem releaseGrant_of_low {s : State} {st : Fin 6} (hlow : ∀ r ∈ s.arbiter.pending, r.level ≤ s.arbiter.floor) :
    releaseGrant st s = { chargeMeters st 0 s with
      stations := s.stations.set st (withoutGrant true (s.station st)), arbiter := dropGrant st s.arbiter } := by
  rw [releaseGrant_eq]
  exact arbitrate_of_low hlow

/-- R104: one place, and the best request above the floor takes it. -/
theorem arbitrate_of_one_place {v : State} {r : Request} (hr : r ∈ v.arbiter.pending) (hfloor : v.arbiter.floor < r.level)
    (hbest : ∀ q ∈ v.arbiter.pending, v.arbiter.floor < q.level →
      q = r ∨ q.level < r.level ∨ (q.level = r.level ∧ r.stamp < q.stamp))
    (hplace : v.arbiter.grants.length + 1 = v.arbiter.capacity) (hclean : v.plant.clean.accepted ≠ 0) :
    arbitrate v = makeGrant r v := by
  rw [arbitrate_of_nextGrant (nextGrant_of_best (by omega) hclean hr hfloor hbest)]
  refine arbitrate_of_nextGrant_none (nextGrant_eq_none (.inl ?_))
  rw [length_makeGrant_grants, (makeGrant_water r v).capacity]
  omega

theorem asked_eq {st : Fin 6} {level : Nat} {s : State} (hstamp : s.request st = none → s.arbiter.stamp < 4294967295) :
    asked st level s = { s with
      arbiter :=
        if s.request st = none then
          { s.arbiter with pending := s.arbiter.pending ++ [⟨st, level, s.arbiter.stamp⟩], stamp := s.arbiter.stamp + 1 }
        else relevelRequest st level s.arbiter } := by
  unfold asked
  cases hr : s.request st with
  | none =>
    show s.onArbiter (newRequest st level) = _
    rw [State.onArbiter, newRequest_of_lt (hstamp hr)]
    rfl
  | some r => rfl

/-- Settles O41: each answer by its case of the water step. -/
theorem nextCutOtherAnswers : Obligations.NextCutOtherAnswers := by
  unfold Obligations.NextCutOtherAnswers
  intro s st hrun hmode
  refine ⟨fun e hissued => exec_nextCut_issued hrun hmode hissued, fun hissued hblade => exec_nextCut_worn hrun hmode hissued hblade,
    fun p hissued hblade hcurrent => ⟨fun hheld => ?_, fun pre e post b hqueue hplan hstate hpre hb hfree => ?_⟩⟩
  · have hexec := exec_nextCut_heldOnly hrun hmode hissued hblade hcurrent (chooseEntry_eq_none hcurrent hheld)
    refine ⟨fun hrequest => ?_, fun hrequest => ⟨_, rfl, ?_⟩⟩
    · rw [withdrawRequest, hrequest] at hexec
      exact hexec
    · have hwithdrawn : withdrawRequest st s = arbitrate (s.onArbiter (dropRequest st)) := if_pos hrequest
      have hjobs : (withdrawRequest st s).jobs = s.jobs := by rw [hwithdrawn, arbitrate_state]; rfl
      rw [hjobs, hwithdrawn] at hexec
      exact hexec
  · have h : Chosen s st e b :=
      ⟨hrun, hmode, hissued, hblade, chooseEntry_eq_some hcurrent hqueue hplan hstate hpre hb hfree, hb⟩
    have hlevelling : relevelRequest st b.level s.arbiter = { s.arbiter with
        pending := s.arbiter.pending.map fun r => if r.station = st then { r with level := b.level } else r } := by
      simp only [relevelRequest, beq_iff_eq]
    refine ⟨fun hnone => ⟨h.waits_new hnone, fun rank hg hr hstamp hrank => h.waits_last hnone hg hr hstamp hrank, fun hg hr => ?_⟩,
      fun hg hstamp hlevel hlow => ⟨_, rfl, ?_⟩, fun hg hstamp hlevel hok => ⟨_, _, rfl, rfl, ?_⟩, fun v u hg hstamp hv hu => ?_⟩
    · exact hlevelling ▸ h.waits_standing hnone hg hr
    · exact h.waits_released hg hlevel hstamp (releaseGrant_of_low hlow).symm (grant_dropGrant_self st s)
    · exact h.waits_released hg hlevel hstamp (releaseGrant_eq st s).symm
        (releaseGrant_eq st s ▸ grant_releaseGrant (hok.request_of_permit hg))
    · have hasked : asked st b.level s = v := by rw [hv, asked_eq hstamp, hlevelling]
      have hgrant : v.grant st = none := hasked ▸ (asked_grant st st b.level s hstamp).trans hg
      refine ⟨fun hwait => ?_, fun r hr hne hfloor hbest hplace hclean => ?_⟩
      · have hstep : waterStep st b.level s = u := by rw [waterStep_of_no_grant hg, hasked, hu]
        have hjobs : u.jobs = s.jobs := by rw [hu, arbitrate_state, hv]
        have hexec := h.waits hstep hwait
        rw [hjobs] at hexec
        exact hexec
      · have hkept : v.arbiter.floor = s.arbiter.floor ∧ v.arbiter.grants = s.arbiter.grants ∧
            v.arbiter.capacity = s.arbiter.capacity := by
          rw [hv]
          split <;> exact ⟨rfl, rfl, rfl⟩
        obtain ⟨hf, hgs, hc⟩ := hkept
        have hgranted : u = makeGrant r v := hu.trans (arbitrate_of_one_place hr (by rw [hf]; exact hfloor)
          (by rw [hf]; exact hbest) (by rw [hgs, hc]; exact hplace) (by rw [hv]; exact hclean))
        rw [hgranted, grant_makeGrant, grant_makeGrant, if_neg (Ne.symm hne), if_pos rfl]
        exact ⟨hgrant, rfl, makeGrant_pending r v⟩

end Sys2Proof.Machine
end

section
/-! BREAK_SLAB (R169, R170): the issued cut spoiled, the QUEUED placements returned, the plan closed as by a break.  The statement O44. -/

namespace Sys2Proof.Machine

/-! ## A plan closed by a break (R155 to R165) -/

/-- R155 to R165: a break keeps no remnant, so the close needs neither a serial nor a place in the Stock Table. -/
theorem closeSteps_broken {s : State} {p : Fin 16} {x : Plan} (l : Layout) (rate : Nat) {b : Slab}
    (hcur : (s.station x.station).current = some p) (hwater : WaterOk s) (hb : findSlab x.serial s.stock = some b) :
    SlabClosed p x.station l rate b true s (closeSteps p x l rate b true s) (closeReport p x l b true s) := by
  have hserial := findSlab_serial hb
  obtain ⟨pool, hpool⟩ : ∃ pool, pool = (closeReport p x l b true s).pool := ⟨_, rfl⟩
  have hw := closeWork_closed (s := s) (p := p) (x := x) l rate pool b .nothing hcur hwater
  have hsteps : closeSteps p x l rate b true s = raiseNotice .slabClosed p (closeWork p x l rate pool b .nothing s) := by
    rw [closeSteps_eq, hpool]
    rfl
  rw [hsteps]
  generalize closeWork p x l rate pool b .nothing s = t at *
  have hstock : t.stock = dropSlab x.serial s.stock := congrArg State.stock hw.state
  have hleft := hw.left s (wasteAll rate (closeCharges pool l.placements) s) rfl (.refl _) rfl
  rw [hpool] at hw hleft
  refine ⟨?_, fun hc => absurd hc.1 (by decide), fun _ => ⟨⟨?_, fun n hn => ?_, ?_, ?_⟩, ?_, rfl, rfl, fun hl => absurd hl.1 (by decide),
    fun _ => rfl⟩, rfl, ⟨rfl, rfl, hserial.symm, rfl, ?_⟩, hw.pieces, hw.job, hw.station, ⟨hw.permit, hw.request⟩,
    ⟨s, _, _, rfl, rfl, rfl, hleft.stations, hleft.arbiter, (hleft.link.post ..).notices, (hleft.link.post ..).overflow⟩⟩
  · have hlink := hw.link.trans (postNotice_kept .slabClosed p t.link)
    exact frame_relinked hw.state rfl hlink.mode hlink.miso
  · show findSlab b.serial t.stock = none
    rw [hstock, ← hserial]
    exact findSlab_dropSlab_self ..
  · show findSlab n t.stock = _
    rw [hstock]
    exact findSlab_dropSlab_ne _ (hserial ▸ hn)
  · show t.stock.classes = _
    rw [hstock]
    rfl
  · show t.stock.nextSerial = _
    rw [hstock]
    rfl
  · show t.stock.racks = _
    rw [hstock]
    rfl
  · show (chargedShares _ _).length = _
    rw [chargedShares_eq, List.length_map, List.countP_eq_length_filter]
    rfl

/-! ## The QUEUED placements returned (R170, step 2) -/

theorem eraseDups_append_singleton (l : List Nat) (n : Nat) : (l ++ [n]).eraseDups = if n ∈ l then l.eraseDups else l.eraseDups ++ [n] := by
  rw [List.eraseDups_append]
  by_cases h : n ∈ l
  · simp [List.removeAll, h]
  · simp [List.removeAll, h, List.eraseDups_cons]

/-- R170: the jobs in the order in which they first appear, as the numbers that the notices name. -/
theorem returnedJobs_eq (l : List Placement) : (returnedJobs l).map Fin.val =
    ((l.filter fun y => y.state == some .queued).map fun y => y.piece.job.val).eraseDups := by
  have key : ∀ ids : List PieceId, (ids.foldl (fun js i => if js.contains i.job then js else js ++ [i.job]) []).map Fin.val =
      (ids.map fun i => i.job.val).eraseDups := fun ids => by
    induction ids using List.reverseRecOn with
    | nil => rfl
    | append_singleton ids i ih =>
      have hmem : i.job.val ∈ ids.map (fun i => i.job.val) ↔
          i.job ∈ ids.foldl (fun js i => if js.contains i.job then js else js ++ [i.job]) [] := by
        rw [← List.mem_eraseDups, ← ih]
        simp [Fin.val_inj]
      rw [List.foldl_append, List.map_append, List.map_singleton, eraseDups_append_singleton, if_congr hmem rfl rfl, ← ih]
      generalize ids.foldl (fun js i => if js.contains i.job then js else js ++ [i.job]) [] = js
      by_cases h : i.job ∈ js
      · simp [h]
      · simp [h]
  rw [returnedJobs, key, queuedPieces, List.map_map]
  rfl

theorem foldl_recut (l : List Nat) (s : State) : l.foldl (fun t n => raiseNotice .recut n t) s =
    { s with link := l.foldl (fun k n => postNotice .recut n k) s.link } := by
  induction l generalizing s with
  | nil => rfl
  | cons n l ih => exact ih (raiseNotice .recut n s)

theorem bind_pure_val (l : List (Fin 64)) : (l >>= fun j => pure j.val) = l.map Fin.val :=
  bind_pure_comp _ _

theorem returnPlacement_eq (y : Placement) :
    returnPlacement y = if y.state = some .queued then { y with state := some .returned } else y := rfl

/-- R170: the state in which a CUTTING plan's QUEUED placements are returned. -/
theorem returnQueued_eq {s : State} {st : Fin 6} {p : Fin 16} {x : Plan} {kerf rate : Nat} {l : Layout} (hx : s.plan p = some x)
    (hphase : x.phase = .cutting kerf l rate) : returnQueued st p s = { s with
      jobs := modPieces (queuedPieces (s.placements p)) unplan s.jobs
      plans := { s.plans with slots := s.plans.slots.set p (some { x with
        phase := .cutting kerf { l with placements := (s.placements p).map returnPlacement } rate }) }
      stations := s.stations.set st { s.station st with queue := (s.station st).queue.filter fun e => e.plan != p }
      link := (((s.placements p).filter fun y => y.state == some .queued).map fun y => y.piece.job).eraseDups.foldl
        (fun k j => postNotice .recut j k) s.link } := by
  have hplace : s.placements p = l.placements := by
    unfold State.placements
    rw [hx]
    exact (cutting_views hphase).2.2.2.2.1
  unfold returnQueued
  dsimp only
  rw [hplace, bind_pure_val, foldl_recut, returnedJobs_eq, State.modPlan, hx]
  dsimp only
  rw [onPlacements_cutting hphase]
  rfl

/-! ## The issued cut spoiled (R170, step 1) -/

/-- R167: the plan once the placement of an entry is SPOILED. -/
def spoiledPlan (e : CutEntry) (x : Plan) : Plan :=
  onPlacements (fun m => m.modify e.index (withState .spoiled)) x

theorem setPlacement_spoiled {s : State} {e : CutEntry} {x : Plan} (hx : s.plan e.plan = some x) :
    setPlacement e.plan e.index .spoiled s = s.putPlan e.plan (some (spoiledPlan e x)) := by
  unfold setPlacement State.modPlan
  rw [hx]
  rfl

/-- R167: a spoiled cut leaves the plan, the station and no other record than the piece and the account. -/
theorem spoilCut_over {s : State} {st : Fin 6} {e : CutEntry} {x : Plan} (hx : s.plan e.plan = some x) :
    CutOver st e (spoiledPlan e x) s (spoilCut st e s) := by
  have hended : endEntry st e (setPlacement e.plan e.index .spoiled s) = cutEnded st e (spoiledPlan e x) s := by
    rw [setPlacement_spoiled hx, endEntry_eq]
    rfl
  unfold spoilCut
  dsimp only
  rw [hended]
  have hcharge := charge_money e.piece.job .spoil (entryArea e s) (entryRate e s)
    (chargeMeters st e.piece.job (cutEnded st e (spoiledPlan e x) s))
  have hmeters := chargeMeters_state st e.piece.job (cutEnded st e (spoiledPlan e x) s)
  have hlink := (chargeMeters_link st e.piece.job (cutEnded st e (spoiledPlan e x) s)).trans hcharge.link
  generalize charge e.piece.job .spoil (entryArea e s) (entryRate e s) _ = v at *
  refine .of_money (t := cutEnded st e (spoiledPlan e x) s) rfl ?_ ?_
  · unfold spoilPiece
    split
    · rw [hcharge.state, hmeters]
      rfl
    · rw [hcharge.state, hmeters]
  · unfold spoilPiece
    split
    · exact hlink.trans (postNotice_kept ..)
    · exact hlink

/-- R170: what is left once the issued cut, if there was one, is spoiled: the CUTTING plan with other placements, LOADED on its station. -/
structure SpoiledFirst (st : Fin 6) (p : Fin 16) (x : Plan) (kerf : Nat) (l : Layout) (rate : Nat) (ys : List Placement) (s w : State) :
    Prop where
  state : w = { s with
    jobs := w.jobs
    plans := { s.plans with slots := s.plans.slots.set p (some { x with phase := .cutting kerf { l with placements := ys } rate }) }
    stations := w.stations
    link := w.link }
  current : (w.station st).current = some p

theorem spoilIssued_none {s : State} {st : Fin 6} (h : (s.station st).issued = none) : spoilIssued st s = s := by
  rw [spoilIssued, h]

theorem spoilIssued_some {s : State} {st : Fin 6} {e : CutEntry} (h : (s.station st).issued = some e) :
    spoilIssued st s = spoilCut st e s := by
  rw [spoilIssued, h]

theorem spoilIssued_left {s : State} {st : Fin 6} {p : Fin 16} {x : Plan} {kerf rate : Nat} {l : Layout}
    (hcur : (s.station st).current = some p) (hx : s.plan p = some x) (hphase : x.phase = .cutting kerf l rate)
    (hplan : ∀ e, (s.station st).issued = some e → e.plan = p) :
    ∃ ys, SpoiledFirst st p x kerf l rate ys s (spoilIssued st s) := by
  cases he : (s.station st).issued with
  | none =>
    rw [spoilIssued_none he]
    refine ⟨l.placements, ?_, hcur⟩
    have hsame : ({ x with phase := .cutting kerf l rate } : Plan) = x := by rw [← hphase]
    have hset : s.plans.slots.set p (some x) = s.plans.slots := by
      rw [← show s.plans.slots.get p = some x from hx]
      exact set_get_self ..
    show s = { s with plans := { s.plans with slots := s.plans.slots.set p (some { x with phase := .cutting kerf l rate }) } }
    rw [hsame, hset]
  | some e =>
    obtain rfl := hplan e he
    rw [spoilIssued_some he]
    have hover := spoilCut_over (st := st) hx
    rw [spoiledPlan, onPlacements_cutting hphase] at hover
    refine ⟨l.placements.modify e.index (withState .spoiled), ?_, ?_⟩
    · have hstate := hover.state
      generalize spoilCut st e s = w at hstate ⊢
      rw [hstate]
    · rw [hover.station]
      exact hcur

theorem SpoiledFirst.plan {st : Fin 6} {p : Fin 16} {x : Plan} {kerf rate : Nat} {l : Layout} {ys : List Placement} {s w : State}
    (h : SpoiledFirst st p x kerf l rate ys s w) :
    w.plan p = some { x with phase := .cutting kerf { l with placements := ys } rate } := by
  rw [h.state]
  exact get_set_self ..

/-! ## BREAK_SLAB served -/

theorem exec_breakSlab {s : State} {st : Fin 6} {p : Fin 16} {c : Closed} {r : CloseReport} (hmode : (s.station st).mode = .loaded)
    (hcur : (s.station st).current = some p) (hc : breakPlan st p (takeFrame 3 s) = c) (hr : c.report = some r) :
    exec (.breakSlab st) s = .next (putResponse .ok (stationSummary st (c.state.station st) ++ reportBytes r) c.state) := by
  refine serve_of_work (r := ⟨c.state, .ok, _⟩) ?_
  have hstation : (takeFrame 3 s).station st = s.station st := rfl
  rw [withStation_of_lt, breakReply, hstation, if_neg (fun h => h hmode), hcur]
  dsimp only
  rw [hc, hr]
  rfl

/-- R169, R170: a slab that breaks at any time. -/
theorem breakSlab_at_any_time {s : State} {st : Fin 6} {p : Fin 16} {x : Plan} {kerf : Nat} {l : Layout} {rate : Nat} {b : Slab}
    (hok : WaterOk s) (hmode : (s.station st).mode = .loaded) (hcur : (s.station st).current = some p) (hx : s.plan p = some x)
    (hst : x.station = st) (hphase : x.phase = .cutting kerf l rate) (hb : findSlab x.serial s.stock = some b)
    (hplan : ∀ e, (s.station st).issued = some e → e.plan = p) {w u : State} {l' : Layout} (hw : w = spoilIssued st (takeFrame 3 s))
    (hl' : l' = { l with placements := (w.placements p).map returnPlacement })
    (hu : u = { w with
      jobs := modPieces (queuedPieces (w.placements p)) unplan w.jobs
      plans := { s.plans with slots := s.plans.slots.set p (some { x with phase := .cutting kerf l' rate }) }
      stations := w.stations.set st { w.station st with queue := (w.station st).queue.filter fun e => e.plan != p }
      link := (((w.placements p).filter fun y => y.state == some .queued).map fun y => y.piece.job.val).eraseDups.foldl
        (fun k n => postNotice .recut n k) w.link }) :
    ∃ t r, exec (.breakSlab st) s = .next t ∧ SlabClosed p st l' rate b true u t r ∧
      t.link.response = some ⟨.ok, stationSummary st (t.station st) ++ reportBytes r⟩ ∧ t.link.held = waitingFrame s.pending := by
  subst hst
  obtain ⟨ys, hleft⟩ := spoilIssued_left (s := takeFrame 3 s) hcur hx hphase hplan
  rw [← hw] at hleft
  have hstate := hleft.state
  have hreturned : returnQueued x.station p w = u := by
    rw [hu, returnQueued_eq hleft.plan rfl, hl']
    have hplans : ∀ y, { w.plans with slots := w.plans.slots.set p y } = { s.plans with slots := s.plans.slots.set p y } := fun y => by
      rw [show w.plans = _ from congrArg State.plans hstate]
      simp only [Vector.set_set]
      rfl
    rw [hplans]
  have hplan' : u.plan p = some { x with phase := .cutting kerf l' rate } := by
    rw [hu]
    exact get_set_self ..
  have hstock : u.stock = s.stock := by rw [hu, hstate]; rfl
  have hpending : u.pending = s.pending := by rw [hu, hstate]; rfl
  have hclose : breakPlan x.station p (takeFrame 3 s) = ⟨closeSteps p { x with phase := .cutting kerf l' rate } l' rate b true u,
      some (closeReport p { x with phase := .cutting kerf l' rate } l' b true u)⟩ := by
    rw [breakPlan, ← hw, hreturned, closePlan, hplan']
    dsimp only
    rw [hstock, hb]
  have hclosed := closeSteps_broken (s := u) (p := p) (x := { x with phase := .cutting kerf l' rate }) l' rate (b := b) (by
      rw [hu]
      show ((w.stations.set x.station _).get x.station).current = _
      rw [get_set_self]
      exact hleft.current) (by rw [hu, hstate]; exact hok) (by rw [hstock]; exact hb)
  refine ⟨_, _, exec_breakSlab hmode hcur hclose rfl, hclosed.answered .ok _, rfl, ?_⟩
  rw [← hpending]
  exact congrArg waitingFrame (closeSteps_pending ..)

/-! ## A slab that breaks before any of its cuts (R161, R164) -/

/-- R160, R161: with nothing cut, spoiled or void the whole pool is job 0's. -/
theorem closeShare_of_uncharged {ys : List Placement} (h : ∀ y ∈ ys, charged y = false) (pool : Nat) (j : Fin 64) :
    closeShare pool ys j = if j = 0 then pool else 0 := by
  have hbasis : ∀ j, basis j ys = 0 := fun j => by
    have hnone : (ys.filter fun x => charged x && x.piece.job == j) = [] :=
      List.filter_eq_nil_iff.mpr fun y hy => by rw [h y hy]; simp
    rw [basis, hnone]
    rfl
  have hsum : basisSum ys = 0 := by
    have hsharing : sharingJobs ys = [] := List.filter_eq_nil_iff.mpr fun j _ => by rw [hbasis]; decide
    rw [basisSum, hsharing]
    rfl
  rw [closeShare, wasteShares, if_pos hsum]
  by_cases hj : j = 0
  · subst hj
    simp
  · simp [hj, Ne.symm hj]

theorem sharers_of_uncharged {ys : List Placement} (h : ∀ y ∈ ys, charged y = false) {pool : Nat} (hpool : 0 < pool) :
    ((List.finRange 64).filter fun j => decide (0 < closeShare pool ys j)) = [0] := by
  have hfun : (fun j => decide (0 < closeShare pool ys j)) = fun j : Fin 64 => decide (j = 0) := funext fun j => by
    rw [closeShare_of_uncharged h]
    by_cases hj : j = 0
    · simp [hj, hpool]
    · simp [hj]
  rw [hfun]
  decide

theorem closeCharges_of_uncharged {ys : List Placement} (h : ∀ y ∈ ys, charged y = false) {pool : Nat} (hpool : 0 < pool) :
    closeCharges pool ys = [(0, pool)] := by
  have hvoid : (ys.filter fun y => y.state == some .void) = [] := List.filter_eq_nil_iff.mpr fun y hy hv => by
    have := h y hy
    simp [charged, beq_iff_eq.mp hv] at this
  rw [closeCharges, sharers_of_uncharged h hpool, hvoid]
  simp [closeShare_of_uncharged h]

/-- R142, R163: a job's account after such a close. -/
theorem wastedJob_of_uncharged {ys : List Placement} (h : ∀ y ∈ ys, charged y = false) {pool : Nat} (hpool : 0 < pool) (rate : Nat)
    (j : Fin 64) (d : Job) : wastedJob rate pool ys j d =
      { (if j = 0 then chargedJob .waste pool rate d else d) with openCount := d.openCount - ys.countP fun y => y.piece.job == j } := by
  have hareas : wasteAreas pool ys j = if j = 0 then [pool] else [] := by
    rw [wasteAreas, closeCharges_of_uncharged h hpool]
    by_cases hj : j = 0
    · simp [hj]
    · simp [hj, Ne.symm hj]
  rw [wastedJob, hareas]
  by_cases hj : j = 0
  · simp [hj]
  · simp [hj]

theorem uncharged_returned {ys : List Placement} (h : ∀ y ∈ ys, y.state = some .queued) :
    ∀ y ∈ ys.map returnPlacement, charged y = false := fun y hy => by
  obtain ⟨z, hz, rfl⟩ := List.mem_map.mp hy
  rw [returnPlacement_eq, if_pos (h z hz)]
  rfl

theorem countP_returned (ys : List Placement) (j : Fin 64) :
    (ys.map returnPlacement).countP (fun y => y.piece.job == j) = ys.countP fun y => decide (y.piece.job = j) := by
  rw [List.countP_map]
  refine List.countP_congr fun y _ => ?_
  simp [returnPlacement_piece]

/-- R97: the charge of meters, if it is made, leaves MATERIAL, SPOIL and WASTE. -/
theorem meteredIf_keeps (c : Prop) [Decidable c] (x : Station) (w : Nat) (d : Job) :
    (if c then meteredJob x w d else d).cost.waste = d.cost.waste ∧ (if c then meteredJob x w d else d).cost.material = d.cost.material ∧
      (if c then meteredJob x w d else d).cost.spoil = d.cost.spoil := by
  have hmetered : (meteredJob x w d).cost.waste = d.cost.waste ∧ (meteredJob x w d).cost.material = d.cost.material ∧
      (meteredJob x w d).cost.spoil = d.cost.spoil := by
    unfold meteredJob
    dsimp only
    split <;> split <;> exact ⟨rfl, rfl, rfl⟩
  by_cases h : c
  · simp only [if_pos h]
    exact hmetered
  · simp only [if_neg h, and_self]

/-- R161 to R164: what such a close leaves, told from the state `s` before the break. -/
structure BrokenUncut (p : Fin 16) (st : Fin 6) (l : Layout) (rate : Nat) (b : Slab) (s t : State) (r : CloseReport) : Prop where
  frame : t = { s with
    stock := t.stock
    jobs := t.jobs
    plans := { s.plans with slots := s.plans.slots.set p none }
    stations := t.stations
    arbiter := t.arbiter
    link := t.link }
  stock : OnlyRecord s.stock t.stock b.serial none ∧ t.stock.racks = s.stock.racks
  station : t.station st = advanced p (s.permit st) (s.station st)
  water : t.permit st = false ∧ t.request st = none
  pieces : t.jobs.pieces = (modPieces (queuedPieces l.placements) unplan s.jobs).pieces
  jobs : ∀ j, t.job j = (s.job j).map fun d =>
    if j = 0 ∧ s.permit st = true then
      meteredJob (s.station st) s.rates.water (wastedJob rate r.pool (l.placements.map returnPlacement) j d)
    else wastedJob rate r.pool (l.placements.map returnPlacement) j d
  report : r.plan = p ∧ r.station = st ∧ r.parent = b.serial ∧ r.broke = true ∧ r.outcome = .none ∧ r.remnant = none ∧ r.area = 0 ∧
    r.pool = b.usableLen * b.usableWid ∧ r.sharing = 1

/-- R169, R170: a slab that breaks before any of its cuts. -/
theorem breakSlab_uncut {s : State} {st : Fin 6} {p : Fin 16} {x : Plan} {kerf : Nat} {l : Layout} {rate : Nat} {b : Slab}
    (hok : WaterOk s) (hmode : (s.station st).mode = .loaded) (hissued : (s.station st).issued = none)
    (hcur : (s.station st).current = some p) (hx : s.plan p = some x) (hst : x.station = st) (hphase : x.phase = .cutting kerf l rate)
    (hall : ∀ y ∈ l.placements, y.state = some .queued) (hb : findSlab x.serial s.stock = some b) (h1 : 0 < b.usableLen)
    (h2 : 0 < b.usableWid) : ∃ t r, exec (.breakSlab st) s = .next t ∧ BrokenUncut p st l rate b s t r ∧
      t.link.response = some ⟨.ok, stationSummary st (t.station st) ++ reportBytes r⟩ := by
  obtain ⟨w, hw⟩ : ∃ w, w = takeFrame 3 s := ⟨_, rfl⟩
  have hplace : w.placements p = l.placements := by
    unfold State.placements
    rw [show w.plan p = some x by rw [hw]; exact hx]
    exact (cutting_views hphase).2.2.2.2.1
  have hspoiled : w = spoilIssued st (takeFrame 3 s) := hw.trans (spoilIssued_none (s := takeFrame 3 s) hissued).symm
  obtain ⟨l', hl'⟩ : ∃ l' : Layout, l' = { l with placements := (w.placements p).map returnPlacement } := ⟨_, rfl⟩
  obtain ⟨u, hu⟩ : ∃ u : State, u = { w with
    jobs := modPieces (queuedPieces (w.placements p)) unplan w.jobs
    plans := { s.plans with slots := s.plans.slots.set p (some { x with phase := .cutting kerf l' rate }) }
    stations := w.stations.set st { w.station st with queue := (w.station st).queue.filter fun e => e.plan != p }
    link := (((w.placements p).filter fun y => y.state == some .queued).map fun y => y.piece.job.val).eraseDups.foldl
      (fun k n => postNotice .recut n k) w.link } := ⟨_, rfl⟩
  obtain ⟨t, r, hexec, hclosed, hresponse, -⟩ := breakSlab_at_any_time hok hmode hcur hx hst hphase hb
    (fun e he => by rw [hissued] at he; cases he) hspoiled hl' hu
  refine ⟨t, r, hexec, ?_, hresponse⟩
  have hys : l'.placements = l.placements.map returnPlacement := by rw [hl', hplace]
  have hunch : ∀ y ∈ l'.placements, charged y = false := hys ▸ uncharged_returned hall
  have hnone : (l'.placements.filter charged) = [] := List.filter_eq_nil_iff.mpr fun y hy => by rw [hunch y hy]; decide
  obtain ⟨hrecord, hracks, hremnant, harea, -, houtcome⟩ := hclosed.notKept fun h => absurd h.1 (by decide)
  have hpool : r.pool = b.usableLen * b.usableWid := by
    rw [hclosed.pool, harea, hnone]
    rfl
  have hpos : 0 < r.pool := hpool ▸ Nat.mul_pos h1 h2
  obtain ⟨hplan, hstation, hparent, hbroke, hsharing⟩ := hclosed.report
  have hustock : u.stock = s.stock := by rw [hu, hw]; rfl
  have hself : u.station st = { s.station st with queue := (s.station st).queue.filter fun e => e.plan != p } := by
    rw [hu, hw]
    exact get_set_self ..
  have hpermit : u.permit st = s.permit st := by rw [hu, hw]; rfl
  have hrates : u.rates = s.rates := by rw [hu, hw]; rfl
  have hjob : ∀ j, u.job j = s.job j := fun j => by rw [hu, hw]; rfl
  refine ⟨?_, ?_, ?_, hclosed.water, ?_, fun j => ?_, hplan, hstation, hparent, hbroke, houtcome fun h => absurd h.1 (by decide), hremnant,
    harea, hpool, ?_⟩
  · have hframe := hclosed.frame
    have hplans : t.plans = { s.plans with slots := s.plans.slots.set p none } := by
      rw [show t.plans = { u.plans with slots := u.plans.slots.set p none } from congrArg State.plans hframe, hu]
      simp only [Vector.set_set]
    obtain ⟨hengine, hplant, hpins, hpending⟩ : u.engine = s.engine ∧ u.plant = s.plant ∧ u.pins = s.pins ∧ u.pending = s.pending := by
      rw [hu, hw]
      exact ⟨rfl, rfl, rfl, rfl⟩
    exact state_eq rfl rfl ((congrArg State.engine hframe).trans hengine) hplans rfl rfl ((congrArg State.plant hframe).trans hplant)
      ((congrArg State.rates hframe).trans hrates) rfl ((congrArg State.pins hframe).trans hpins)
      ((congrArg State.pending hframe).trans hpending)
  · rw [← hustock]
    exact ⟨hrecord, hracks⟩
  · rw [hclosed.station, hself, hpermit]
    simp [advanced]
  · rw [hclosed.pieces, hu, hplace, hw]
    rfl
  · rw [hclosed.jobs, hjob, hself, hpermit, hrates, hys]
    rfl
  · rw [hsharing, List.countP_eq_length_filter, sharers_of_uncharged hunch hpos]
    rfl

/-- Settles O44: the second part by `breakSlab_at_any_time`, the first by it with no cut issued and every placement returned. -/
theorem breakSlabCloses : Obligations.BreakSlabCloses := by
  unfold Obligations.BreakSlabCloses
  refine ⟨fun s st p x kerf l rate b z hok hmode hissued hcur hx hst hphase hall hb h1 h2 hz => ?_,
    fun s st p x kerf l rate b hok hmode hcur hx hst hphase hb hplan => ?_⟩
  · obtain ⟨t, r, hexec, hbroken, hresponse⟩ := breakSlab_uncut hok hmode hissued hcur hx hst hphase hall hb h1 h2
    have hframe := hbroken.frame
    have hserial := findSlab_serial hb
    obtain ⟨⟨hgone, hothers, -, hnext⟩, hracks⟩ := hbroken.stock
    obtain ⟨hplan, hstation, hparent, hbroke, houtcome, hremnant, harea, hpool, hsharing⟩ := hbroken.report
    have hunch := uncharged_returned hall
    have hpos : 0 < r.pool := hpool ▸ Nat.mul_pos h1 h2
    have hplans : ∀ q, t.plan q = (s.plans.slots.set p none).get q := fun q => by rw [hframe]; rfl
    have hpieces : ∀ i, findPiece i t.jobs = findPiece i (modPieces (queuedPieces l.placements) unplan s.jobs) := fun i =>
      findPiece_congr i hbroken.pieces
    have hqueued : ∀ i, i ∈ queuedPieces l.placements ↔ i ∈ l.placements.map fun y => y.piece := fun i => by
      rw [queuedPieces, List.filter_eq_self.mpr fun y hy => by rw [hall y hy]; rfl]
    have hzero := hbroken.jobs 0
    rw [hz, Option.map_some] at hzero
    refine ⟨t, _, hexec, (hplans p).trans (get_set_self ..), fun q hq => (hplans q).trans (get_set_ne _ _ _ _ hq), hserial ▸ hgone,
      fun n hn => hothers n (hserial ▸ hn), hracks, hnext, ?_, ?_, ?_, ?_, ?_, hbroken.water.1, hbroken.water.2,
      fun i hi => (hpieces i).trans (findPiece_unplanned _ ((hqueued i).mpr hi)),
      fun i hi => (hpieces i).trans (findPiece_not_unplanned _ fun h => hi ((hqueued i).mp h)), fun j hj => ?_, hzero, ?_, ?_, ?_, ?_, ?_,
      ?_, ?_, r, hresponse, hplan, hstation, hparent.trans hserial, hbroke, houtcome, hremnant, harea, hpool, hsharing⟩
    · rw [hbroken.station]
      exact if_pos hmode
    · rw [hbroken.station]
      rfl
    · rw [hbroken.station]
      rfl
    · rw [hbroken.station]
      exact hissued
    · rw [hbroken.station]
      rfl
    · rw [hbroken.jobs]
      simp only [hj, false_and, if_false, wastedJob_of_uncharged hunch hpos, countP_returned]
    · rw [(meteredIf_keeps ..).1, wastedJob_of_uncharged hunch hpos, ← hpool]
      rfl
    · rw [(meteredIf_keeps ..).2.1, wastedJob_of_uncharged hunch hpos]
      rfl
    · rw [(meteredIf_keeps ..).2.2, wastedJob_of_uncharged hunch hpos]
      rfl
    · rw [hframe]
    · rw [hframe]
    · rw [hframe]
    · rw [hframe]
  · obtain ⟨w, hw⟩ : ∃ w, w = spoilIssued st (takeFrame 3 s) := ⟨_, rfl⟩
    obtain ⟨l', hl'⟩ : ∃ l' : Layout, l' = { l with placements := (w.placements p).map returnPlacement } := ⟨_, rfl⟩
    obtain ⟨u, hu⟩ : ∃ u : State, u = { w with
      jobs := modPieces (queuedPieces (w.placements p)) unplan w.jobs
      plans := { s.plans with slots := s.plans.slots.set p (some { x with phase := .cutting kerf l' rate }) }
      stations := w.stations.set st { w.station st with queue := (w.station st).queue.filter fun e => e.plan != p }
      link := (((w.placements p).filter fun y => y.state == some .queued).map fun y => y.piece.job.val).eraseDups.foldl
        (fun k n => postNotice .recut n k) w.link } := ⟨_, rfl⟩
    obtain ⟨t, r, hexec, hclosed, hresponse, hheld⟩ := breakSlab_at_any_time hok hmode hcur hx hst hphase hb hplan hw hl' hu
    have hjobs : u.jobs = modPieces (queuedPieces (w.placements p)) unplan w.jobs := by rw [hu]
    refine ⟨w, u, t, l', r, ?_, hl', by rw [hu], by rw [hjobs]; rfl, fun i hi => ?_, fun i hi => ?_, hexec, hclosed, hresponse, hheld⟩
    · rw [hw]
      cases he : (s.station st).issued with
      | none => exact spoilIssued_none he
      | some e => exact spoilIssued_some he
    · rw [hjobs]
      exact findPiece_unplanned _ (mem_queuedPieces.mpr hi)
    · rw [hjobs]
      exact findPiece_not_unplanned _ fun h => hi (mem_queuedPieces.mp h)

end Sys2Proof.Machine
end

section
/-! What a move keeps of the water's two laws: the effective floor is the largest of its three terms (R101), and no station stands twice
among the requests and grants, nor is one held at clean band 0 (R99, R108).  The Grant Arbiter's own moves. -/

namespace Sys2Proof.Machine

/-! ## Both laws as one relation -/

/-- A move after which the floor still follows its sources if it did before, and the requests and grants are lawful if they were. -/
def KeepsWater (s t : State) : Prop :=
  (FloorOk s → FloorOk t) ∧ (WaterOk s → WaterOk t)

theorem KeepsWater.refl (s : State) : KeepsWater s s := ⟨id, id⟩

theorem KeepsWater.trans {s t u : State} (h : KeepsWater s t) (g : KeepsWater t u) : KeepsWater s u :=
  ⟨fun hs => g.1 (h.1 hs), fun hs => g.2 (h.2 hs)⟩

theorem KeepsWater.ite {c : Prop} [Decidable c] {s t u : State} (ht : KeepsWater s t) (hu : KeepsWater s u) :
    KeepsWater s (if c then t else u) := by
  split
  · exact ht
  · exact hu

theorem KeepsWater.foldl {α : Type} {f : State → α → State} (hf : ∀ s a, KeepsWater s (f s a)) (l : List α) (s : State) :
    KeepsWater s (l.foldl f s) :=
  foldl_rel (R := KeepsWater) .refl (fun _ _ _ => .trans) f hf l s

theorem floorOk_iff {s : State} : FloorOk s ↔ s.arbiter.floor = floorNow s := Iff.rfl

/-- R99: the stations of the requests and the grants. -/
def waterStations (a : Arbiter) : List (Fin 6) :=
  (a.pending.map fun r => r.station) ++ a.grants.map fun g => g.station

theorem waterOk_iff {s : State} :
    WaterOk s ↔ (waterStations s.arbiter).Nodup ∧ (s.plant.clean.accepted = 0 → s.arbiter.grants = []) := Iff.rfl

/-- The two laws read the arbiter, the accepted clean and sump bands, and the mode. -/
theorem KeepsWater.of_read {s t : State} (harbiter : t.arbiter = s.arbiter) (hclean : t.plant.clean.accepted = s.plant.clean.accepted)
    (hsump : t.plant.sump.accepted = s.plant.sump.accepted) (hmode : t.link.mode = s.link.mode) : KeepsWater s t := by
  unfold KeepsWater FloorOk WaterOk
  rw [harbiter, hclean, hsump, hmode]
  exact ⟨id, id⟩

theorem KeepsWater.of_same {s t : State} (harbiter : t.arbiter = s.arbiter) (hplant : t.plant = s.plant)
    (hlink : LinkKept s.link t.link) : KeepsWater s t :=
  .of_read harbiter (by rw [hplant]) (by rw [hplant]) hlink.mode

theorem CostFrame.keepsWater {s t : State} (h : CostFrame s t) : KeepsWater s t :=
  .of_same (by rw [h.state]) (by rw [h.state]) h.link

theorem PlantFrame.keepsWater {s t : State} (h : PlantFrame s t) : KeepsWater s t :=
  .of_read (by rw [h.state]) (by rw [h.clean]) (by rw [h.sump]) h.link.mode

/-- The water's moves touch no source of the floor: a floor that stands stays right. -/
theorem WaterFrame.floorOk {s t : State} (h : WaterFrame s t) (hfloor : t.arbiter.floor = s.arbiter.floor) (hs : FloorOk s) :
    FloorOk t :=
  floorOk_iff.mpr (hfloor.trans ((floorOk_iff.mp hs).trans h.floorNow.symm))

theorem chargeMeters_keepsWater (st : Fin 6) (j : Fin 64) (s : State) : KeepsWater s (chargeMeters st j s) :=
  .of_same (arbiter_chargeMeters st j s) (by rw [chargeMeters_state]) (chargeMeters_link st j s)

/-- A change of the arbiter's lists that leaves the floor, the table, and no station twice. -/
theorem onArbiter_keepsWater {f : Arbiter → Arbiter} {s : State} (hfloor : (f s.arbiter).floor = s.arbiter.floor)
    (htable : (f s.arbiter).table = s.arbiter.table)
    (honce : (waterStations s.arbiter).Nodup → (waterStations (f s.arbiter)).Nodup)
    (hdry : s.arbiter.grants = [] → (f s.arbiter).grants = []) : KeepsWater s (s.onArbiter f) := by
  refine ⟨fun h => floorOk_iff.mpr (hfloor.trans ((floorOk_iff.mp h).trans ?_)), fun h => ?_⟩
  · unfold floorNow tableTerm
    rw [onArbiter_arbiter, htable]
    rfl
  · obtain ⟨hnodup, hnone⟩ := waterOk_iff.mp h
    exact waterOk_iff.mpr ⟨honce hnodup, fun hclean => hdry (hnone hclean)⟩

/-! ## Requests and grants dropped or restated (R102, R103, R105, R111) -/

theorem waterStations_dropRequest (st : Fin 6) (a : Arbiter) : (waterStations (dropRequest st a)).Sublist (waterStations a) :=
  (List.filter_sublist.map _).append (.refl _)

theorem waterStations_dropGrant (st : Fin 6) (a : Arbiter) : (waterStations (dropGrant st a)).Sublist (waterStations a) :=
  List.Sublist.append (.refl _) (List.filter_sublist.map _)

theorem dropRequest_keepsWater (st : Fin 6) (s : State) : KeepsWater s (s.onArbiter (dropRequest st)) :=
  onArbiter_keepsWater rfl rfl (fun h => h.sublist (waterStations_dropRequest ..)) id

theorem dropGrant_keepsWater (st : Fin 6) (s : State) : KeepsWater s (s.onArbiter (dropGrant st)) :=
  onArbiter_keepsWater rfl rfl (fun h => h.sublist (waterStations_dropGrant ..)) fun h => by rw [dropGrant, h]; rfl

/-- Entries restated one by one keep what the restatement does not touch. -/
theorem map_restated {α β : Type} {f : α → α} {g : α → β} (h : ∀ x, g (f x) = g x) (l : List α) :
    (l.map f).map g = l.map g := by
  rw [List.map_map]
  exact List.map_congr_left fun x _ => h x

theorem waterStations_relevelGrant (st : Fin 6) (level : Nat) (a : Arbiter) :
    waterStations (relevelGrant st level a) = waterStations a := by
  unfold waterStations relevelGrant
  rw [map_restated fun x => by split <;> rfl]

theorem waterStations_relevelRequest (st : Fin 6) (level : Nat) (a : Arbiter) :
    waterStations (relevelRequest st level a) = waterStations a := by
  unfold waterStations relevelRequest
  rw [map_restated fun x => by split <;> rfl]

theorem waterStations_markGrants (a : Arbiter) : waterStations (markGrants a) = waterStations a := by
  unfold waterStations markGrants
  rw [map_restated fun _ => by rfl]

theorem waterStations_renumberStamps (a : Arbiter) : waterStations (renumberStamps a) = waterStations a := by
  unfold waterStations renumberStamps
  rw [map_restated fun _ => by rfl, map_restated fun _ => by rfl]

theorem relevelGrant_keepsWater (st : Fin 6) (level : Nat) (s : State) : KeepsWater s (s.onArbiter (relevelGrant st level)) :=
  onArbiter_keepsWater rfl rfl (fun h => by rwa [waterStations_relevelGrant]) fun h => by rw [relevelGrant, h]; rfl

theorem relevelRequest_keepsWater (st : Fin 6) (level : Nat) (s : State) : KeepsWater s (s.onArbiter (relevelRequest st level)) :=
  onArbiter_keepsWater rfl rfl (fun h => by rwa [waterStations_relevelRequest]) id

/-! ## Grants made (R104) -/

/-- R99, R104: the request granted leaves the list, and so its station stands once. -/
theorem makeGrant_once {r : Request} {s : State} (hr : r ∈ s.arbiter.pending) (h : (waterStations s.arbiter).Nodup) :
    (waterStations (makeGrant r s).arbiter).Nodup := by
  have hgrants : ((makeGrant r s).arbiter.grants.map fun g => g.station).Perm
      (r.station :: s.arbiter.grants.map fun g => g.station) := by
    rw [makeGrant_grants]
    exact (insertBy_perm _ _ _).map _
  have hrest : ((makeGrant r s).arbiter.pending.map fun q => q.station) =
      (s.arbiter.pending.map fun q => q.station).erase r.station := by
    rw [makeGrant_pending, (List.nodup_append'.mp h).1.erase_eq_filter, List.filter_map]
    rfl
  have hall : (waterStations (makeGrant r s).arbiter).Perm (waterStations s.arbiter) := by
    unfold waterStations
    rw [hrest]
    refine (hgrants.append_left _).trans (List.perm_middle.trans ?_)
    exact (List.perm_cons_erase (List.mem_map_of_mem hr)).symm.append_right _
  exact hall.nodup_iff.mpr h

theorem makeGrant_keepsWater {r : Request} {s : State} (h : nextGrant s = some r) : KeepsWater s (makeGrant r s) := by
  obtain ⟨hr, -, -, hclean⟩ := nextGrant_spec h
  refine ⟨(makeGrant_water r s).floorOk (floor_makeGrant r s), fun hs => ⟨makeGrant_once hr hs.1, fun hdry => ?_⟩⟩
  rw [(makeGrant_water r s).state] at hdry
  exact absurd hdry hclean

theorem arbitrateUpTo_keepsWater (n : Nat) (s : State) : KeepsWater s (arbitrateUpTo n s) := by
  induction n generalizing s with
  | zero => exact .refl s
  | succ n ih =>
    unfold arbitrateUpTo
    split
    · rename_i r hr
      exact (makeGrant_keepsWater hr).trans (ih _)
    · exact .refl s

theorem arbitrate_keepsWater (s : State) : KeepsWater s (arbitrate s) := arbitrateUpTo_keepsWater _ s

/-! ## Water released and withdrawn (R81, R82, R105, R111) -/

theorem releaseGrant_keepsWater (st : Fin 6) (s : State) : KeepsWater s (releaseGrant st s) :=
  (chargeMeters_keepsWater st 0 s).trans <| (dropGrant_keepsWater st _).trans
    (arbitrate_keepsWater (removeGrant st (chargeMeters st 0 s)))

theorem releaseIfHeld_keepsWater (st : Fin 6) (s : State) : KeepsWater s (releaseIfHeld st s) :=
  .ite (releaseGrant_keepsWater st s) (.refl s)

theorem withdrawRequest_keepsWater (st : Fin 6) (s : State) : KeepsWater s (withdrawRequest st s) :=
  .ite ((dropRequest_keepsWater st s).trans (arbitrate_keepsWater _)) (.refl s)

theorem dropWater_keepsWater (st : Fin 6) (s : State) : KeepsWater s (dropWater st s) :=
  (releaseIfHeld_keepsWater st s).trans (withdrawRequest_keepsWater st _)

theorem releaseIfMarked_keepsWater (st : Fin 6) (s : State) : KeepsWater s (releaseIfMarked st s) := by
  unfold releaseIfMarked
  split
  · exact .ite (releaseGrant_keepsWater st s) (.refl s)
  · exact .refl s

/-! ## A request made (R100, R103) -/

/-- R100: a new request adds its station, renumbered or not. -/
theorem waterStations_newRequest (st : Fin 6) (level : Nat) (a : Arbiter) :
    (waterStations (newRequest st level a)).Perm (st :: waterStations a) := by
  have hasked : ∀ n m,
      (waterStations { a with pending := a.pending ++ [⟨st, level, n⟩], stamp := m }).Perm (st :: waterStations a) := by
    intro n m
    unfold waterStations
    rw [List.map_append, List.append_assoc]
    exact List.perm_middle
  unfold newRequest
  split
  · exact hasked a.stamp (a.stamp + 1)
  · refine .trans (.of_eq ?_) (hasked a.stamp a.stamp)
    exact waterStations_renumberStamps { a with pending := a.pending ++ [⟨st, level, a.stamp⟩] }

theorem newRequest_grants_nil {st : Fin 6} {level : Nat} {a : Arbiter} (h : a.grants = []) : (newRequest st level a).grants = [] := by
  unfold newRequest renumberStamps
  split
  · exact h
  · rw [h]
    rfl

/-- R99: a station with neither a request nor a grant. -/
theorem not_mem_waterStations {st : Fin 6} {s : State} (hg : s.grant st = none) (hr : s.request st = none) :
    st ∉ waterStations s.arbiter := by
  rw [waterStations, List.mem_append, List.mem_map, List.mem_map]
  rintro (⟨r, hmem, hst⟩ | ⟨g, hmem, hst⟩)
  · exact request_eq_none.mp hr r hmem hst
  · exact grant_eq_none.mp hg g hmem hst

theorem newRequest_keepsWater {st : Fin 6} (level : Nat) {s : State} (hg : s.grant st = none) (hr : s.request st = none) :
    KeepsWater s (s.onArbiter (newRequest st level)) :=
  have ⟨_, htable, hfloor⟩ := newRequest_keeps st level s.arbiter
  onArbiter_keepsWater hfloor htable
    (fun h => (waterStations_newRequest st level _).nodup_iff.mpr (List.nodup_cons.mpr ⟨not_mem_waterStations hg hr, h⟩))
    newRequest_grants_nil

/-- R105: a station whose grant is released, and that asks for nothing, has neither. -/
theorem releaseGrant_dry {st : Fin 6} {s : State} (hr : s.request st = none) :
    (releaseGrant st s).grant st = none ∧ (releaseGrant st s).request st = none := by
  have hnone : (removeGrant st (chargeMeters st 0 s)).request st = none := by
    rw [removeGrant_charged]
    exact hr
  have hgone : (removeGrant st (chargeMeters st 0 s)).grant st = none := by
    rw [removeGrant_charged]
    exact grant_dropGrant_self st s
  obtain ⟨-, hrequest, hgrant⟩ := arbitrate_of_absent hnone
  exact ⟨hgrant hgone, hrequest⟩

/-- R103: a station at work has at most one of a grant and a request, so that its new request is its only one. -/
theorem waterStep_keepsWater (st : Fin 6) (level : Nat) (s : State) : KeepsWater s (waterStep st level s) := by
  unfold waterStep
  split
  · rename_i hpermit
    split
    · exact (relevelGrant_keepsWater st level s).trans (arbitrate_keepsWater _)
    · refine KeepsWater.trans ?_ (arbitrate_keepsWater _)
      have hrelease := releaseGrant_keepsWater st s
      have ⟨_, htable, hfloor⟩ := newRequest_keeps st level (releaseGrant st s).arbiter
      refine ⟨fun h => ?_, fun h => ?_⟩
      · exact (onArbiter_water (newRequest st level) (releaseGrant st s) (fun a => (newRequest_keeps st level a).1)
          fun a => (newRequest_keeps st level a).2.1).floorOk hfloor (hrelease.1 h)
      · obtain ⟨hg, hr⟩ := releaseGrant_dry (h.request_of_permit hpermit)
        exact (newRequest_keepsWater level hg hr).2 (hrelease.2 h)
  · rename_i hpermit
    split
    · exact (relevelRequest_keepsWater st level s).trans (arbitrate_keepsWater _)
    · rename_i hrequest
      have hg : s.grant st = none := permit_eq_false.mp (by simpa using hpermit)
      exact (newRequest_keepsWater level hg (by simpa using hrequest)).trans (arbitrate_keepsWater _)

/-! ## The floor formed afresh (R101, R102, R106) -/

/-- R101: whatever the floor was, it is right once formed afresh. -/
theorem reformFloor_floorOk (s : State) : FloorOk (reformFloor s) :=
  floorOk_iff.mpr ((floor_reformFloor s).trans (reformFloor_water s).floorNow.symm)

theorem reformFloor_lawful {s : State} (h : WaterOk s) : WaterOk (reformFloor s) := by
  by_cases hchange : floorNow s = s.arbiter.floor
  · rw [reformFloor, if_pos hchange]
    exact h
  · have hmarked : WaterOk (refloored s) := by
      refine ⟨?_, fun hclean => ?_⟩
      · exact (congrArg List.Nodup (waterStations_markGrants { s.arbiter with floor := floorNow s })).mpr h.1
      · rw [refloored_eq]
        exact List.map_eq_nil_iff.mpr (h.2 hclean)
    have hturns : KeepsWater (refloored s) (allStations.foldl releaseMarkedIdle (refloored s)) :=
      .foldl (fun t st => .ite (.refl t) (releaseIfMarked_keepsWater st t)) _ _
    rw [reformFloor_of_change hchange]
    exact (hturns.trans (arbitrate_keepsWater _)).2 hmarked

/-- A source of the floor changes, and the floor is formed afresh. -/
theorem KeepsWater.reform {s t : State} (h : WaterOk s → WaterOk t) : KeepsWater s (reformFloor t) :=
  ⟨fun _ => reformFloor_floorOk t, fun hs => reformFloor_lawful (h hs)⟩

/-- R101, R106: the floor after the clean tank has run dry. -/
theorem revokeAll_floorOk {s : State} (hclean : s.plant.clean.accepted = 0) : FloorOk (revokeAll s) := by
  obtain ⟨w, hw, -⟩ := revokeAll_eq hclean
  obtain ⟨p, hp, -⟩ := foldl_requeued (u := s) (l := allStations.filter s.permit) (fun st hst => (List.mem_filter.mp hst).2)
    { s.arbiter with floor := floorNow s }
  have hfloor : (revokeAll s).arbiter.floor = floorNow s := by
    rw [hw, hp]
    rfl
  exact floorOk_iff.mpr (hfloor.trans (revokeAll_water s).floorNow.symm)

/-- R99, R106: every grant becomes a request, and so every station stands as often as before. -/
theorem revokeAll_lawful {s : State} (hclean : s.plant.clean.accepted = 0) (honce : (waterStations s.arbiter).Nodup) :
    WaterOk (revokeAll s) := by
  obtain ⟨-, -, harbiter, hperm, -⟩ := revokeAll_clean hclean honce rfl
  have hgrants : (revokeAll s).arbiter.grants = [] := by rw [harbiter]
  refine ⟨?_, fun _ => hgrants⟩
  have hall : (waterStations (revokeAll s).arbiter).Perm (waterStations s.arbiter) := by
    unfold waterStations
    rw [hgrants, List.map_nil, List.append_nil]
    refine (hperm.map _).trans (.of_eq ?_)
    rw [List.map_append, List.map_map]
    rfl
  exact hall.nodup_iff.mpr honce

end Sys2Proof.Machine
end

section
/-! The operations that the commands share keep the water's two laws: closes, cuts, breaks, cancellations, ticks and the shop mode. -/

namespace Sys2Proof.Machine

/-! ## Notices, charges, plans and pieces -/

theorem raiseNotice_keepsWater (k : NoticeKind) (o : Nat) (s : State) : KeepsWater s (raiseNotice k o s) :=
  .of_same rfl rfl (postNotice_kept k o s.link)

theorem charge_keepsWater (j : Fin 64) (c : Category) (q r : Nat) (s : State) : KeepsWater s (charge j c q r s) :=
  (charge_money ..).cost.keepsWater

theorem modJob_keepsWater (j : Fin 64) (f : Job → Job) (s : State) : KeepsWater s (s.modJob j f) := by
  rw [modJob_state]
  exact .refl s

theorem modPlan_keepsWater (p : Fin 16) (f : Plan → Plan) (s : State) : KeepsWater s (s.modPlan p f) := by
  rw [modPlan_state]
  exact .refl s

theorem setPlacement_keepsWater (p : Fin 16) (i : Nat) (q : PlaceState) (s : State) : KeepsWater s (setPlacement p i q s) :=
  modPlan_keepsWater ..

theorem uncountPlacements_keepsWater (l : List Placement) (s : State) : KeepsWater s (uncountPlacements l s) := by
  rw [uncountPlacements_state]
  exact .refl s

/-! ## Plans given up and closed (R74, R82, R155 to R163) -/

theorem planLeavesStation_keepsWater (st : Fin 6) (p : Fin 16) (s : State) : KeepsWater s (planLeavesStation st p s) :=
  .ite (dropWater_keepsWater st (s.onStation st fun x => advanceStation (dropEntries p x))) (.refl s)

theorem unwindCommitted_keepsWater (p : Fin 16) (s : State) : KeepsWater s (unwindCommitted p s) := by
  unfold unwindCommitted
  split
  · rename_i x _
    exact (uncountPlacements_keepsWater (placementsOf x) (unplanPieces _ s)).trans
      (planLeavesStation_keepsWater _ p (State.onStock (releaseRecord _) _))
  · exact .refl s

theorem settleRemnant_keepsWater (p : Fin 16) (c : Candidate) (parent : Slab) (choice : RemnantChoice) (s : State) :
    KeepsWater s (settleRemnant p c parent choice s) := by
  obtain ⟨hstate, hlink⟩ := settleRemnant_state p c parent choice s
  exact .of_same (by rw [hstate]) (by rw [hstate]) hlink

theorem letGo_keepsWater (p : Fin 16) (serial : Nat) (l : List Placement) (s : State) : KeepsWater s (letGo p serial l s) :=
  uncountPlacements_keepsWater l s

theorem closeSteps_keepsWater (p : Fin 16) (x : Plan) (l : Layout) (rate : Nat) (b : Slab) (broke : Bool) (s : State) :
    KeepsWater s (closeSteps p x l rate b broke s) :=
  (settleRemnant_keepsWater ..).trans <| (wasteCharges_cost ..).keepsWater.trans <| (letGo_keepsWater ..).trans <|
    (planLeavesStation_keepsWater ..).trans (raiseNotice_keepsWater ..)

theorem closePlan_keepsWater (p : Fin 16) (broke : Bool) (s : State) : KeepsWater s (closePlan p broke s).state := by
  unfold closePlan
  split
  · split
    · split
      · exact closeSteps_keepsWater ..
      · exact .refl s
    · exact .refl s
  · exact .refl s

theorem closeCheck_keepsWater (p : Fin 16) (s : State) : KeepsWater s (closeCheck p s).state := by
  unfold closeCheck
  split
  · exact .refl s
  · exact closePlan_keepsWater p false s

/-! ## Cuts (R90, R93, R167), breaks (R170) and cancellations (R171 to R174) -/

theorem startHoldIf_keepsWater (st : Fin 6) (s : State) : KeepsWater s (startHoldIf st s) := .ite (.refl s) (.refl s)

theorem endEntry_keepsWater (st : Fin 6) (e : CutEntry) (s : State) : KeepsWater s (endEntry st e s) :=
  startHoldIf_keepsWater st (s.onStation st fun x => { x with queue := x.queue.erase e, issued := none })

theorem issueCut_keepsWater (st : Fin 6) (e : CutEntry) (s : State) : KeepsWater s (issueCut st e s) :=
  (chargeMeters_keepsWater st 0 s).trans (setPlacement_keepsWater e.plan e.index .issued _)

theorem finishCut_keepsWater (st : Fin 6) (e : CutEntry) (s : State) : KeepsWater s (finishCut st e s) :=
  (setPlacement_keepsWater e.plan e.index .cut s).trans <|
    (endEntry_keepsWater st e (State.onJobs (modPieces [e.piece] cutPiece) _)).trans <|
      (charge_keepsWater ..).trans (chargeMeters_keepsWater ..)

theorem spoilPiece_keepsWater (id : PieceId) (s : State) : KeepsWater s (spoilPiece id s) := by
  unfold spoilPiece
  split
  · exact raiseNotice_keepsWater _ _ (s.onJobs (modPieces [id] spoiledPiece))
  · exact .refl s

theorem spoilCut_keepsWater (st : Fin 6) (e : CutEntry) (s : State) : KeepsWater s (spoilCut st e s) :=
  (setPlacement_keepsWater e.plan e.index .spoiled s).trans <| (endEntry_keepsWater ..).trans <| (chargeMeters_keepsWater ..).trans <|
    (charge_keepsWater ..).trans (spoilPiece_keepsWater ..)

theorem afterCut_keepsWater (st : Fin 6) (p : Fin 16) (s : State) : KeepsWater s (afterCut st p s).state :=
  (closeCheck_keepsWater p s).trans (releaseIfMarked_keepsWater st _)

theorem spoilIssued_keepsWater (st : Fin 6) (s : State) : KeepsWater s (spoilIssued st s) := by
  unfold spoilIssued
  split
  · exact spoilCut_keepsWater ..
  · exact .refl s

theorem returnQueued_keepsWater (st : Fin 6) (p : Fin 16) (s : State) : KeepsWater s (returnQueued st p s) :=
  have hplan : KeepsWater s (returnPlacements st p s) := modPlan_keepsWater p (onPlacements fun m => m.map returnPlacement) s
  hplan.trans (KeepsWater.foldl (f := fun t j => raiseNotice .recut j t) (fun _ _ => raiseNotice_keepsWater ..)
    (returnedJobs (s.placements p)) (returnPlacements st p s))

theorem breakPlan_keepsWater (st : Fin 6) (p : Fin 16) (s : State) : KeepsWater s (breakPlan st p s).state :=
  (spoilIssued_keepsWater st s).trans <| (returnQueued_keepsWater st p _).trans (closePlan_keepsWater ..)

theorem cancelPieces_keepsWater (j : Fin 64) (s : State) : KeepsWater s (cancelPieces j s) := by
  rw [cancelPieces_state]
  exact .refl s

theorem cancelPlan_keepsWater (c : CancelTally) (p : Fin 16) : KeepsWater c.state (cancelPlan c p).state := by
  unfold cancelPlan
  split
  · split
    · split
      · exact unwindCommitted_keepsWater ..
      · exact .refl _
    · exact closeCheck_keepsWater ..
    · exact .refl _
  · exact .refl _

theorem cancelPlans_keepsWater (l : List (Fin 16)) (c : CancelTally) : KeepsWater c.state (l.foldl cancelPlan c).state :=
  foldl_rel (R := fun c d : CancelTally => KeepsWater c.state d.state) (fun _ => .refl _) (fun _ _ _ => .trans) cancelPlan
    cancelPlan_keepsWater l c

theorem cancelEffects_keepsWater (j : Fin 64) (s : State) : KeepsWater s (cancelEffects j s).state :=
  (modJob_keepsWater j (fun b => { b with state := .cancelling }) s).trans <| (cancelPieces_keepsWater j _).trans
    (cancelPlans_keepsWater _ ⟨cancelPieces j (s.modJob j fun b => { b with state := .cancelling }), 0, 0, none⟩)

/-! ## The ticks (R94 to R96, R109, R110, R117, R118) -/

theorem sampleStation_keepsWater (spin : BitVec 6) (s : State) (st : Fin 6) : KeepsWater s (sampleStation spin s st) := by
  unfold sampleStation
  dsimp only
  split_ifs
  · exact .refl s
  · exact startHoldIf_keepsWater st (State.onStation st _ (s.onStation st _))
  · exact .refl s

theorem sampleAll_keepsWater (spin : BitVec 6) (s : State) : KeepsWater s (sampleAll spin s) :=
  .foldl (sampleStation_keepsWater spin) allStations (s.onPins fun p => { p with spin := spin })

theorem tickStations_keepsWater (s : State) : KeepsWater s (tickStations s) :=
  .foldl (f := fun t st => t.onStation st (tickStation (s.valve st) (s.permit st))) (fun t _ => .refl t) allStations s

/-- R101, R118: a new sump band is a source of the floor, which is formed afresh. -/
theorem sampleSump_keepsWater (v : Fin 8) (s : State) : KeepsWater s (sampleSump v s) := by
  unfold sampleSump
  dsimp only
  split
  · rename_i hsame
    exact .of_read rfl rfl hsame rfl
  · generalize hu : (s.onPlant fun p => { p with sump := sampleFilter v p.sump }) = u
    have hsampled : WaterOk s → WaterOk u := fun h => hu ▸ h
    have hposted : KeepsWater u (if u.plant.sump.accepted = 7 then raiseNotice .sumpHigh 0 (raiseNotice .band 0 u)
        else raiseNotice .band 0 u) :=
      .ite ((raiseNotice_keepsWater ..).trans (raiseNotice_keepsWater ..)) (raiseNotice_keepsWater ..)
    exact (KeepsWater.reform fun h => hposted.2 (hsampled h)).trans (.ite (startTest_plantFrame _).keepsWater (.refl _))

theorem settlingTest_keepsWater (s : State) : KeepsWater s (settlingTest s) :=
  .ite (fillTest_plantFrame s).keepsWater (.ite (decantEndTest_plantFrame s).keepsWater (.refl s))

theorem sampleSettling_keepsWater (v : Fin 8) (s : State) : KeepsWater s (sampleSettling v s) :=
  have hchanged := (raiseNotice_keepsWater .band 1 (s.onPlant fun p => { p with settling := sampleFilter v p.settling })).trans
    (settlingTest_keepsWater _)
  .ite (.refl s) hchanged

/-- R101, R106: a new clean band is a source of the floor; at 0 every grant is revoked, and otherwise no law speaks of it. -/
theorem cleanChanged_keepsWater {s u : State} (honce : WaterOk s → (waterStations u.arbiter).Nodup) :
    KeepsWater s (cleanChanged u) := by
  have hwater : KeepsWater s (if u.plant.clean.accepted = 0 then revokeAll (raiseNotice .band 2 u)
      else arbitrate (reformFloor (raiseNotice .band 2 u))) := by
    split
    · rename_i hclean
      exact ⟨fun _ => revokeAll_floorOk (s := raiseNotice .band 2 u) hclean,
        fun h => revokeAll_lawful (s := raiseNotice .band 2 u) hclean (honce h)⟩
    · rename_i hclean
      have hbefore : WaterOk s → WaterOk (raiseNotice .band 2 u) := fun h => ⟨honce h, fun hdry => absurd hdry hclean⟩
      exact (KeepsWater.reform hbefore).trans (arbitrate_keepsWater _)
  exact hwater.trans (.ite (cleanTest_plantFrame _).keepsWater (.refl _))

theorem sampleClean_keepsWater (v : Fin 8) (s : State) : KeepsWater s (sampleClean v s) := by
  unfold sampleClean
  dsimp only
  split
  · rename_i hsame
    exact .of_read rfl hsame rfl rfl
  · exact cleanChanged_keepsWater fun h => h.1

theorem sampleTurbidity_keepsWater (v : Bool) (s : State) : KeepsWater s (sampleTurbidity v s) :=
  have hchanged : ∀ u, KeepsWater u (turbidityChanged u) := fun u => .ite (decantEndTest_plantFrame u).keepsWater (.refl u)
  .ite (.refl s) (hchanged (s.onPlant fun p => { p with turbidity := sampleFilter v p.turbidity }))

theorem decisecond_keepsWater (sump settling clean : Fin 8) (cloudy : Bool) (s : State) :
    KeepsWater s (decisecond sump settling clean cloudy s) :=
  (tickStations_keepsWater (readPins sump settling clean cloudy s)).trans <| (sampleSump_keepsWater ..).trans <|
    (sampleSettling_keepsWater ..).trans <| (sampleClean_keepsWater ..).trans (sampleTurbidity_keepsWater ..)

theorem takeDryRun_keepsWater (st : Fin 6) (s : State) : KeepsWater s (takeDryRun st s) :=
  .ite (raiseNotice_keepsWater .dryRun st
    (s.onStation st fun x => { x with dryDue := false, dryCount := min 255 (x.dryCount + 1) })) (.refl s)

theorem takeBladeLife_keepsWater (st : Fin 6) (s : State) : KeepsWater s (takeBladeLife st s) :=
  .ite (raiseNotice_keepsWater .bladeLife st (s.onStation st fun x => { x with bladeDue := false })) (.refl s)

theorem expireHold_keepsWater (st : Fin 6) (s : State) : KeepsWater s (expireHold st s) :=
  .ite (releaseIfHeld_keepsWater st (s.onStation st stopHold)) (.refl s)

/-! ## The layout work, the shop mode and RESET (R40, R65, R67, R185 to R188) -/

theorem takeHead_keepsWater (s : State) : KeepsWater s (takeHead s) := by
  unfold takeHead
  split
  · split
    · split
      · split <;> exact .refl s
      · exact .refl s
    · exact .refl s
  · exact .refl s

theorem handOver_keepsWater (p : Fin 16) (number kerf : Nat) (l : Layout) (s : State) : KeepsWater s (handOver p number kerf l s) := by
  unfold handOver
  split
  · exact .refl s
  · rename_i x _
    split_ifs
    · exact .refl s
    · exact raiseNotice_keepsWater .laid p (s.putPlan p (some { x with stale := false, phase := .laid kerf l }))
    · exact .refl s
    · exact .refl s

theorem completeComputation_keepsWater (s : State) : KeepsWater s (completeComputation s) := by
  unfold completeComputation
  split
  · exact handOver_keepsWater _ _ _ _ (s.onEngine fun e => { e with current := none })
  · exact .refl s

/-- R101, R185: the shop mode is a source of the floor, which is formed afresh. -/
theorem changeMode_keepsWater (m : ShopMode) (s : State) : KeepsWater s (changeMode m s) :=
  (KeepsWater.reform (s := s) (t := s.onLink fun l => { l with mode := m }) id).trans (arbitrate_keepsWater _)

theorem takeOffline_keepsWater (st : Fin 6) (s : State) : KeepsWater s (takeOffline st s) :=
  dropWater_keepsWater st (s.onStation st fun x => { x with mode := .offline })

theorem closeShop_keepsWater (s : State) : KeepsWater s (closeShop s) :=
  have hoffline : KeepsWater s (closeStations s) := .foldl (fun t st => takeOffline_keepsWater st t) _ s
  hoffline.trans <| (stopPlant_plantFrame _).keepsWater.trans (changeMode_keepsWater .loading _)

/-- R8, R115, R188: after a reset the floor is 7 in LOADING mode, and no station has water. -/
theorem releaseReset_keepsWater (s t : State) : KeepsWater s (releaseReset t) :=
  ⟨fun _ => rfl, fun _ => ⟨.nil, fun _ => rfl⟩⟩

theorem readResponse_keepsWater (n : Nat) (s : State) : KeepsWater s (readResponse n s) := .refl s

theorem discardRequest_keepsWater (n : Nat) (s : State) : KeepsWater s (discardRequest n s) := .ite (.refl s) (.refl s)

end Sys2Proof.Machine
end

section
/-! Every command keeps the water's two laws: the checks of a request, block by block, then the dispatch.  The statements O51 and O52. -/

namespace Sys2Proof.Machine

/-! ## The checks of a request: the state is the block's, or as it was -/

section
variable {P : State → Prop} {s : State} (hs : P s)
include hs

theorem withRecord_state {serial check : Nat} {k : Slab → Reply} (h : ∀ x, P (k x).state) : P (withRecord serial check k s).state := by
  unfold withRecord
  split
  · exact hs
  · split
    · exact h _
    · exact hs

theorem withJob_state {job : Nat} {k : Fin 64 → Job → Reply} (h : ∀ j b, P (k j b).state) : P (withJob job k s).state := by
  unfold withJob
  split
  · exact hs
  · split
    · exact h ..
    · exact hs

theorem withPiece_state {job idx : Nat} {k : Job → Piece → Reply} (h : ∀ b x, P (k b x).state) : P (withPiece job idx k s).state := by
  refine withJob_state hs fun j b => ?_
  split
  · exact hs
  · split
    · exact h ..
    · exact hs

theorem withPlan_state {plan : Nat} {k : Fin 16 → Plan → Reply} (h : ∀ p x, P (k p x).state) : P (withPlan plan k s).state := by
  unfold withPlan
  split
  · exact hs
  · split
    · exact h ..
    · exact hs

theorem withPlanPart_state {plan first : Nat} {k : Fin 16 → Plan → Reply} (h : ∀ p x, P (k p x).state) :
    P (withPlanPart plan first k s).state := by
  refine withPlan_state hs fun p x => ?_
  split
  · exact hs
  · exact h p x

theorem withStation_state {station : Nat} {k : Fin 6 → Reply} (h : ∀ st, P (k st).state) : P (withStation station k s).state := by
  unfold withStation
  split
  · exact hs
  · exact h _

theorem whenRunning_state {k : Reply} (h : P k.state) : P (whenRunning k s).state := by
  unfold whenRunning
  split
  · exact hs
  · exact h

theorem reported_state {station plan index : Nat} {k : Fin 6 → CutEntry → Reply} (h : ∀ st e, P (k st e).state) :
    P (withStation station (fun st =>
      match reportedEntry st plan index s with
      | some e => k st e
      | none => refuse s .badState) s).state := by
  refine withStation_state hs fun st => ?_
  split
  · exact h st _
  · exact hs

end

/-- A served request keeps what its block's work keeps: the link's marks of a transaction are in neither law. -/
theorem serve_keepsWater {size : Nat} {work : State → Reply} {s t : State} (hstep : serve size work s = .next t)
    (h : ∀ u, KeepsWater u (work u).state) : KeepsWater s t := by
  rw [serve_eq] at hstep
  cases hstep
  exact h (takeFrame (size + 2) s)

/-! ## The Stock Table -/

theorem admitReply_keepsWater (serial check kind material thickness nomLen nomWid head tail near far rack : Nat) (s : State) :
    KeepsWater s (admitReply serial check kind material thickness nomLen nomWid head tail near far rack s).state := by
  unfold admitReply
  split_ifs <;> exact .refl s

theorem listStockReply_keepsWater (material minLen minWid selector : Nat) (s : State) :
    KeepsWater s (listStockReply material minLen minWid selector s).state := by
  unfold listStockReply
  split
  · exact .refl s
  · split <;> exact .refl s

theorem moveReply_keepsWater (rack : Nat) (x : Slab) (s : State) : KeepsWater s (moveReply rack x s).state := by
  unfold moveReply
  split_ifs <;> exact .refl s

theorem changeState_keepsWater (before after : SlabState) (x : Slab) (s : State) :
    KeepsWater s (changeState before after x s).state := by
  unfold changeState
  split <;> exact .refl s

theorem trimReply_keepsWater (head tail near far : Nat) (x : Slab) (s : State) :
    KeepsWater s (trimReply head tail near far x s).state := by
  unfold trimReply
  split_ifs <;> exact .refl s

theorem retireReply_keepsWater (x : Slab) (s : State) : KeepsWater s (retireReply x s).state := by
  unfold retireReply
  split_ifs <;> exact .refl s

theorem rackClassReply_keepsWater (rack cls : Nat) (s : State) : KeepsWater s (rackClassReply rack cls s).state := by
  unfold rackClassReply
  split
  · exact .refl s
  · split <;> exact .refl s

/-! ## The Job Table -/

theorem openJobReply_keepsWater (job level budget hold : Nat) (s : State) :
    KeepsWater s (openJobReply job level budget hold s).state := by
  unfold openJobReply
  split_ifs
  iterate 2 exact .refl s
  split <;> exact .refl s

theorem addPieceReply_keepsWater (len wid grain : Nat) (j : Fin 64) (b : Job) (s : State) :
    KeepsWater s (addPieceReply len wid grain j b s).state := by
  unfold addPieceReply
  split
  · exact .refl s
  split
  · exact .refl s
  split
  · exact .refl s
  split
  · exact .refl s
  split
  · exact .refl s
  split <;> exact .refl s

theorem deletePieceReply_keepsWater (x : Piece) (s : State) : KeepsWater s (deletePieceReply x s).state := by
  unfold deletePieceReply
  split <;> exact .refl s

theorem releasePieceReply_keepsWater (b : Job) (x : Piece) (s : State) : KeepsWater s (releasePieceReply b x s).state := by
  unfold releasePieceReply
  split_ifs <;> exact .refl s

theorem setJobReply_keepsWater (level budget hold : Nat) (j : Fin 64) (b : Job) (s : State) :
    KeepsWater s (setJobReply level budget hold j b s).state := by
  unfold setJobReply
  split
  · exact .refl s
  · split
    · exact .refl s
    · rename_i h _
      exact .ite (raiseNotice_keepsWater .budget j (s.putJob j (some (setJobRecord level budget h b)))) (.refl s)

theorem readJobReply_keepsWater (first : Nat) (j : Fin 64) (b : Job) (s : State) : KeepsWater s (readJobReply first j b s).state := by
  unfold readJobReply
  split <;> exact .refl s

theorem closeJobReply_keepsWater (j : Fin 64) (b : Job) (s : State) : KeepsWater s (closeJobReply j b s).state := by
  unfold closeJobReply
  split_ifs <;> exact .refl s

/-! ## The Plan Table -/

theorem openPlanReply_keepsWater (serial check station : Nat) (s : State) :
    KeepsWater s (openPlanReply serial check station s).state := by
  unfold openPlanReply
  split_ifs
  iterate 2 exact .refl s
  split
  · exact .refl s
  · split_ifs
    iterate 2 exact .refl s
    split <;> exact .refl s

theorem planAddReply_keepsWater (p : Fin 16) (x : Plan) (b : Job) (y : Piece) (s : State) :
    KeepsWater s (planAddReply p x b y s).state := by
  unfold planAddReply
  split_ifs <;> exact .refl s

theorem planRemoveReply_keepsWater (p : Fin 16) (x : Plan) (y : Piece) (s : State) :
    KeepsWater s (planRemoveReply p x y s).state := by
  unfold planRemoveReply
  split_ifs <;> exact .refl s

theorem layoutReply_keepsWater (p : Fin 16) (x : Plan) (s : State) : KeepsWater s (layoutReply p x s).state := by
  unfold layoutReply
  split_ifs <;> exact .refl s

theorem commitReply_keepsWater (p : Fin 16) (x : Plan) (s : State) : KeepsWater s (commitReply p x s).state := by
  have hcommit : ∀ kerf l, KeepsWater s (commitPlan p x kerf l s) := fun kerf l => by
    rw [commitPlan_state]
    exact .refl s
  unfold commitReply
  split
  · exact .refl s
  · split_ifs
    iterate 4 exact .refl s
    exact hcommit ..
  · exact .refl s

theorem leaveLayoutWork_keepsWater (p : Fin 16) (number : Option Nat) (s : State) :
    KeepsWater s (leaveLayoutWork p number s) := by
  unfold leaveLayoutWork
  dsimp only
  split <;> exact .refl s

theorem abandonReply_keepsWater (p : Fin 16) (x : Plan) (s : State) : KeepsWater s (abandonReply p x s).state := by
  unfold abandonReply
  split
  · exact .refl s
  · exact unwindCommitted_keepsWater p s
  · exact leaveLayoutWork_keepsWater p _ s
  · exact .refl s
  · exact .refl s

theorem layoutPart_keepsWater (body : Layout → List Byte) (x : Plan) (s : State) : KeepsWater s (layoutPart body x s).state := by
  unfold layoutPart
  split <;> exact .refl s

/-! ## The Station Units -/

theorem onlineReply_keepsWater (maxThick : Nat) (st : Fin 6) (s : State) : KeepsWater s (onlineReply maxThick st s).state := by
  unfold onlineReply
  split_ifs <;> exact .refl s

theorem offlineReply_keepsWater (st : Fin 6) (s : State) : KeepsWater s (offlineReply st s).state := by
  unfold offlineReply
  split_ifs
  iterate 3 exact .refl s
  exact takeOffline_keepsWater st s

theorem bladeReply_keepsWater (kerf life : Nat) (st : Fin 6) (s : State) : KeepsWater s (bladeReply kerf life st s).state := by
  unfold bladeReply
  split_ifs <;> exact .refl s

theorem loadChecks_keepsWater (p : Fin 16) (b : Slab) (st : Fin 6) (s : State) : KeepsWater s (loadChecks p b st s).state := by
  unfold loadChecks
  split_ifs
  iterate 2 exact .refl s
  exact modPlan_keepsWater p startCutting (s.onStock (placeOnBed b st))

theorem loadReply_keepsWater (serial : Nat) (st : Fin 6) (s : State) : KeepsWater s (loadReply serial st s).state := by
  unfold loadReply
  split_ifs
  · exact .refl s
  · split
    · exact .refl s
    · split_ifs
      · exact .refl s
      · split
        · exact .refl s
        · exact loadChecks_keepsWater ..

theorem askForCut_keepsWater (st : Fin 6) (e : CutEntry) (s : State) : KeepsWater s (askForCut st e s).state := by
  have hwater := waterStep_keepsWater st (entryLevel e s) s
  unfold askForCut
  dsimp only
  split
  · exact hwater.trans (issueCut_keepsWater st e _)
  · exact hwater

theorem nextCutReply_keepsWater (st : Fin 6) (s : State) : KeepsWater s (nextCutReply st s).state := by
  unfold nextCutReply
  split
  · exact .refl s
  · split
    · exact .refl s
    · split
      · exact .refl s
      · split
        · exact askForCut_keepsWater ..
        · exact withdrawRequest_keepsWater st s

theorem cutDoneReply_keepsWater (st : Fin 6) (e : CutEntry) (s : State) : KeepsWater s (cutDoneReply st e s).state := by
  have hafter := afterCut_keepsWater st e.plan (finishCut st e s)
  unfold cutDoneReply
  generalize afterCut st e.plan (finishCut st e s) = c at *
  exact (finishCut_keepsWater st e s).trans hafter

theorem cutSpoiledReply_keepsWater (st : Fin 6) (e : CutEntry) (s : State) : KeepsWater s (cutSpoiledReply st e s).state := by
  have hafter := afterCut_keepsWater st e.plan (spoilCut st e s)
  unfold cutSpoiledReply
  generalize afterCut st e.plan (spoilCut st e s) = c at *
  exact (spoilCut_keepsWater st e s).trans hafter

theorem breakReply_keepsWater (st : Fin 6) (s : State) : KeepsWater s (breakReply st s).state := by
  unfold breakReply
  split
  · exact .refl s
  · split
    · exact breakPlan_keepsWater ..
    · exact .refl s

theorem cancelReply_keepsWater (j : Fin 64) (b : Job) (s : State) : KeepsWater s (cancelReply j b s).state := by
  unfold cancelReply
  split
  · exact .refl s
  · exact cancelEffects_keepsWater j s

/-! ## Water, plant, costs, the shop mode and the link -/

/-- R101, R113: the floor table is a source of the floor, which is formed afresh. -/
theorem setArbiterReply_keepsWater (capacity f0 f1 f2 f3 f4 f5 f6 f7 : Nat) (s : State) :
    KeepsWater s (setArbiterReply capacity f0 f1 f2 f3 f4 f5 f6 f7 s).state :=
  (KeepsWater.reform (s := s) (t := s.onArbiter (storeArbiter capacity f0 f1 f2 f3 f4 f5 f6 f7)) id).trans (arbitrate_keepsWater _)

theorem plantStartReply_keepsWater (mode reset : Nat) (s : State) : KeepsWater s (plantStartReply mode reset s).state := by
  refine whenRunning_state (.refl s) ?_
  split
  · exact (plantStartEffects_plantFrame ..).keepsWater
  · exact .refl s

theorem bufferModeReply_keepsWater (value : Nat) (s : State) : KeepsWater s (bufferModeReply value s).state := by
  unfold bufferModeReply
  split <;> exact .refl s

theorem plantSetReply_keepsWater (name value : Nat) (s : State) : KeepsWater s (plantSetReply name value s).state := by
  unfold plantSetReply
  split
  · exact (writeSetting_plantFrame ..).keepsWater
  · split
    · exact bufferModeReply_keepsWater value s
    · exact .refl s

theorem materialRateReply_keepsWater (code rate : Nat) (s : State) : KeepsWater s (materialRateReply code rate s).state := by
  unfold materialRateReply
  split <;> exact .refl s

theorem clearOverheadReply_keepsWater (s : State) : KeepsWater s (clearOverheadReply s).state := by
  unfold clearOverheadReply
  split <;> exact .refl s

theorem openShopReply_keepsWater (shortMin longMin : Nat) (s : State) : KeepsWater s (openShopReply shortMin longMin s).state := by
  unfold openShopReply
  split
  · exact .refl s
  · exact changeMode_keepsWater .running (s.onEngine (storeMinimums shortMin longMin))

theorem closeShopReply_keepsWater (s : State) : KeepsWater s (closeShopReply s).state := by
  unfold closeShopReply
  split_ifs
  iterate 2 exact .refl s
  exact closeShop_keepsWater s

theorem answerBadFrame_keepsWater (bytes : List Byte) (s : State) : KeepsWater s (answerBadFrame bytes s) := by
  unfold answerBadFrame
  split
  · exact .refl s
  · exact .refl s
  · exact .refl s
  · exact .refl s
  · exact withPlan_state (P := KeepsWater (takeFrame bytes.length s)) (.refl _) fun _ _ => .refl _
  · exact .refl s

/-! ## Every command -/

theorem next_keepsWater {s u t : State} (h : KeepsWater s u) (hstep : (.next u : Host.Outcome State Fault Refusal) = .next t) :
    KeepsWater s t := by
  cases hstep
  exact h

/-- Every command keeps both laws. -/
theorem exec_keepsWater (i : Instr) {s t : State} (h : exec i s = .next t) : KeepsWater s t := by
  cases i with
  | admitSlab =>
    rw [exec, execAdmitSlab] at h
    exact serve_keepsWater h fun u => admitReply_keepsWater ..
  | findSlab =>
    rw [exec, execFindSlab] at h
    exact serve_keepsWater h fun u => withRecord_state (.refl u) fun x => .refl u
  | listStock =>
    rw [exec, execListStock] at h
    exact serve_keepsWater h fun u => listStockReply_keepsWater ..
  | moveSlab =>
    rw [exec, execMoveSlab] at h
    exact serve_keepsWater h fun u => withRecord_state (.refl u) fun x => moveReply_keepsWater ..
  | holdSlab =>
    rw [exec, execHoldSlab] at h
    exact serve_keepsWater h fun u => withRecord_state (.refl u) fun x => changeState_keepsWater ..
  | releaseSlab =>
    rw [exec, execReleaseSlab] at h
    exact serve_keepsWater h fun u => withRecord_state (.refl u) fun x => changeState_keepsWater ..
  | trimSlab =>
    rw [exec, execTrimSlab] at h
    exact serve_keepsWater h fun u => withRecord_state (.refl u) fun x => trimReply_keepsWater ..
  | retireSlab =>
    rw [exec, execRetireSlab] at h
    exact serve_keepsWater h fun u => withRecord_state (.refl u) fun x => retireReply_keepsWater ..
  | setRackClass =>
    rw [exec, execSetRackClass] at h
    exact serve_keepsWater h fun u => rackClassReply_keepsWater ..
  | openJob =>
    rw [exec, execOpenJob] at h
    exact serve_keepsWater h fun u => openJobReply_keepsWater ..
  | addPiece =>
    rw [exec, execAddPiece] at h
    exact serve_keepsWater h fun u => withJob_state (.refl u) fun j b => addPieceReply_keepsWater ..
  | deletePiece =>
    rw [exec, execDeletePiece] at h
    exact serve_keepsWater h fun u => withPiece_state (.refl u) fun b x => deletePieceReply_keepsWater ..
  | releasePiece =>
    rw [exec, execReleasePiece] at h
    exact serve_keepsWater h fun u => withPiece_state (.refl u) fun b x => releasePieceReply_keepsWater ..
  | setJob =>
    rw [exec, execSetJob] at h
    exact serve_keepsWater h fun u => withJob_state (.refl u) fun j b => setJobReply_keepsWater ..
  | readJob =>
    rw [exec, execReadJob] at h
    exact serve_keepsWater h fun u => withJob_state (.refl u) fun j b => readJobReply_keepsWater ..
  | closeJob =>
    rw [exec, execCloseJob] at h
    exact serve_keepsWater h fun u => withJob_state (.refl u) fun j b => closeJobReply_keepsWater ..
  | openPlan =>
    rw [exec, execOpenPlan] at h
    exact serve_keepsWater h fun u => openPlanReply_keepsWater ..
  | planAdd =>
    rw [exec, execPlanAdd] at h
    exact serve_keepsWater h fun u => withPlan_state (.refl u) fun p x => withPiece_state (.refl u) fun b y => planAddReply_keepsWater ..
  | planRemove =>
    rw [exec, execPlanRemove] at h
    exact serve_keepsWater h fun u => withPlan_state (.refl u) fun p x => withPiece_state (.refl u) fun b y => planRemoveReply_keepsWater ..
  | layout =>
    rw [exec, execLayout] at h
    exact serve_keepsWater h fun u => withPlan_state (.refl u) fun p x => layoutReply_keepsWater ..
  | commit =>
    rw [exec, execCommit] at h
    exact serve_keepsWater h fun u => withPlan_state (.refl u) fun p x => commitReply_keepsWater ..
  | abandon =>
    rw [exec, execAbandon] at h
    exact serve_keepsWater h fun u => withPlan_state (.refl u) fun p x => abandonReply_keepsWater ..
  | readPlanSummary =>
    rw [exec, execReadPlanSummary] at h
    exact serve_keepsWater h fun u => withPlanPart_state (.refl u) fun p x => .refl u
  | readPlanPieces =>
    rw [exec, execReadPlanPieces] at h
    exact serve_keepsWater h fun u => withPlanPart_state (.refl u) fun p x => .refl u
  | readPlanStrips =>
    rw [exec, execReadPlanStrips] at h
    exact serve_keepsWater h fun u => withPlanPart_state (.refl u) fun p x => layoutPart_keepsWater ..
  | readPlanPlacements =>
    rw [exec, execReadPlanPlacements] at h
    exact serve_keepsWater h fun u => withPlanPart_state (.refl u) fun p x => layoutPart_keepsWater ..
  | readPlanUnfit =>
    rw [exec, execReadPlanUnfit] at h
    exact serve_keepsWater h fun u => withPlanPart_state (.refl u) fun p x => layoutPart_keepsWater ..
  | stationOnline =>
    rw [exec, execStationOnline] at h
    exact serve_keepsWater h fun u => withStation_state (.refl u) fun st => whenRunning_state (.refl u) (onlineReply_keepsWater ..)
  | stationOffline =>
    rw [exec, execStationOffline] at h
    exact serve_keepsWater h fun u => withStation_state (.refl u) fun st => offlineReply_keepsWater ..
  | setBlade =>
    rw [exec, execSetBlade] at h
    exact serve_keepsWater h fun u => withStation_state (.refl u) fun st => bladeReply_keepsWater ..
  | loadSlab =>
    rw [exec, execLoadSlab] at h
    refine serve_keepsWater h fun u => ?_
    split
    · exact .refl u
    · exact withStation_state (.refl u) fun st => whenRunning_state (.refl u) (loadReply_keepsWater ..)
  | nextCut =>
    rw [exec, execNextCut] at h
    exact serve_keepsWater h fun u => withStation_state (.refl u) fun st => whenRunning_state (.refl u) (nextCutReply_keepsWater ..)
  | cutDone =>
    rw [exec, execCutDone] at h
    exact serve_keepsWater h fun u => reported_state (.refl u) fun st e => cutDoneReply_keepsWater ..
  | setWaterStation =>
    rw [exec, execSetWaterStation] at h
    exact serve_keepsWater h fun u => withStation_state (.refl u) fun st => .refl u
  | setWaterArbiter =>
    rw [exec, execSetWaterArbiter] at h
    exact serve_keepsWater h fun u => setArbiterReply_keepsWater ..
  | readWaterStation =>
    rw [exec, execReadWaterStation] at h
    exact serve_keepsWater h fun u => withStation_state (.refl u) fun st => .refl u
  | readWaterArbiter =>
    rw [exec, execReadWaterArbiter] at h
    exact serve_keepsWater h fun u => .refl u
  | plantStart =>
    rw [exec, execPlantStart] at h
    exact serve_keepsWater h fun u => plantStartReply_keepsWater ..
  | plantStop =>
    rw [exec, execPlantStop] at h
    exact serve_keepsWater h fun u => (stopPlant_plantFrame u).keepsWater
  | plantResetCycle =>
    rw [exec, execPlantResetCycle] at h
    exact serve_keepsWater h fun u => (resetCycle_plantFrame u).keepsWater
  | plantSetBufferMode =>
    rw [exec, execPlantSetBufferMode] at h
    exact serve_keepsWater h fun u => bufferModeReply_keepsWater ..
  | plantSet =>
    rw [exec, execPlantSet] at h
    exact serve_keepsWater h fun u => plantSetReply_keepsWater ..
  | readPlant =>
    rw [exec, execReadPlant] at h
    exact serve_keepsWater h fun u => .refl u
  | setMaterialRate =>
    rw [exec, execSetMaterialRate] at h
    exact serve_keepsWater h fun u => materialRateReply_keepsWater ..
  | setWaterRate =>
    rw [exec, execSetWaterRate] at h
    exact serve_keepsWater h fun u => .refl u
  | setMachineRate =>
    rw [exec, execSetMachineRate] at h
    exact serve_keepsWater h fun u => withStation_state (.refl u) fun st => .refl u
  | readCost =>
    rw [exec, execReadCost] at h
    exact serve_keepsWater h fun u => withJob_state (.refl u) fun j b => .refl u
  | clearOverhead =>
    rw [exec, execClearOverhead] at h
    exact serve_keepsWater h fun u => clearOverheadReply_keepsWater u
  | cutSpoiled =>
    rw [exec, execCutSpoiled] at h
    exact serve_keepsWater h fun u => reported_state (.refl u) fun st e => cutSpoiledReply_keepsWater ..
  | breakSlab =>
    rw [exec, execBreakSlab] at h
    exact serve_keepsWater h fun u => withStation_state (.refl u) fun st => breakReply_keepsWater ..
  | cancelJob =>
    rw [exec, execCancelJob] at h
    exact serve_keepsWater h fun u => withJob_state (.refl u) fun j b => cancelReply_keepsWater ..
  | readNotices =>
    rw [exec, execReadNotices] at h
    exact serve_keepsWater h fun u => .refl u
  | openShop =>
    rw [exec, execOpenShop] at h
    exact serve_keepsWater h fun u => openShopReply_keepsWater ..
  | closeShop =>
    rw [exec, execCloseShop] at h
    exact serve_keepsWater h fun u => closeShopReply_keepsWater u
  | badFrame bytes => exact next_keepsWater (answerBadFrame_keepsWater bytes s) h
  | responseRead => exact next_keepsWater (readResponse_keepsWater _ s) h
  | requestDiscarded => exact next_keepsWater (discardRequest_keepsWater _ s) h
  | reset => exact next_keepsWater (releaseReset_keepsWater s _) h
  | powerOn => exact next_keepsWater (releaseReset_keepsWater s _) h
  | sampleTick => exact next_keepsWater (sampleAll_keepsWater ..) h
  | decisecondTick => exact next_keepsWater (decisecond_keepsWater ..) h
  | dryRun => exact next_keepsWater (takeDryRun_keepsWater _ s) h
  | bladeLife => exact next_keepsWater (takeBladeLife_keepsWater _ s) h
  | holdTimerExpiry => exact next_keepsWater (expireHold_keepsWater ..) h
  | plantTick => exact next_keepsWater (plantTick_plantFrame s).keepsWater h
  | fillTimeout => exact next_keepsWater (timeoutTest_plantFrame s).keepsWater h
  | doseEnd => exact next_keepsWater (doseEnd_plantFrame s).keepsWater h
  | settleEnd => exact next_keepsWater (settleEnd_plantFrame s).keepsWater h
  | sludgeEnd => exact next_keepsWater (sludgeEnd_plantFrame s).keepsWater h
  | engineTake => exact next_keepsWater (takeHead_keepsWater s) h
  | layoutComplete => exact next_keepsWater (completeComputation_keepsWater s) h

theorem step_keepsWater {s t : State} (h : step s = .next t) : KeepsWater s t := by
  unfold step at h
  split at h
  · exact next_keepsWater (.refl s) h
  · rename_i i rest _
    exact exec_keepsWater i (s := s.withQueue rest) h

/-- Settles O51: a move that changes a source of the floor forms it afresh, and every other leaves the floor and its sources. -/
theorem floorFollowsSources : Obligations.FloorFollowsSources := by
  unfold Obligations.FloorFollowsSources
  exact fun s t hs hstep => (step_keepsWater hstep).1 hs

/-- Settles O52: a grant takes the place of its station's request, a request is made only by a station that has neither, and the clean
tank running dry turns every grant into a request. -/
theorem grantsStayLawful : Obligations.GrantsStayLawful := by
  unfold Obligations.GrantsStayLawful
  exact fun s t hs hstep => (step_keepsWater hstep).2 hs

end Sys2Proof.Machine
end

section
/-! The recycling plant's cycle (R119 to R126): its output lines, each of its tests on both sides of its boundary, its tick and the ends of
its stages.  The statement O55. -/

namespace Sys2Proof.Machine

/-! ## The output lines (R108, R119) -/

theorem outputs_of_released {s : State} (h : s.pins.reset = false) : s.outputs =
    { valve := Vector.ofFn s.valve
      permit := Vector.ofFn s.permit
      transfer := transferLine s.plant.cycle
      dose := doseLine s.plant.cycle
      decant := decantLine s.plant.cycle
      sludge := sludgeLine s.plant.cycle
      attn := s.attn
      rdy := s.rdy } :=
  if_neg (by rw [h]; exact Bool.false_ne_true)

theorem get_ofFn {α : Type} {n : Nat} (f : Fin n → α) (i : Fin n) : (Vector.ofFn f).get i = f i :=
  Vector.getElem_ofFn i.isLt

theorem valve_iff {s : State} {st : Fin 6} : s.valve st = true ↔
    (∃ g ∈ s.arbiter.grants, g.station = st) ∧ ((s.station st).issued.isSome = true ∨ (s.station st).spindle = true) := by
  rw [State.valve, Bool.and_eq_true, Bool.or_eq_true, permit_iff]

/-- R119: the lines of the cycle states. -/
def plantLines : CycleState → Bool × Bool × Bool × Bool
  | .idle => (false, false, false, false)
  | .fill => (true, false, false, false)
  | .dose => (false, true, false, false)
  | .settle => (false, false, false, false)
  | .decant => (false, false, true, false)
  | .decantWait => (false, false, false, false)
  | .sludge => (false, false, false, true)
  | .stopped => (false, false, false, false)

theorem plantLines_eq (c : CycleState) : (transferLine c, doseLine c, decantLine c, sludgeLine c) = plantLines c := by
  cases c <;> rfl

/-- R119: a state that decants neither draws sludge nor transfers. -/
theorem lines_exclusive (c : CycleState) : ¬(decantLine c = true ∧ sludgeLine c = true) ∧
    (transferLine c = true → decantLine c = false ∧ sludgeLine c = false) := by
  cases c <;> decide

theorem permit_of_dry {s : State} (h : WaterOk s) (hclean : s.plant.clean.accepted = 0) (st : Fin 6) : s.permit st = false :=
  Bool.eq_false_iff.mpr fun hp => h.clean_of_permit hp hclean

theorem lines_of_outputs (s : State) : ¬(s.outputs.decant = true ∧ s.outputs.sludge = true) ∧
    (s.outputs.transfer = true → s.outputs.decant = false ∧ s.outputs.sludge = false) ∧
    (WaterOk s → s.plant.clean.accepted = 0 → ∀ st : Fin 6, s.outputs.permit.get st = false ∧ s.outputs.valve.get st = false) := by
  cases h : s.pins.reset with
  | true =>
    rw [outputs_of_reset h]
    refine ⟨nofun, nofun, fun _ _ st => ?_⟩
    simp [Outputs.inactive, Vector.get]
  | false =>
    rw [outputs_of_released h]
    obtain ⟨hdecant, htransfer⟩ := lines_exclusive s.plant.cycle
    refine ⟨hdecant, htransfer, fun hwater hclean st => ?_⟩
    rw [get_ofFn, get_ofFn]
    have hp := permit_of_dry hwater hclean st
    exact ⟨hp, valve_of_permit_false hp⟩

/-! ## The cycle's tests (R119, R121 to R125) -/

/-- R119: a cycle state reached, by a change or not. -/
theorem moveCycle_eq (c : CycleState) (s : State) : moveCycle c s = { s with
    plant := { s.plant with cycle := c }
    link := if s.plant.cycle = c then s.link else postNotice .plantPhase 0 s.link } := by
  unfold moveCycle
  split
  · rename_i h
    subst h
    rfl
  · rfl

theorem startTest_of_lt {s : State} (h : s.plant.sump.accepted.val < s.plant.active.fillStart) : startTest s = s :=
  if_neg (Nat.not_le.mpr h)

theorem startTest_of_le {s : State} (h : s.plant.active.fillStart ≤ s.plant.sump.accepted.val) : startTest s = fillTest { s with
    plant := { s.plant with cycle := .fill, counter := 0 }, link := postNotice .plantPhase 0 s.link } := if_pos h

theorem fillTest_of_lt {s : State} (h : s.plant.settling.accepted.val < s.plant.active.fillTarget) : fillTest s = s :=
  if_neg (Nat.not_le.mpr h)

theorem fillTest_of_le {s : State} (h : s.plant.active.fillTarget ≤ s.plant.settling.accepted.val) : fillTest s = settleTest { s with
    plant := { s.plant with counter := 0, active := s.plant.buffered } } := if_pos h

theorem timeoutTest_of_not {s : State} (h : s.plant.cycle ≠ .fill ∨ s.plant.counter < s.plant.active.fillTimeout) :
    timeoutTest s = s :=
  if_neg fun ⟨hfill, hend⟩ => h.elim (fun hne => hne hfill) (Nat.not_lt.mpr hend)

section
variable {s : State} (hfill : s.plant.cycle = .fill) (hend : s.plant.active.fillTimeout ≤ s.plant.counter)
include hfill hend

theorem timeoutTest_of_filled (hmin : s.plant.active.fillMin ≤ s.plant.settling.accepted.val) : timeoutTest s = settleTest { s with
    plant := { s.plant with counter := 0, active := s.plant.buffered } } :=
  (if_pos ⟨hfill, hend⟩).trans (if_pos hmin)

theorem timeoutTest_of_fault (hmin : s.plant.settling.accepted.val < s.plant.active.fillMin) : timeoutTest s = { s with
    plant := { s.plant with cycle := .stopped, remembered := some ⟨.idle, 0⟩ }
    link := postNotice .plantPhase 0 (postNotice .plantFault 0 s.link) } :=
  (if_pos ⟨hfill, hend⟩).trans (if_neg (Nat.not_le.mpr hmin))

end

theorem settleTest_of_end {s : State} (h : s.plant.active.settleEnd ≤ s.plant.counter) : settleTest s = decantTests { s with
    plant := { s.plant with cycle := .decant, counter := 0 }, link := postNotice .plantPhase 0 s.link } := if_pos h

theorem settleTest_of_dose {s : State} (hend : s.plant.counter < s.plant.active.settleEnd)
    (hdose : s.plant.counter < s.plant.active.doseEnd) : settleTest s = { s with
      plant := { s.plant with cycle := .dose }
      link := if s.plant.cycle = .dose then s.link else postNotice .plantPhase 0 s.link } :=
  (if_neg (Nat.not_le.mpr hend)).trans ((if_pos hdose).trans (moveCycle_eq .dose s))

theorem settleTest_of_settle {s : State} (hend : s.plant.counter < s.plant.active.settleEnd)
    (hdose : s.plant.active.doseEnd ≤ s.plant.counter) : settleTest s = { s with
      plant := { s.plant with cycle := .settle }
      link := if s.plant.cycle = .settle then s.link else postNotice .plantPhase 0 s.link } :=
  (if_neg (Nat.not_le.mpr hend)).trans ((if_neg (Nat.not_lt.mpr hdose)).trans (moveCycle_eq .settle s))

theorem endTestPasses_iff {p : Plant} : endTestPasses p = true ↔
    p.turbidity.accepted = true ∨ p.settling.accepted.val ≤ p.active.decantFloor := by
  rw [endTestPasses, Bool.or_eq_true, decide_eq_true_eq]

theorem endTestPasses_eq_false {p : Plant} (hclear : p.turbidity.accepted = false)
    (hband : p.active.decantFloor < p.settling.accepted.val) : endTestPasses p = false := by
  rw [endTestPasses, hclear, Bool.false_or]
  exact decide_eq_false (Nat.not_le.mpr hband)

/-- R125, R126: the end test passes, at a test of its own and at the entry to the decant stage. -/
theorem decantTests_of_pass {s : State}
    (h : s.plant.turbidity.accepted = true ∨ s.plant.settling.accepted.val ≤ s.plant.active.decantFloor) : decantEndTest s = { s with
      plant := { s.plant with cycle := .sludge, counter := s.plant.active.sludgeTime }
      link := postNotice .plantPhase 0 s.link } ∧ decantTests s = decantEndTest s :=
  have hpass := endTestPasses_iff.mpr h
  ⟨if_pos hpass, (if_pos hpass).trans (if_pos hpass).symm⟩

theorem decantTests_of_fail {s : State} (hclear : s.plant.turbidity.accepted = false)
    (hband : s.plant.active.decantFloor < s.plant.settling.accepted.val) : decantEndTest s = s ∧ decantTests s = cleanTest s :=
  have hfail : ¬endTestPasses s.plant = true := Bool.eq_false_iff.mp (endTestPasses_eq_false hclear hband)
  ⟨if_neg hfail, if_neg hfail⟩

theorem cleanTest_of_le {s : State} (h : s.plant.clean.accepted.val ≤ 6) : cleanTest s = { s with
    plant := { s.plant with cycle := .decant }
    link := if s.plant.cycle = .decant then s.link else postNotice .plantPhase 0 s.link } := by
  rw [cleanTest, if_pos h, moveCycle_eq]

theorem cleanTest_of_full {s : State} (h : s.plant.clean.accepted = 7) : cleanTest s = { s with
    plant := { s.plant with cycle := .decantWait }
    link := if s.plant.cycle = .decantWait then s.link else postNotice .plantPhase 0 s.link } := by
  rw [cleanTest, if_neg (by rw [h]; decide), moveCycle_eq]

/-- R124, R125: the decant stage begins with the settling tank above the decant floor and clear, and the clean tank with room. -/
theorem settleTest_of_decant {s : State} (hend : s.plant.active.settleEnd ≤ s.plant.counter)
    (hclear : s.plant.turbidity.accepted = false) (hband : s.plant.active.decantFloor < s.plant.settling.accepted.val)
    (hclean : s.plant.clean.accepted.val ≤ 6) : settleTest s = { s with
      plant := { s.plant with cycle := .decant, counter := 0 }, link := postNotice .plantPhase 0 s.link } := by
  refine (settleTest_of_end hend).trans ((decantTests_of_fail ?_ ?_).2.trans ((cleanTest_of_le ?_).trans ?_))
  · exact hclear
  · exact hband
  · exact hclean
  · rw [if_pos rfl]

/-! ## The tick and the ends of the stages (R120, R123 to R126) -/

/-- R120: the counter of a plant at a tick. -/
def tickedCounter (p : Plant) : Nat :=
  match p.cycle with
  | .idle => p.counter
  | .stopped => p.counter
  | .sludge => p.counter - 1
  | _ => min 65535 (p.counter + 1)

theorem tickCounter_eq (p : Plant) : tickCounter p = { p with counter := tickedCounter p } := by
  obtain ⟨_, _, _, _, cycle, _⟩ := p
  cases cycle <;> rfl

theorem plantTick_eq (s : State) : plantTick s = counterTests { s with plant := { s.plant with counter := tickedCounter s.plant } } := by
  rw [plantTick, State.onPlant, tickCounter_eq]

/-- R126: a countdown that has not reached 0 goes on. -/
theorem sludgeEnd_of_running {s : State} (h : s.plant.counter ≠ 0) : sludgeEnd s = s := if_neg fun ⟨_, hzero⟩ => h hzero

theorem counterTests_of_sludge {s : State} (h : s.plant.cycle = .sludge) : counterTests s = sludgeEnd s := by
  rw [counterTests, h]

theorem doseEnd_of_end {s : State} (hdose : s.plant.cycle = .dose) (hend : s.plant.active.doseEnd ≤ s.plant.counter)
    (hsettle : s.plant.counter < s.plant.active.settleEnd) : doseEnd s = { s with
      plant := { s.plant with cycle := .settle }, link := postNotice .plantPhase 0 s.link } := by
  rw [doseEnd, if_pos ⟨hdose, hend⟩, settleTest_of_settle hsettle hend, if_neg (by rw [hdose]; decide)]

theorem settleEnd_of_end {s : State} (hstage : s.plant.cycle = .dose ∨ s.plant.cycle = .settle)
    (hend : s.plant.active.settleEnd ≤ s.plant.counter) : settleEnd s = settleTest s :=
  if_pos ⟨by simpa [inDoseSettle] using hstage, hend⟩

/-- R126: the plant at rest after a batch whose countdown is over. -/
theorem sludgeEnd_of_end {s : State} (hsludge : s.plant.cycle = .sludge) (hzero : s.plant.counter = 0) : sludgeEnd s = endBatch s ∧
    enterCycle .idle (s.onPlant fun p => { p with batches := min Config.plantMax (p.batches + 1), counter := 0 }) = { s with
      plant := { s.plant with cycle := .idle, batches := min 65535 (s.plant.batches + 1) }
      link := postNotice .plantPhase 0 s.link } := by
  refine ⟨if_pos ⟨hsludge, hzero⟩, ?_⟩
  rw [enterCycle, State.onPlant, ← hzero]
  rfl

theorem endBatch_of_oneShot {s : State} (hmode : s.plant.mode = .oneShot) : endBatch s =
    (enterCycle .idle (s.onPlant fun p => { p with batches := min Config.plantMax (p.batches + 1), counter := 0 })).onPlant
      fun p => { p with started := false } := by
  rw [endBatch, hmode]

theorem endBatch_of_repeating {s t : State} (hmode : s.plant.mode = .repeating)
    (ht : enterCycle .idle (s.onPlant fun p => { p with batches := min Config.plantMax (p.batches + 1), counter := 0 }) = t) :
    endBatch s = if t.plant.started = true then startTest t else t := by
  rw [endBatch, hmode, ht]

/-- R120, R126: a tick that does not end a batch moves the counter and makes the tests of the state that read it. -/
theorem plantTick_of_running {s u : State} (hu : u = { s with plant := { s.plant with counter := tickedCounter s.plant } })
    (h : ¬(s.plant.cycle = .sludge ∧ s.plant.counter ≤ 1)) : plantTick s = (match s.plant.cycle with
      | .fill => timeoutTest u
      | .dose => settleTest u
      | .settle => settleTest u
      | _ => u) := by
  have hcycle : u.plant.cycle = s.plant.cycle := by rw [hu]
  rw [plantTick_eq, ← hu]
  cases hc : s.plant.cycle with
  | sludge =>
    have hcounter : u.plant.counter ≠ 0 := by
      have : u.plant.counter = s.plant.counter - 1 := by rw [hu]; simp [tickedCounter, hc]
      have : ¬s.plant.counter ≤ 1 := fun hle => h ⟨hc, hle⟩
      omega
    rw [counterTests_of_sludge (hcycle.trans hc)]
    exact sludgeEnd_of_running hcounter
  | _ => rw [counterTests, hcycle, hc]

/-- Settles O55: the lines by the cycle state, and each test, tick and end by its cases. -/
theorem plantTimersRun : Obligations.PlantTimersRun := by
  unfold Obligations.PlantTimersRun
  refine ⟨fun s hreset => ⟨?_, fun st => ?_, fun st => ?_⟩, lines_of_outputs,
    fun u => ⟨startTest_of_lt, startTest_of_le⟩, fun u => ⟨fillTest_of_lt, fillTest_of_le⟩,
    fun u => ⟨timeoutTest_of_not, fun hfill hend => ⟨timeoutTest_of_filled hfill hend, timeoutTest_of_fault hfill hend⟩⟩,
    fun u => ⟨settleTest_of_end, settleTest_of_dose, settleTest_of_settle⟩,
    fun u => ⟨decantTests_of_pass, decantTests_of_fail, cleanTest_of_le, cleanTest_of_full⟩,
    fun s u hu => ⟨fun hrun => congrArg Host.Outcome.next (plantTick_of_running hu hrun), fun hsludge _ => ⟨_, rfl, ?_⟩⟩,
    fun s => rfl, fun s hfill hend hmin => congrArg Host.Outcome.next (timeoutTest_of_fault hfill hend hmin),
    fun s hdose hend hsettle => congrArg Host.Outcome.next (doseEnd_of_end hdose hend hsettle),
    fun s hstage hend => ⟨congrArg Host.Outcome.next (settleEnd_of_end hstage hend), fun hclear hband hclean => ?_⟩,
    fun s hsludge hzero hmode => ?_, fun s u hsludge hzero hmode hu => ?_⟩
  · rw [outputs_of_released hreset]
    exact plantLines_eq s.plant.cycle
  · rw [outputs_of_released hreset, get_ofFn]
    exact permit_iff
  · rw [outputs_of_released hreset, get_ofFn]
    exact valve_iff
  · have htick : plantTick s = counterTests u := (plantTick_eq s).trans (congrArg counterTests hu.symm)
    have hcycle : u.plant.cycle = .sludge := by rw [hu]; exact hsludge
    rw [htick, counterTests_of_sludge hcycle]
    rfl
  · exact congrArg Host.Outcome.next ((settleEnd_of_end hstage hend).trans (settleTest_of_decant hend hclear hband hclean))
  · obtain ⟨hend, hrest⟩ := sludgeEnd_of_end hsludge hzero
    refine congrArg Host.Outcome.next (hend.trans ((endBatch_of_oneShot hmode).trans ?_))
    rw [hrest]
    rfl
  · obtain ⟨hend, hrest⟩ := sludgeEnd_of_end hsludge hzero
    have hstarted : u.plant.started = s.plant.started := by rw [hu]
    rw [← hstarted]
    exact congrArg Host.Outcome.next (hend.trans (endBatch_of_repeating hmode (hrest.trans hu.symm)))

end Sys2Proof.Machine
end

section
/-! The recycling plant's requests (R127 to R132): what their effects do to the settings and do not see of the transaction, and each
request served.  The statements O53 and O54. -/

namespace Sys2Proof.Machine

/-! ## Moves of the cycle -/

/-- R127: a move leaves the buffered settings and the buffer mode flag, and the active settings stand or were loaded. -/
structure SettingsKept (p q : Plant) : Prop where
  buffered : q.buffered = p.buffered
  bufferMode : q.bufferMode = p.bufferMode
  active : q.active = p.active ∨ q.active = p.buffered

theorem SettingsKept.refl (p : Plant) : SettingsKept p p := ⟨rfl, rfl, .inl rfl⟩

theorem SettingsKept.trans {p q r : Plant} (h : SettingsKept p q) (g : SettingsKept q r) : SettingsKept p r where
  buffered := g.buffered.trans h.buffered
  bufferMode := g.bufferMode.trans h.bufferMode
  active := g.active.elim (fun e => h.active.imp e.trans e.trans) fun e => .inr (e.trans h.buffered)

/-- A move of the cycle does not see the marks of a transaction on the link, and keeps the settings. -/
structure CycleMove (g : State → State) : Prop where
  marks : ∀ m s, g (overlaid (frameTaken m) id s) = overlaid (frameTaken m) id (g s)
  settings : ∀ s, SettingsKept s.plant (g s).plant

namespace CycleMove

theorem stay : CycleMove fun s => s := ⟨fun _ _ => rfl, fun s => .refl s.plant⟩

theorem comp {g f : State → State} (hg : CycleMove g) (hf : CycleMove f) : CycleMove fun s => g (f s) where
  marks m s := (congrArg g (hf.marks m s)).trans (hg.marks m (f s))
  settings s := (hf.settings s).trans (hg.settings (f s))

/-- A move chosen by what stands in the plant. -/
theorem read {f : Plant → State → State} (h : ∀ p, CycleMove (f p)) : CycleMove fun s => f s.plant s :=
  ⟨fun m s => (h s.plant).marks m s, fun s => (h s.plant).settings s⟩

theorem ite {c : Plant → Prop} [DecidablePred c] {f g : State → State} (hf : CycleMove f) (hg : CycleMove g) :
    CycleMove fun s => if c s.plant then f s else g s := by
  refine read (f := fun p s => if c p then f s else g s) fun p => ?_
  split
  · exact hf
  · exact hg

theorem onPlant {f : Plant → Plant} (h : ∀ p, SettingsKept p (f p)) : CycleMove (State.onPlant f) :=
  ⟨fun _ _ => rfl, fun s => h s.plant⟩

theorem raise (k : NoticeKind) (o : Nat) : CycleMove (raiseNotice k o) :=
  ⟨fun m s => (unread_frameTaken m).raise k o s, fun s => .refl s.plant⟩

end CycleMove

theorem enterCycle_move (c : CycleState) : CycleMove (enterCycle c) :=
  (CycleMove.raise .plantPhase 0).comp (.onPlant fun _ => ⟨rfl, rfl, .inl rfl⟩)

theorem moveCycle_move (c : CycleState) : CycleMove (moveCycle c) := .ite (c := fun p => p.cycle = c) .stay (enterCycle_move c)

theorem setCounter_move (n : Nat) : CycleMove (setCounter n) := ⟨fun _ _ => rfl, fun _ => ⟨rfl, rfl, .inl rfl⟩⟩

theorem loadSettings_move : CycleMove loadSettings := ⟨fun _ _ => rfl, fun _ => ⟨rfl, rfl, .inr rfl⟩⟩

theorem enterSludge_move : CycleMove enterSludge :=
  .read (f := fun p s => enterCycle .sludge (setCounter p.active.sludgeTime s)) fun _ =>
    (enterCycle_move .sludge).comp (setCounter_move _)

theorem decantEndTest_move : CycleMove decantEndTest := .ite (c := fun p => endTestPasses p = true) enterSludge_move .stay

theorem cleanTest_move : CycleMove cleanTest :=
  .read (f := fun p => moveCycle (if p.clean.accepted.val ≤ 6 then .decant else .decantWait)) fun _ => moveCycle_move _

theorem decantTests_move : CycleMove decantTests := .ite (c := fun p => endTestPasses p = true) enterSludge_move cleanTest_move

theorem enterDecant_move : CycleMove enterDecant := decantTests_move.comp ((enterCycle_move .decant).comp (setCounter_move 0))

theorem settleTest_move : CycleMove settleTest :=
  .ite (c := fun p => p.active.settleEnd ≤ p.counter) enterDecant_move
    (.ite (c := fun p => p.counter < p.active.doseEnd) (moveCycle_move .dose) (moveCycle_move .settle))

theorem enterDoseSettle_move : CycleMove enterDoseSettle := settleTest_move.comp (loadSettings_move.comp (setCounter_move 0))

theorem fillTest_move : CycleMove fillTest :=
  .ite (c := fun p => p.active.fillTarget ≤ p.settling.accepted.val) enterDoseSettle_move .stay

theorem enterFill_move : CycleMove enterFill := fillTest_move.comp ((enterCycle_move .fill).comp (setCounter_move 0))

theorem startTest_move : CycleMove startTest := .ite (c := fun p => p.active.fillStart ≤ p.sump.accepted.val) enterFill_move .stay

theorem fillFault_move : CycleMove fillFault :=
  (enterCycle_move .stopped).comp (.comp (.onPlant fun _ => ⟨rfl, rfl, .inl rfl⟩) (.raise .plantFault 0))

theorem timeoutTest_move : CycleMove timeoutTest :=
  .ite (c := fun p => p.cycle = .fill ∧ p.active.fillTimeout ≤ p.counter)
    (.ite (c := fun p => p.active.fillMin ≤ p.settling.accepted.val) enterDoseSettle_move fillFault_move) .stay

theorem stopPlant_move : CycleMove stopPlant :=
  .ite (c := fun p => p.cycle = .stopped) .stay ((enterCycle_move .stopped).comp (.onPlant fun _ => ⟨rfl, rfl, .inl rfl⟩))

theorem startIdle_move : CycleMove startIdle := startTest_move.comp (.onPlant fun _ => ⟨rfl, rfl, .inl rfl⟩)

theorem resumeTests_move (c : CycleState) : CycleMove (resumeTests c) := by
  cases c with
  | idle => exact startIdle_move
  | fill => exact timeoutTest_move.comp fillTest_move
  | dose => exact settleTest_move
  | settle => exact settleTest_move
  | decant => exact decantTests_move
  | decantWait => exact decantTests_move
  | sludge => exact .stay
  | stopped => exact .stay

theorem resumePlant_move (r : Remembered) : CycleMove (resumePlant r) :=
  (resumeTests_move r.phase).comp ((enterCycle_move r.phase).comp (.onPlant fun _ => ⟨rfl, rfl, .inl rfl⟩))

theorem resetCycle_move : CycleMove resetCycle :=
  loadSettings_move.comp (.comp (.onPlant fun _ => ⟨rfl, rfl, .inl rfl⟩) (moveCycle_move .idle))

theorem startPlant_move : CycleMove startPlant := by
  refine .read (f := fun p s => match p.cycle with
    | .idle => startIdle s
    | .stopped =>
      match p.remembered with
      | some r => resumePlant r s
      | none => s
    | _ => s) fun p => ?_
  cases p.cycle with
  | idle => exact startIdle_move
  | stopped =>
    cases p.remembered with
    | some r => exact resumePlant_move r
    | none => exact .stay
  | _ => exact .stay

theorem plantStartEffects_move (m : PlantMode) (r : Bool) : CycleMove (plantStartEffects m r) := by
  refine startPlant_move.comp (.comp (.onPlant fun _ => ⟨rfl, rfl, .inl rfl⟩) ?_)
  cases r with
  | false => exact .stay
  | true => exact resetCycle_move

theorem directTests_move (n : SettingName) : CycleMove (directTests n) := by
  cases n with
  | fillStart => exact .ite (c := fun p => p.cycle = .idle ∧ p.started = true) startTest_move .stay
  | fillTarget => exact .ite (c := fun p => p.cycle = .fill) fillTest_move .stay
  | fillTimeout => exact timeoutTest_move
  | doseEnd => exact .ite (c := fun p => inDoseSettle p = true) settleTest_move .stay
  | settleEnd => exact .ite (c := fun p => inDoseSettle p = true) settleTest_move .stay
  | decantFloor => exact .ite (c := fun p => inDecant p = true) decantEndTest_move .stay
  | fillMin => exact .stay
  | sludgeTime => exact .stay

/-! ## A request of the plant served (R178 to R181) -/

/-- A request whose block moves the plant and does not see the transaction's marks. -/
theorem serve_of_plant {size : Nat} {work : State → Reply} {s v : State} {q : Status} {body : List Byte}
    (h : work (overlaid (frameTaken (presented s (size + 2))) id s) = ⟨overlaid (frameTaken (presented s (size + 2))) id v, q, body⟩)
    (hv : PlantFrame s v) : serve size work s = .next { v with link :=
      { answeredLink s size q body with notices := v.link.notices, overflow := v.link.overflow } } := by
  have hpending : v.pending = s.pending := by rw [hv.state]
  have hmode : v.link.mode = s.link.mode := hv.link.mode
  have hlink : (putResponse q body (overlaid (frameTaken (presented s (size + 2))) id v)).link =
      { answeredLink s size q body with notices := v.link.notices, overflow := v.link.overflow } :=
    link_ext rfl (congrArg waitingFrame hpending) rfl rfl hmode rfl
  rw [serve_of_work h, ← hlink]
  rfl

/-- A request of the plant that answers OK with the report. -/
theorem serve_of_okPlant {size : Nat} {work : State → Reply} {s : State} {g : State → State} (hg : CycleMove g)
    (hframe : PlantFrame s (g s)) (h : work (takeFrame (size + 2) s) = okPlant (g (takeFrame (size + 2) s))) :
    serve size work s = .next { g s with link :=
      { answeredLink s size .ok (plantReport (g s).plant) with notices := (g s).link.notices, overflow := (g s).link.overflow } } :=
  serve_of_plant (h.trans (congrArg okPlant (hg.marks _ s))) hframe

/-- A notice posted by a request's effects stands on the answered link. -/
theorem answeredLink_posted (k : NoticeKind) (o : Nat) (s : State) (size : Nat) (q : Status) (body : List Byte) :
    { answeredLink s size q body with
      notices := (postNotice k o s.link).notices, overflow := (postNotice k o s.link).overflow } =
      postNotice k o (answeredLink s size q body) := by
  have hposted := postNotice_with k o s.link (some ⟨q, body⟩) (presented s (size + 2)) (waitingFrame s.pending)
  refine Eq.trans ?_ hposted.symm
  exact link_ext rfl rfl rfl rfl (postNotice_mode k o s.link).symm rfl

/-! ## PLANT_START (R129, R131) -/

theorem resetCycle_eq (s : State) : resetCycle s = { s with
    plant := { s.plant with cycle := .idle, started := false, remembered := none, counter := 0, active := s.plant.buffered }
    link := if s.plant.cycle = .idle then s.link else postNotice .plantPhase 0 s.link } := by
  rw [resetCycle, moveCycle_eq]
  rfl

/-- R129, steps 1 and 2: the plant that PLANT_START starts, its cycle reset or not, with the mode stored. -/
def plantReadied (m : PlantMode) (r : Bool) (s : State) : State :=
  { s with
    plant := if r then
        { s.plant with
          cycle := .idle
          started := false
          remembered := none
          counter := 0
          active := s.plant.buffered
          mode := m }
      else { s.plant with mode := m }
    link := if r = true ∧ s.plant.cycle ≠ .idle then postNotice .plantPhase 0 s.link else s.link }

theorem plantStartEffects_eq (m : PlantMode) (r : Bool) (s : State) : plantStartEffects m r s = startPlant (plantReadied m r s) := by
  refine congrArg startPlant ?_
  cases r with
  | false => rfl
  | true =>
    rw [if_pos rfl, resetCycle_eq, plantReadied]
    by_cases h : s.plant.cycle = .idle <;> simp [h, State.onPlant]

theorem startPlant_of_idle {s : State} (h : s.plant.cycle = .idle) :
    startPlant s = startTest { s with plant := { s.plant with started := true } } := by
  rw [startPlant, h]
  rfl

/-- R129: a plant in a batch does no more. -/
theorem startPlant_of_batch {s : State} (hidle : s.plant.cycle ≠ .idle) (hstopped : s.plant.cycle ≠ .stopped) : startPlant s = s := by
  unfold startPlant
  cases h : s.plant.cycle with
  | idle => exact absurd h hidle
  | stopped => exact absurd h hstopped
  | _ => rfl

theorem startPlant_of_nothing {s : State} (h : s.plant.cycle = .stopped) (hnone : s.plant.remembered = none) : startPlant s = s := by
  rw [startPlant, h, hnone]

theorem startPlant_of_remembered {s : State} {c : CycleState} {n : Nat} (h : s.plant.cycle = .stopped)
    (hsome : s.plant.remembered = some ⟨c, n⟩) : startPlant s = resumeTests c { s with
      plant := { s.plant with cycle := c, remembered := none, counter := n }
      link := postNotice .plantPhase 0 s.link } := by
  rw [startPlant, h, hsome]
  rfl

/-- R131: the tests of a resumed phase, told by the phase. -/
theorem eq_resumeTests {c : CycleState} {v w : State}
    (hidle : c = .idle → v = startTest { w with plant := { w.plant with started := true } })
    (hfill : c = .fill → v = timeoutTest (fillTest w)) (hsettle : c = .dose ∨ c = .settle → v = settleTest w)
    (hdecant : c = .decant ∨ c = .decantWait → v = decantTests w) (hrest : c = .sludge ∨ c = .stopped → v = w) :
    v = resumeTests c w := by
  cases c with
  | idle => exact hidle rfl
  | fill => exact hfill rfl
  | dose => exact hsettle (.inl rfl)
  | settle => exact hsettle (.inr rfl)
  | decant => exact hdecant (.inl rfl)
  | decantWait => exact hdecant (.inr rfl)
  | sludge => exact hrest (.inl rfl)
  | stopped => exact hrest (.inr rfl)

theorem exec_plantStart {s v : State} {mode reset : Nat} {m : PlantMode} {r : Bool} (hrun : s.link.mode = .running)
    (hmode : plantModeOf mode = some m) (hreset : flagOf reset = some r) (hv : startPlant (plantReadied m r s) = v) :
    exec (.plantStart mode reset) s = .next { v with link :=
      { answeredLink s 2 .ok (plantReport v.plant) with notices := v.link.notices, overflow := v.link.overflow } } := by
  rw [← hv, ← plantStartEffects_eq]
  refine serve_of_okPlant (plantStartEffects_move m r) (plantStartEffects_plantFrame m r s) ?_
  refine (whenRunning_of_running (s := takeFrame 4 s) hrun _).trans ?_
  rw [hmode, hreset]

/-! ## PLANT_STOP and PLANT_RESET_CYCLE (R130, R132) -/

theorem exec_plantStop (s : State) : exec .plantStop s = .next { s with
    plant := stoppedPlant s.plant
    link := { answeredLink s 0 .ok (plantReport (stoppedPlant s.plant)) with
      notices := (stopPosts s.plant s.link).notices, overflow := (stopPosts s.plant s.link).overflow } } := by
  refine (serve_of_okPlant (work := fun t => okPlant (stopPlant t)) stopPlant_move (stopPlant_plantFrame s) rfl).trans ?_
  rw [stopPlant_state]

theorem exec_plantResetCycle {s : State} {p : Plant}
    (hp : p = { s.plant with cycle := .idle, started := false, remembered := none, counter := 0, active := s.plant.buffered }) :
    exec .plantResetCycle s = .next { s with
      plant := p
      link := if s.plant.cycle = .idle then answeredLink s 0 .ok (plantReport p)
        else postNotice .plantPhase 0 (answeredLink s 0 .ok (plantReport p)) } := by
  refine (serve_of_okPlant (work := fun t => okPlant (resetCycle t)) resetCycle_move (resetCycle_plantFrame s) rfl).trans ?_
  rw [resetCycle_eq, ← hp]
  split
  · rfl
  · rw [answeredLink_posted]

/-- Settles O53: the readied plant is started by its cycle state, and each request's effects are answered as a move of the cycle. -/
theorem plantStartStopReset : Obligations.PlantStartStopReset := by
  unfold Obligations.PlantStartStopReset
  refine ⟨fun s mode m hrun hmode hidle hsump => ?_, fun s mode reset m r u v hrun hmode hreset hu hidle hbatch hnothing hresume => ?_,
    fun s mode m hrun hmode hidle hsump hsettling => ?_, fun s mode n m hrun hmode hstopped hsludge => ?_,
    fun s hcycle => ?_, fun s hcycle => ?_, fun s p hp => exec_plantResetCycle hp⟩
  · refine (exec_plantStart (reset := 0) hrun hmode rfl rfl).trans ?_
    rw [startPlant_of_idle (s := plantReadied m false s) hidle, startTest_of_lt]
    · rfl
    · exact hsump
  · refine exec_plantStart hrun hmode hreset ?_
    rw [show plantReadied m r s = u from hu.symm]
    by_cases hi : u.plant.cycle = .idle
    · rw [startPlant_of_idle hi, hidle hi]
    by_cases hs : u.plant.cycle = .stopped
    · cases hr : u.plant.remembered with
      | none => rw [startPlant_of_nothing hs hr, hnothing hs hr]
      | some x =>
        obtain ⟨h1, h2, h3, h4, h5⟩ := hresume x.phase x.counter _ hs hr rfl
        exact (startPlant_of_remembered hs hr).trans (eq_resumeTests h1 h2 h3 h4 h5).symm
    · rw [startPlant_of_batch hi hs, hbatch hi hs]
  · refine (exec_plantStart (reset := 0) hrun hmode rfl rfl).trans ?_
    rw [startPlant_of_idle (s := plantReadied m false s) hidle, startTest_of_le, fillTest_of_lt, ← answeredLink_posted]
    · rfl
    · exact hsettling
    · exact hsump
  · refine (exec_plantStart (reset := 0) hrun hmode rfl rfl).trans ?_
    rw [startPlant_of_remembered (s := plantReadied m false s) hstopped hsludge, ← answeredLink_posted]
    rfl
  · rw [exec_plantStop, stoppedPlant, if_neg hcycle, stopPosts, if_neg hcycle, answeredLink_posted]
  · rw [exec_plantStop, stoppedPlant, if_pos hcycle, stopPosts, if_pos hcycle]
    rfl

/-! ## PLANT_SET (R127, R128) -/

theorem inDoseSettle_iff {p : Plant} : inDoseSettle p = true ↔ p.cycle = .dose ∨ p.cycle = .settle := by
  simp [inDoseSettle]

/-- R121 to R125, R128: the test that reads a setting follows a direct write in the states that make it. -/
theorem directTests_eq (n : SettingName) (s : State) : directTests n s =
    if n = .fillStart ∧ s.plant.cycle = .idle ∧ s.plant.started = true then startTest s
    else if n = .fillTarget ∧ s.plant.cycle = .fill then fillTest s
    else if n = .fillTimeout ∧ s.plant.cycle = .fill then timeoutTest s
    else if (n = .doseEnd ∨ n = .settleEnd) ∧ (s.plant.cycle = .dose ∨ s.plant.cycle = .settle) then settleTest s
    else if n = .decantFloor ∧ (s.plant.cycle = .decant ∨ s.plant.cycle = .decantWait) then decantEndTest s
    else s := by
  cases n with
  | fillTimeout =>
    by_cases h : s.plant.cycle = .fill
    · simp [directTests, h]
    · simp [directTests, h, timeoutTest_of_not (.inl h)]
  | _ => simp [directTests, inDoseSettle_iff, inDecant_iff]

/-- R128: no test reads a setting in STOPPED or SLUDGE. -/
theorem directTests_of_still {s : State} (h : s.plant.cycle = .stopped ∨ s.plant.cycle = .sludge) (n : SettingName) :
    directTests n s = s := by
  rw [directTests_eq]
  obtain h | h := h <;> simp [h]

theorem getSetting_put (g : Settings) (n : SettingName) (v : Nat) : getSetting (putSetting g n v) n = v := by
  rw [getSetting_putSetting, if_pos rfl]

/-- R128: a direct write is answered with the clamped value twice, though its tests may have loaded the settings. -/
theorem settingBody_of_direct {p q : Plant} (hmode : p.bufferMode = false) {n : SettingName} {value : Nat}
    (h : SettingsKept (writeDirect n value p) q) (name : Nat) : settingBody name n q =
      be 1 name ++ be 2 (clampSetting n value) ++ be 2 (clampSetting n value) ++ flagByte false ++ be 1 (cycleCode q.cycle) := by
  have hflag : q.bufferMode = false := h.bufferMode.trans hmode
  have hbuffered : getSetting q.buffered n = clampSetting n value := by
    rw [h.buffered]
    exact getSetting_put ..
  have hactive : getSetting q.active n = clampSetting n value := by
    obtain ha | ha := h.active <;> rw [ha] <;> exact getSetting_put ..
  rw [settingBody, hactive, hbuffered, hflag]

theorem plantSetReply_of_setting {name : Nat} {n : SettingName} (h : settingOf name = some n) (value : Nat) (s : State) :
    plantSetReply name value s = ⟨writeSetting n value s, .ok, settingBody name n (writeSetting n value s).plant⟩ := by
  rw [plantSetReply, h]

section
variable {s : State} {name : Nat} {n : SettingName} (hname : settingOf name = some n) (value : Nat)
include hname

/-- R128: with the buffer mode flag set the buffered copy alone is written. -/
theorem exec_plantSet_of_buffered (hmode : s.plant.bufferMode = true) : exec (.plantSet name value) s = .next { s with
    plant := { s.plant with buffered := putSetting s.plant.buffered n (clampSetting n value) }
    link := answeredLink s 3 .ok (be 1 name ++ be 2 (getSetting s.plant.active n) ++ be 2 (clampSetting n value) ++
      flagByte true ++ be 1 (cycleCode s.plant.cycle)) } := by
  have hwrite : writeSetting n value (takeFrame 5 s) = (takeFrame 5 s).onPlant (writeBuffered n value) := if_pos hmode
  have hbody : settingBody name n (writeBuffered n value s.plant) = be 1 name ++ be 2 (getSetting s.plant.active n) ++
      be 2 (clampSetting n value) ++ flagByte true ++ be 1 (cycleCode s.plant.cycle) := by
    rw [← hmode, ← getSetting_put s.plant.buffered n (clampSetting n value)]
    rfl
  rw [← hbody]
  have hreply := plantSetReply_of_setting hname value (takeFrame 5 s)
  rw [hwrite] at hreply
  exact serve_of_work (size := 3) hreply

/-- R128: with the flag clear both values are written, and the tests that read the setting follow. -/
theorem exec_plantSet_of_direct {v : State} (hmode : s.plant.bufferMode = false)
    (hv : v = directTests n (s.onPlant (writeDirect n value))) : exec (.plantSet name value) s = .next { v with link :=
      { answeredLink s 3 .ok (be 1 name ++ be 2 (clampSetting n value) ++ be 2 (clampSetting n value) ++ flagByte false ++
          be 1 (cycleCode v.plant.cycle)) with
        notices := v.link.notices, overflow := v.link.overflow } } := by
  have hmove := directTests_move n
  have hwrite : writeSetting n value (takeFrame 5 s) = overlaid (frameTaken (presented s 5)) id v := by
    rw [hv, ← hmove.marks]
    exact if_neg (by rw [takeFrame_plant, hmode]; exact Bool.false_ne_true)
  have hsettings : SettingsKept (writeDirect n value s.plant) v.plant := by
    rw [hv]
    exact hmove.settings (s.onPlant (writeDirect n value))
  have hframe : PlantFrame s v := by
    rw [hv]
    exact (onPlant_plantFrame _ s rfl rfl rfl rfl).trans (directTests_plantFrame n _)
  rw [← settingBody_of_direct hmode hsettings]
  refine serve_of_plant ((plantSetReply_of_setting hname value (takeFrame 5 s)).trans ?_) hframe
  rw [hwrite]
  rfl

end

theorem exec_plantSetBufferMode {value : Nat} {f : Bool} (h : flagOf value = some f) (s : State) :
    exec (.plantSetBufferMode value) s = .next { s with
      plant := { s.plant with bufferMode := f }
      link := answeredLink s 3 .ok (flagByte f ++ be 1 (cycleCode s.plant.cycle)) } := by
  have hreply : bufferModeReply value (takeFrame 5 s) = ⟨(takeFrame 5 s).onPlant fun p => { p with bufferMode := f }, .ok,
      flagByte f ++ be 1 (cycleCode s.plant.cycle)⟩ := by
    rw [bufferModeReply, h]
    rfl
  exact serve_of_work hreply

/-- Settles O54: the clamps as they are defined, each write by the buffer mode flag, and the tests after a direct write by
`directTests_eq`. -/
theorem plantSetWrites : Obligations.PlantSetWrites := by
  unfold Obligations.PlantSetWrites
  refine ⟨fun v => ⟨rfl, rfl, rfl, rfl, rfl, rfl, rfl, rfl⟩, fun s name value n p hname hbuffered =>
    ⟨fun hmode hp => ?_, fun hmode hcycle hp => ?_, fun u v hmode hu hv => ?_⟩, fun s value f hflag => exec_plantSetBufferMode hflag s⟩
  · rw [hbuffered] at hp
    subst hp
    exact exec_plantSet_of_buffered hname value hmode
  · rw [hbuffered] at hp
    subst hp
    exact exec_plantSet_of_direct hname value hmode
      (directTests_of_still (s := s.onPlant (writeDirect n value)) hcycle n).symm
  · refine exec_plantSet_of_direct hname value hmode (hv.trans ?_)
    subst hu
    exact (directTests_eq n (s.onPlant (writeDirect n value))).symm

end Sys2Proof.Machine
end

section
/-! The Cost Unit (chapter 8): its requests, what a charge does, and the range of the accumulators.  The statements O56, O57 and O58. -/

namespace Sys2Proof.Machine

/-! ## The rates and job 0's accounts (R137, R138, R149) -/

theorem materialRateReply_of_fin (code : Fin 32) (rate : Nat) (s : State) : materialRateReply code rate s =
    ⟨s.onRates (putMaterialRate code (clampRate rate)), .ok, be 1 code ++ be 4 (clampRate rate)⟩ := by
  rw [materialRateReply, if_neg (by omega), Fin.ofNat_val_eq_self]

theorem clearOverheadReply_of_some {s : State} {b : Job} (h : s.job 0 = some b) :
    clearOverheadReply s = ⟨s.putJob 0 (some (clearCost b)), .ok, costReport 0 b⟩ := by
  rw [clearOverheadReply, h]

/-- Settles O56: each request's check passes, and the record it writes is the only one changed. -/
theorem ratesAndOverhead : Obligations.RatesAndOverhead := by
  unfold Obligations.RatesAndOverhead
  refine ⟨fun s code rate => ?_, fun s rate => ?_, fun s st rate => ?_, fun s b hb => ?_⟩
  · exact serve_of_work (materialRateReply_of_fin code rate (takeFrame 7 s))
  · exact serve_of_work (work := fun t => ⟨t.onRates fun r => { r with water := clampRate rate }, .ok, be 4 (clampRate rate)⟩) rfl
  · exact serve_of_work (withStation_of_lt st (fun q => machineRateReply rate q (takeFrame 7 s)) (takeFrame 7 s))
  · exact serve_of_work (clearOverheadReply_of_some (s := takeFrame 2 s) hb)

/-! ## A charge (R97, R140 to R142) -/

/-- R140 to R142: the whole state after a charge. -/
theorem charge_state {j : Fin 64} {s : State} {b : Job} (h : s.job j = some b) (c : Category) (q r : Nat) :
    charge j c q r s = { s with
      jobs := { s.jobs with slots := s.jobs.slots.set j (some (chargedJob c q r b)) }
      link := chargePosts j c q r b s.link } := by
  rw [← jobs_charge h, ← link_charge h]
  exact (charge_money j c q r s).state

/-- R142: BUDGET is raised exactly when the charge sets the flag. -/
theorem watch_iff_flag_rises (c : Category) (q r : Nat) (b : Job) :
    (0 < b.budget ∧ b.budget ≤ totalCents (chargedJob c q r b).cost ∧ b.overBudget = false) ↔
      ((chargedJob c q r b).overBudget = true ∧ b.overBudget = false) := by
  have hflag : (chargedJob c q r b).overBudget =
      (b.overBudget || decide (0 < b.budget ∧ b.budget ≤ totalCents (chargedJob c q r b).cost)) := rfl
  rw [hflag, Bool.or_eq_true, decide_eq_true_eq]
  constructor
  · rintro ⟨hbudget, htotal, hclear⟩
    exact ⟨.inr ⟨hbudget, htotal⟩, hclear⟩
  · rintro ⟨hset | ⟨hbudget, htotal⟩, hclear⟩
    · rw [hclear] at hset
      cases hset
    · exact ⟨hbudget, htotal, hclear⟩

/-- R141, R142: CLIPPED where the sum passes the largest accumulator, then BUDGET where the flag rises. -/
theorem chargePosts_eq (j : Fin 64) (c : Category) (q r : Nat) (b : Job) (l : Link) : chargePosts j c q r b l =
    if (chargedJob c q r b).overBudget = true ∧ b.overBudget = false then
      (if (getAcc b.cost c).value + chargeProduct q r ≤ Config.accMax then postNotice .budget j l
        else postNotice .budget j (postNotice .clipped j l))
    else (if (getAcc b.cost c).value + chargeProduct q r ≤ Config.accMax then l else postNotice .clipped j l) := by
  rw [← apply_ite (postNotice .budget j)]
  exact if_congr (watch_iff_flag_rises c q r b) rfl rfl

/-- R97: the Job Table after a station's meters are charged to any job. -/
theorem jobs_chargeMeters_of_some {st : Fin 6} {j : Fin 64} {s : State} {b : Job} (h : s.job j = some b) :
    (chargeMeters st j s).jobs =
      { s.jobs with slots := s.jobs.slots.set j (some (meteredJob (s.station st) s.rates.water b)) } := by
  refine jobTable_ext (chargeMeters_pieces ..) fun i => (job_chargeMeters i st j s).trans ?_
  split
  · rename_i hi
    rw [hi, h, get_set_self]
    rfl
  · rename_i hi
    exact (get_set_ne _ _ _ _ hi).symm

/-- R97, steps 2 and 3: the charges of a station's meters are two, each made where its meter has moved. -/
theorem link_chargeMeters (st : Fin 6) (j : Fin 64) (s : State) :
    ∃ u v : State,
      u = (if (s.station st).runSnap < (s.station st).runMeter then
        charge j .saw ((s.station st).runMeter - (s.station st).runSnap) (s.station st).machineRate s else s) ∧
      v = (if (s.station st).waterSnap < (s.station st).waterMeter then
        charge j .water ((s.station st).waterMeter - (s.station st).waterSnap) s.rates.water u else u) ∧
      (chargeMeters st j s).link = v.link := by
  refine ⟨_, _, rfl, rfl, ?_⟩
  unfold chargeMeters
  simp only [Nat.sub_pos_iff_lt, onStation_link]

/-- Settles O57: a charge leaves `chargedJob` and its notices (`charge_state`), and the meters' charge is SAW, then WATER. -/
theorem chargeAdds : Obligations.ChargeAdds := by
  unfold Obligations.ChargeAdds
  refine ⟨fun s j c quantity rate product b d hb hproduct hcost hd => ?_, fun s st j x b hb hx => ?_⟩
  · obtain rfl : product = chargeProduct quantity rate := hproduct
    obtain rfl : d = chargedJob c quantity rate b := by
      rw [hcost] at hd
      exact hd
    exact (charge_state hb c quantity rate).trans (by rw [chargePosts_eq])
  · subst hx
    obtain ⟨u, v, hu, hv, hlink⟩ := link_chargeMeters st j s
    refine ⟨u, v, hu, hv, (chargeMeters_state st j s).trans ?_⟩
    rw [jobs_chargeMeters_of_some hb, hlink]
    rfl

/-! ## The range of the accumulators (R139) -/

/-- R139, of one job. -/
def CostInRange (b : Job) : Prop :=
  ∀ c, (getAcc b.cost c).value ≤ Config.accMax

/-- R139, of a Job Table. -/
def AccountsInRange (t : JobTable) : Prop :=
  ∀ j b, t.slots.get j = some b → CostInRange b

theorem accountsOk_iff {s : State} : AccountsOk s ↔ AccountsInRange s.jobs :=
  ⟨fun h j b hb c => h j b c hb, fun h j b c hb => h j b hb c⟩

theorem costInRange_zero {b : Job} (h : b.cost = CostRecord.zero) : CostInRange b := fun c => by
  rw [h]
  cases c <;> exact Nat.zero_le _

/-- R141: a sum that would pass the largest accumulator saturates. -/
theorem CostInRange.charged {b : Job} (h : CostInRange b) (c : Category) (q r : Nat) : CostInRange (chargedJob c q r b) :=
  ((Paid.refl h).charged c q r).range

/-- A slot is written with a job in range, or freed. -/
theorem AccountsInRange.putSlot {t : JobTable} (h : AccountsInRange t) (j : Fin 64) {o : Option Job}
    (ho : ∀ d, o = some d → CostInRange d) : AccountsInRange { t with slots := t.slots.set j o } := by
  intro i b hb
  by_cases hi : i = j
  · subst hi
    exact ho b ((get_set_self ..).symm.trans hb)
  · exact h i b ((get_set_ne _ _ _ _ hi).symm.trans hb)

/-- R139: every kind of move keeps the accumulators in range: a charge saturates, an opened or cleared record is 0, and no other kind
writes an account. -/
theorem JobMove.accounts {t u : JobTable} (m : JobMove t u) (h : AccountsInRange t) : AccountsInRange u := by
  have written : ∀ (j : Fin 64) {d : Job}, CostInRange d → AccountsInRange { t with slots := t.slots.set j (some d) } :=
    fun j d hd => h.putSlot j fun e he => Option.some.inj he ▸ hd
  cases m with
  | repieced l hl => exact h
  | entered x hx => exact h
  | opened j level budget hold hfree => exact written j (costInRange_zero rfl)
  | settled j b d hj hb hd =>
    refine written j fun c => ?_
    rw [hd]
    exact h j b hb c
  | freed j hj => exact h.putSlot j nofun
  | counted j b n hb => exact written j (h j b hb)
  | charged j b c q r hb => exact written j ((h j b hb).charged c q r)
  | cleared b hb => exact written 0 (costInRange_zero rfl)
  | reset => exact accountsOk_iff.mp reset_accounts

/-- Settles O58: every command changes the Job Table by moves (`step_moves`), and each kind keeps the range (`JobMove.accounts`). -/
theorem accountsStayInRange : Obligations.AccountsStayInRange := by
  unfold Obligations.AccountsStayInRange
  exact fun s t hs hstep => accountsOk_iff.mpr ((step_moves hstep).keeps (fun _ _ m => m.accounts) (accountsOk_iff.mp hs))

end Sys2Proof.Machine
end

section
/-! The split of the waste pool (R160, R161): the bases, the first shares, the leftover and who receives it.  The statement O59. -/

namespace Sys2Proof.Machine

/-! ## The bases (R160) -/

theorem charged_iff {x : Placement} :
    charged x = true ↔ x.state = some .cut ∨ x.state = some .spoiled ∨ x.state = some .void := by
  simp [charged, or_assoc]

/-- R160: a job's basis, in the rule's own words. -/
theorem basis_eq (j : Fin 64) (l : List Placement) : basis j l =
    ((l.filter fun x => decide ((x.state = some .cut ∨ x.state = some .spoiled ∨ x.state = some .void) ∧
      x.piece.job = j)).map fun x => x.xe * x.ye).sum := by
  have hfilter : (l.filter fun x => charged x && x.piece.job == j) =
      l.filter fun x => decide ((x.state = some .cut ∨ x.state = some .spoiled ∨ x.state = some .void) ∧ x.piece.job = j) :=
    List.filter_congr fun x _ => by
      rw [Bool.eq_iff_iff]
      simp [charged_iff]
  rw [basis, hfilter]
  rfl

/-- R160: a job without a basis adds nothing to their sum. -/
theorem basisSum_eq (l : List Placement) : basisSum l = ((List.finRange 64).map fun j => basis j l).sum := by
  have hrest : (((List.finRange 64).filter fun j => ¬0 < basis j l).map fun j => basis j l).sum = 0 :=
    List.sum_eq_zero fun n hn => by
      obtain ⟨j, hj, rfl⟩ := List.mem_map.mp hn
      simpa using List.of_mem_filter hj
  rw [← List.sum_map_filter_add_sum_map_filter_not (fun j => 0 < basis j l), hrest, Nat.add_zero]
  rfl

theorem sharingJobs_ne_nil {l : List Placement} (h : 0 < basisSum l) : sharingJobs l ≠ [] := fun hnil => by
  simp [basisSum, hnil] at h

/-! ## The leftover (R161) -/

/-- R161: over all bases the first shares and the remainders of their divisions make up the pool. -/
theorem firstShares_mul_add_remainders (pool : Nat) (l : List Placement) :
    basisSum l * ((sharingJobs l).map (firstShare pool l)).sum +
      ((sharingJobs l).map fun j => pool * basis j l % basisSum l).sum = basisSum l * pool := by
  calc _ = ((sharingJobs l).map fun j => basisSum l * firstShare pool l j + pool * basis j l % basisSum l).sum := by
        rw [List.sum_map_add, List.sum_map_mul_left]
    _ = ((sharingJobs l).map fun j => pool * basis j l).sum := by simp only [firstShare, Nat.div_add_mod]
    _ = basisSum l * pool := by rw [List.sum_map_mul_left, Nat.mul_comm]; rfl

/-- R161: the first shares do not pass the pool. -/
theorem firstShares_add_leftover (pool : Nat) {l : List Placement} (h : 0 < basisSum l) :
    ((sharingJobs l).map (firstShare pool l)).sum + leftover pool l = pool :=
  Nat.add_sub_cancel' <| Nat.le_of_mul_le_mul_left (Nat.le.intro (firstShares_mul_add_remainders pool l)) h

/-- R161: each first share falls short of its exact proportion by less than 1, so the leftover is less than the number of sharers. -/
theorem leftover_lt (pool : Nat) {l : List Placement} (h : 0 < basisSum l) : leftover pool l < (sharingJobs l).length := by
  have hleft : basisSum l * leftover pool l = ((sharingJobs l).map fun j => pool * basis j l % basisSum l).sum := by
    have hsplit := firstShares_mul_add_remainders pool l
    have hpool := congrArg (basisSum l * ·) (firstShares_add_leftover pool h)
    simp only [Nat.mul_add] at hpool
    omega
  refine Nat.lt_of_mul_lt_mul_left (a := basisSum l) ?_
  calc _ = ((sharingJobs l).map fun j => pool * basis j l % basisSum l).sum := hleft
    _ < ((sharingJobs l).map fun _ => basisSum l).sum :=
        List.sum_lt_sum_of_ne_nil (sharingJobs_ne_nil h) _ _ fun _ _ => Nat.mod_lt _ h
    _ = basisSum l * (sharingJobs l).length := by simp [Nat.mul_comm]

/-! ## Who receives the leftover (R161) -/

theorem leftoverOrder_perm (l : List Placement) : (leftoverOrder l).Perm (sharingJobs l) := sortBy_perm ..

theorem leftoverOrder_nodup (l : List Placement) : (leftoverOrder l).Nodup := sortBy_nodup _ (sharingJobs_nodup l)

/-- R161: the leftover goes out by basis descending, and by job ascending among equal bases. -/
theorem leftoverOrder_pairwise (l : List Placement) :
    (leftoverOrder l).Pairwise fun i j => basis j l < basis i l ∨ (basis i l = basis j l ∧ i < j) := by
  have hsorted : (leftoverOrder l).Pairwise fun i j => basis j l < basis i l ∨ (basis i l = basis j l ∧ i ≤ j) := by
    refine sortBy_pairwise (fun a b c => ?_) (fun a b => ?_) (fun a b => ?_) _
    · omega
    · simp only [Bool.or_eq_true, Bool.and_eq_true, decide_eq_true_eq, beq_iff_eq]
      omega
    · simp only [Bool.or_eq_false_iff, Bool.and_eq_false_iff, decide_eq_false_iff_not, beq_eq_false_iff_ne]
      omega
  exact hsorted.imp₂ (fun i j h hne => h.imp_right fun ⟨hb, hij⟩ => ⟨hb, lt_of_le_of_ne hij hne⟩) (leftoverOrder_nodup l)

/-- One unit to each of the first `n` of an arrangement of `l` makes `n` units. -/
theorem sum_units {order l : List (Fin 64)} (hperm : order.Perm l) (hnodup : l.Nodup) {n : Nat} (hn : n ≤ order.length) :
    (l.map fun j => if j ∈ order.take n then 1 else 0).sum = n := by
  have hfilter : (l.filter fun j => decide (j ∈ order.take n)).Perm (order.take n) := by
    refine (List.perm_ext_iff_of_nodup (hnodup.filter _) ((hperm.nodup_iff.mpr hnodup).take)).mpr fun j => ?_
    simpa using fun hj => hperm.mem_iff.mp (List.mem_of_mem_take hj)
  simp [List.sum_map_ite, hfilter.length_eq, hn]

/-! ## The shares (R160, R161) -/

theorem wasteShare_eq (pool : Nat) (l : List Placement) (j : Fin 64) : wasteShare pool l j =
    pool * basis j l / basisSum l + if j ∈ (leftoverOrder l).take (leftover pool l) then 1 else 0 := by
  simp [wasteShare, firstShare]

theorem wasteShares_of_noBasis (pool : Nat) {l : List Placement} (h : basisSum l = 0) : wasteShares pool l = [(0, pool)] :=
  if_pos h

theorem wasteShares_of_basis (pool : Nat) {l : List Placement} (h : 0 < basisSum l) :
    wasteShares pool l = (sharingJobs l).map fun j => (j, wasteShare pool l j) :=
  if_neg (Nat.ne_of_gt h)

/-- R161: the shares sum to the pool exactly. -/
theorem sum_wasteShares (pool : Nat) (l : List Placement) : ((wasteShares pool l).map fun x => x.2).sum = pool := by
  rcases Nat.eq_zero_or_pos (basisSum l) with h | h
  · simp [wasteShares_of_noBasis pool h]
  · have hlength : leftover pool l ≤ (leftoverOrder l).length := by
      rw [(leftoverOrder_perm l).length_eq]
      exact Nat.le_of_lt (leftover_lt pool h)
    calc _ = ((sharingJobs l).map fun j =>
          firstShare pool l j + if j ∈ (leftoverOrder l).take (leftover pool l) then 1 else 0).sum := by
          rw [wasteShares_of_basis pool h, List.map_map]
          exact congrArg List.sum (List.map_congr_left fun j _ => wasteShare_eq pool l j)
      _ = ((sharingJobs l).map (firstShare pool l)).sum + leftover pool l := by
          rw [List.sum_map_add, sum_units (leftoverOrder_perm l) (sharingJobs_nodup l) hlength]
      _ = pool := firstShares_add_leftover pool h

/-- R160, R161: a share is of a job with a basis, and is its first share or one more. -/
theorem share_of_mem_wasteShares {pool : Nat} {l : List Placement} (h : 0 < basisSum l) {j : Fin 64} {n : Nat}
    (hmem : (j, n) ∈ wasteShares pool l) :
    0 < basis j l ∧ (n = pool * basis j l / basisSum l ∨ n = pool * basis j l / basisSum l + 1) := by
  rw [wasteShares_of_basis pool h] at hmem
  obtain ⟨i, hi, heq⟩ := List.mem_map.mp hmem
  obtain ⟨rfl, rfl⟩ := Prod.mk.inj heq
  refine ⟨mem_sharingJobs.mp hi, ?_⟩
  rw [wasteShare_eq]
  split
  · exact .inr rfl
  · exact .inl rfl

/-- Settles O59: the arrangement is the model's `leftoverOrder`. -/
theorem wasteSharesSum : Obligations.WasteSharesSum := by
  unfold Obligations.WasteSharesSum
  refine ⟨fun pool l => ⟨sum_wasteShares pool l, wasteShares_of_noBasis pool, fun h _ _ => share_of_mem_wasteShares h⟩,
    fun l => ⟨fun j => basis_eq j l, basisSum_eq l, leftoverOrder l, leftoverOrder_perm l, leftoverOrder_pairwise l,
      fun pool left h hleft => ?_⟩⟩
  have hperm := leftoverOrder_perm l
  obtain rfl : left = leftover pool l := by
    rw [hleft, (hperm.map _).sum_eq]
    rfl
  refine ⟨hperm.length_eq ▸ leftover_lt pool h, ?_⟩
  rw [wasteShares_of_basis pool h]
  exact List.map_congr_left fun j _ => congrArg (Prod.mk j) (wasteShare_eq pool l j)

end Sys2Proof.Machine
end

section
/-! What the operations that commands share do to the link: notices posted, nothing else, so that the notice set keeps its form (R182). -/

namespace Sys2Proof.Machine

/-! ## The moves -/

/-- One change that a block's work makes on the link. -/
inductive LinkMove (l : Link) : Link → Prop
  /-- R182: a notice is raised. -/
  | posted (k : NoticeKind) (o : Nat) : LinkMove l (postNotice k o l)
  /-- R184: the oldest entries are taken. -/
  | taken : LinkMove l (takeNotices l)
  /-- R185: the shop mode changes. -/
  | moded (m : ShopMode) : LinkMove l { l with mode := m }

/-- The link of one state comes from that of another by moves, and the queue of commands stands. -/
def MovesLink (s t : State) : Prop :=
  Relation.ReflTransGen LinkMove s.link t.link ∧ t.pending = s.pending

theorem MovesLink.refl (s : State) : MovesLink s s := ⟨.refl, rfl⟩

theorem MovesLink.trans {s t u : State} (h : MovesLink s t) (g : MovesLink t u) : MovesLink s u :=
  ⟨h.1.trans g.1, g.2.trans h.2⟩

theorem MovesLink.ite {c : Prop} [Decidable c] {s t u : State} (ht : MovesLink s t) (hu : MovesLink s u) :
    MovesLink s (if c then t else u) := by
  split
  · exact ht
  · exact hu

theorem MovesLink.foldl {α : Type} {f : State → α → State} (hf : ∀ s a, MovesLink s (f s a)) (l : List α) (s : State) :
    MovesLink s (l.foldl f s) :=
  foldl_rel (R := MovesLink) .refl (fun _ _ _ => .trans) f hf l s

/-- What every kind of move keeps, a chain of moves keeps. -/
theorem MovesLink.keeps {P : Link → Prop} (hP : ∀ l m, LinkMove l m → P l → P m) {s t : State} (h : MovesLink s t)
    (hs : P s.link) : P t.link := by
  obtain ⟨hlink, -⟩ := h
  generalize t.link = m at hlink
  induction hlink with
  | refl => exact hs
  | tail _ hmove ih => exact hP _ _ hmove ih

theorem raiseNotice_movesLink (k : NoticeKind) (o : Nat) (s : State) : MovesLink s (raiseNotice k o s) :=
  ⟨.single (.posted k o), rfl⟩

/-- A notice raised behind a change that the link does not see. -/
theorem MovesLink.raise {s t : State} (h : MovesLink s t) (k : NoticeKind) (o : Nat) : MovesLink s (raiseNotice k o t) :=
  h.trans (raiseNotice_movesLink k o t)

/-! ## Records and charges -/

theorem modJob_movesLink (j : Fin 64) (f : Job → Job) (s : State) : MovesLink s (s.modJob j f) := by
  rw [modJob_state]
  exact .refl s

theorem modPlan_movesLink (p : Fin 16) (f : Plan → Plan) (s : State) : MovesLink s (s.modPlan p f) := by
  rw [modPlan_state]
  exact .refl s

theorem setPlacement_movesLink (p : Fin 16) (i : Nat) (q : PlaceState) (s : State) : MovesLink s (setPlacement p i q s) :=
  modPlan_movesLink ..

theorem countPlacements_movesLink (l : List Placement) (s : State) : MovesLink s (countPlacements l s) := by
  rw [countPlacements_state]
  exact .refl s

theorem uncountPlacements_movesLink (l : List Placement) (s : State) : MovesLink s (uncountPlacements l s) := by
  rw [uncountPlacements_state]
  exact .refl s

theorem budgetWatch_movesLink (j : Fin 64) (s : State) : MovesLink s (budgetWatch j s) := by
  unfold budgetWatch
  split
  · exact .ite (raiseNotice_movesLink .budget j (s.putJob j _)) (.refl s)
  · exact .refl s

theorem charge_movesLink (j : Fin 64) (c : Category) (q r : Nat) (s : State) : MovesLink s (charge j c q r s) := by
  unfold charge
  split
  · have hcharged : ∀ b, MovesLink s (s.putJob j b) := fun _ => .refl s
    exact .trans (.ite (hcharged _) ((hcharged _).raise .clipped j)) (budgetWatch_movesLink ..)
  · exact .refl s

theorem chargeMeters_movesLink (st : Fin 6) (j : Fin 64) (s : State) : MovesLink s (chargeMeters st j s) :=
  have hsaw := MovesLink.ite (charge_movesLink ..) (.refl s)
  hsaw.trans (.ite (charge_movesLink ..) (.refl _))

/-! ## The Grant Arbiter -/

theorem startHoldIf_movesLink (st : Fin 6) (s : State) : MovesLink s (startHoldIf st s) := .ite (.refl s) (.refl s)

theorem makeGrant_movesLink (r : Request) (s : State) : MovesLink s (makeGrant r s) := by
  rw [makeGrant_state]
  exact raiseNotice_movesLink .granted r.station s

theorem arbitrateUpTo_movesLink (n : Nat) (s : State) : MovesLink s (arbitrateUpTo n s) := by
  induction n generalizing s with
  | zero => exact .refl s
  | succ n ih =>
    unfold arbitrateUpTo
    split
    · exact (makeGrant_movesLink ..).trans (ih _)
    · exact .refl s

theorem arbitrate_movesLink (s : State) : MovesLink s (arbitrate s) := arbitrateUpTo_movesLink _ s

theorem releaseGrant_movesLink (st : Fin 6) (s : State) : MovesLink s (releaseGrant st s) :=
  (chargeMeters_movesLink st 0 s).trans (arbitrate_movesLink (removeGrant st (chargeMeters st 0 s)))

theorem releaseIfHeld_movesLink (st : Fin 6) (s : State) : MovesLink s (releaseIfHeld st s) :=
  .ite (releaseGrant_movesLink st s) (.refl s)

theorem withdrawRequest_movesLink (st : Fin 6) (s : State) : MovesLink s (withdrawRequest st s) :=
  .ite (arbitrate_movesLink (s.onArbiter (dropRequest st))) (.refl s)

theorem dropWater_movesLink (st : Fin 6) (s : State) : MovesLink s (dropWater st s) :=
  (releaseIfHeld_movesLink st s).trans (withdrawRequest_movesLink st _)

theorem releaseIfMarked_movesLink (st : Fin 6) (s : State) : MovesLink s (releaseIfMarked st s) := by
  unfold releaseIfMarked
  split
  · exact .ite (releaseGrant_movesLink st s) (.refl s)
  · exact .refl s

theorem reformFloor_movesLink (s : State) : MovesLink s (reformFloor s) :=
  have hreleased := MovesLink.foldl (f := releaseMarkedIdle) (fun s st => .ite (.refl s) (releaseIfMarked_movesLink st s)) allStations
    ((storeFloor s).onArbiter markGrants)
  .ite (.refl s) (hreleased.trans (arbitrate_movesLink _))

theorem revokeGrant_movesLink (s : State) (st : Fin 6) : MovesLink s (revokeGrant s st) := by
  unfold revokeGrant
  split
  · exact .trans (.ite (.refl s) (chargeMeters_movesLink st 0 s)) (raiseNotice_movesLink .revoked st
      (State.onArbiter (enterRequest _) (removeGrant st _)))
  · exact .refl s

theorem revokeAll_movesLink (s : State) : MovesLink s (revokeAll s) :=
  have hrevoked := MovesLink.foldl revokeGrant_movesLink allStations (storeFloor s)
  hrevoked.trans (arbitrate_movesLink _)

theorem waterStep_movesLink (st : Fin 6) (level : Nat) (s : State) : MovesLink s (waterStep st level s) := by
  have hasks : ∀ (f : Arbiter → Arbiter) (u : State), MovesLink u (arbitrate (u.onArbiter f)) :=
    fun f u => arbitrate_movesLink (u.onArbiter f)
  exact .ite (.ite (hasks _ s) ((releaseGrant_movesLink st s).trans (hasks _ _))) (.ite (hasks _ s) (hasks _ s))

/-! ## The plant -/

theorem enterCycle_movesLink (c : CycleState) (s : State) : MovesLink s (enterCycle c s) :=
  raiseNotice_movesLink .plantPhase 0 (s.onPlant fun p => { p with cycle := c })

theorem moveCycle_movesLink (c : CycleState) (s : State) : MovesLink s (moveCycle c s) := .ite (.refl s) (enterCycle_movesLink c s)

theorem enterSludge_movesLink (s : State) : MovesLink s (enterSludge s) := enterCycle_movesLink .sludge (setCounter _ s)

theorem decantEndTest_movesLink (s : State) : MovesLink s (decantEndTest s) := .ite (enterSludge_movesLink s) (.refl s)

theorem cleanTest_movesLink (s : State) : MovesLink s (cleanTest s) := moveCycle_movesLink _ s

theorem decantTests_movesLink (s : State) : MovesLink s (decantTests s) := .ite (enterSludge_movesLink s) (cleanTest_movesLink s)

theorem settleTest_movesLink (s : State) : MovesLink s (settleTest s) :=
  have hdecant : MovesLink s (enterDecant s) :=
    (enterCycle_movesLink .decant (setCounter 0 s)).trans (decantTests_movesLink _)
  .ite hdecant (.ite (moveCycle_movesLink .dose s) (moveCycle_movesLink .settle s))

theorem enterDoseSettle_movesLink (s : State) : MovesLink s (enterDoseSettle s) :=
  settleTest_movesLink (loadSettings (setCounter 0 s))

theorem fillTest_movesLink (s : State) : MovesLink s (fillTest s) := .ite (enterDoseSettle_movesLink s) (.refl s)

theorem startTest_movesLink (s : State) : MovesLink s (startTest s) :=
  have hfill : MovesLink s (enterFill s) := (enterCycle_movesLink .fill (setCounter 0 s)).trans (fillTest_movesLink _)
  .ite hfill (.refl s)

theorem fillFault_movesLink (s : State) : MovesLink s (fillFault s) :=
  (raiseNotice_movesLink .plantFault 0 s).trans
    (enterCycle_movesLink .stopped ((raiseNotice .plantFault 0 s).onPlant fun p => { p with remembered := some ⟨.idle, 0⟩ }))

theorem timeoutTest_movesLink (s : State) : MovesLink s (timeoutTest s) :=
  .ite (.ite (enterDoseSettle_movesLink s) (fillFault_movesLink s)) (.refl s)

theorem endBatch_movesLink (s : State) : MovesLink s (endBatch s) := by
  have hidle : MovesLink s (enterCycle .idle (s.onPlant fun p =>
      { p with batches := min Config.plantMax (p.batches + 1), counter := 0 })) := enterCycle_movesLink .idle (s.onPlant _)
  unfold endBatch
  dsimp only
  split
  · exact .ite (hidle.trans (startTest_movesLink _)) hidle
  · exact hidle

theorem stopPlant_movesLink (s : State) : MovesLink s (stopPlant s) := .ite (.refl s) (enterCycle_movesLink .stopped (s.onPlant _))

theorem startIdle_movesLink (s : State) : MovesLink s (startIdle s) :=
  startTest_movesLink (s.onPlant fun p => { p with started := true })

theorem resumeTests_movesLink (c : CycleState) (s : State) : MovesLink s (resumeTests c s) := by
  cases c with
  | idle => exact startIdle_movesLink s
  | fill => exact (fillTest_movesLink s).trans (timeoutTest_movesLink _)
  | dose => exact settleTest_movesLink s
  | settle => exact settleTest_movesLink s
  | decant => exact decantTests_movesLink s
  | decantWait => exact decantTests_movesLink s
  | sludge => exact .refl s
  | stopped => exact .refl s

theorem resumePlant_movesLink (r : Remembered) (s : State) : MovesLink s (resumePlant r s) :=
  (enterCycle_movesLink r.phase (s.onPlant fun p => { p with remembered := none, counter := r.counter })).trans
    (resumeTests_movesLink ..)

theorem resetCycle_movesLink (s : State) : MovesLink s (resetCycle s) := moveCycle_movesLink .idle s

theorem startPlant_movesLink (s : State) : MovesLink s (startPlant s) := by
  unfold startPlant
  split
  · exact startIdle_movesLink s
  · split
    · exact resumePlant_movesLink ..
    · exact .refl s
  · exact .refl s

theorem plantStartEffects_movesLink (m : PlantMode) (r : Bool) (s : State) : MovesLink s (plantStartEffects m r s) :=
  have hreset := MovesLink.ite (resetCycle_movesLink s) (.refl s)
  hreset.trans (startPlant_movesLink (State.onPlant (fun p => { p with mode := m }) _))

theorem directTests_movesLink (n : SettingName) (s : State) : MovesLink s (directTests n s) := by
  cases n with
  | fillStart => exact .ite (startTest_movesLink s) (.refl s)
  | fillTarget => exact .ite (fillTest_movesLink s) (.refl s)
  | fillTimeout => exact timeoutTest_movesLink s
  | doseEnd => exact .ite (settleTest_movesLink s) (.refl s)
  | settleEnd => exact .ite (settleTest_movesLink s) (.refl s)
  | decantFloor => exact .ite (decantEndTest_movesLink s) (.refl s)
  | fillMin => exact .refl s
  | sludgeTime => exact .refl s

theorem writeSetting_movesLink (n : SettingName) (v : Nat) (s : State) : MovesLink s (writeSetting n v s) :=
  .ite (.refl s) (directTests_movesLink n (s.onPlant (writeDirect n v)))

theorem doseEnd_movesLink (s : State) : MovesLink s (doseEnd s) := .ite (settleTest_movesLink s) (.refl s)

theorem settleEnd_movesLink (s : State) : MovesLink s (settleEnd s) := .ite (settleTest_movesLink s) (.refl s)

theorem sludgeEnd_movesLink (s : State) : MovesLink s (sludgeEnd s) := .ite (endBatch_movesLink s) (.refl s)

theorem plantTick_movesLink (s : State) : MovesLink s (plantTick s) := by
  have htests : ∀ t : State, MovesLink t (counterTests t) := fun t => by
    unfold counterTests
    split
    · exact timeoutTest_movesLink t
    · exact settleTest_movesLink t
    · exact settleTest_movesLink t
    · exact sludgeEnd_movesLink t
    · exact .refl t
  exact htests (s.onPlant tickCounter)

/-! ## Plans given up, closes, cuts, breaks and cancellations -/

theorem planLeavesStation_movesLink (st : Fin 6) (p : Fin 16) (s : State) : MovesLink s (planLeavesStation st p s) :=
  .ite (dropWater_movesLink st (s.onStation st fun x => advanceStation (dropEntries p x))) (.refl s)

theorem unwindCommitted_movesLink (p : Fin 16) (s : State) : MovesLink s (unwindCommitted p s) := by
  unfold unwindCommitted
  split
  · exact (uncountPlacements_movesLink _ (unplanPieces _ s)).trans
      (planLeavesStation_movesLink _ p (State.onStock (releaseRecord _) _))
  · exact .refl s

theorem wasteCharges_movesLink (rate pool : Nat) (l : List Placement) (s : State) : MovesLink s (wasteCharges rate pool l s) :=
  (MovesLink.foldl (fun s (x : Fin 64 × Nat) => charge_movesLink x.1 .waste x.2 rate s) _ s).trans
    (.foldl (fun s (x : Placement) => charge_movesLink x.piece.job .waste x.area rate s) _ _)

theorem createRemnant_movesLink (parent : Slab) (len wid : Nat) (s : State) : MovesLink s (createRemnant parent len wid s) := by
  unfold createRemnant
  dsimp only
  split
  · exact raiseNotice_movesLink .remnantUnracked _ (s.onStock _)
  · exact .refl s

theorem settleRemnant_movesLink (p : Fin 16) (c : Candidate) (parent : Slab) (choice : RemnantChoice) (s : State) :
    MovesLink s (settleRemnant p c parent choice s) := by
  cases choice with
  | nothing => exact .refl s
  | discard => exact raiseNotice_movesLink .remnantLost p s
  | keep => exact createRemnant_movesLink ..

theorem closeSteps_movesLink (p : Fin 16) (x : Plan) (l : Layout) (rate : Nat) (b : Slab) (broke : Bool) (s : State) :
    MovesLink s (closeSteps p x l rate b broke s) :=
  (settleRemnant_movesLink ..).trans <| (wasteCharges_movesLink ..).trans <| (uncountPlacements_movesLink l.placements _).trans <|
    (planLeavesStation_movesLink x.station p (letGo p x.serial l.placements _)).raise .slabClosed p

theorem closePlan_movesLink (p : Fin 16) (broke : Bool) (s : State) : MovesLink s (closePlan p broke s).state := by
  unfold closePlan
  split
  · split
    · split
      · exact closeSteps_movesLink ..
      · exact .refl s
    · exact .refl s
  · exact .refl s

theorem closeCheck_movesLink (p : Fin 16) (s : State) : MovesLink s (closeCheck p s).state := by
  unfold closeCheck
  split
  · exact .refl s
  · exact closePlan_movesLink p false s

theorem afterCut_movesLink (st : Fin 6) (p : Fin 16) (s : State) : MovesLink s (afterCut st p s).state :=
  (closeCheck_movesLink p s).trans (releaseIfMarked_movesLink st _)

theorem endEntry_movesLink (st : Fin 6) (e : CutEntry) (s : State) : MovesLink s (endEntry st e s) := by
  rw [endEntry_state]
  exact .refl s

theorem issueCut_movesLink (st : Fin 6) (e : CutEntry) (s : State) : MovesLink s (issueCut st e s) :=
  (chargeMeters_movesLink st 0 s).trans (setPlacement_movesLink e.plan e.index .issued _)

theorem finishCut_movesLink (st : Fin 6) (e : CutEntry) (s : State) : MovesLink s (finishCut st e s) :=
  (setPlacement_movesLink e.plan e.index .cut s).trans <|
    (endEntry_movesLink st e (State.onJobs (modPieces [e.piece] cutPiece) _)).trans <|
    (charge_movesLink ..).trans (chargeMeters_movesLink ..)

theorem spoilPiece_movesLink (id : PieceId) (s : State) : MovesLink s (spoilPiece id s) := by
  unfold spoilPiece
  split
  · exact raiseNotice_movesLink _ id.job (s.onJobs (modPieces [id] spoiledPiece))
  · exact .refl s

theorem spoilCut_movesLink (st : Fin 6) (e : CutEntry) (s : State) : MovesLink s (spoilCut st e s) :=
  (setPlacement_movesLink e.plan e.index .spoiled s).trans <| (endEntry_movesLink ..).trans <| (chargeMeters_movesLink ..).trans <|
    (charge_movesLink ..).trans (spoilPiece_movesLink ..)

theorem spoilIssued_movesLink (st : Fin 6) (s : State) : MovesLink s (spoilIssued st s) := by
  unfold spoilIssued
  split
  · exact spoilCut_movesLink ..
  · exact .refl s

theorem returnQueued_movesLink (st : Fin 6) (p : Fin 16) (s : State) : MovesLink s (returnQueued st p s) :=
  (modPlan_movesLink p (onPlacements fun m => m.map returnPlacement) s).trans
    (.foldl (f := fun t j => raiseNotice .recut j t) (fun s j => raiseNotice_movesLink .recut j s) (returnedJobs (s.placements p))
      (unplanPieces (queuedPieces (s.placements p)) (State.onStation st (dropEntries p) _)))

theorem breakPlan_movesLink (st : Fin 6) (p : Fin 16) (s : State) : MovesLink s (breakPlan st p s).state :=
  (spoilIssued_movesLink st s).trans <| (returnQueued_movesLink st p _).trans (closePlan_movesLink ..)

theorem cancelPieces_movesLink (j : Fin 64) (s : State) : MovesLink s (cancelPieces j s) := by
  rw [cancelPieces_state]
  exact .refl s

theorem cancelPlan_movesLink (c : CancelTally) (p : Fin 16) : MovesLink c.state (cancelPlan c p).state := by
  unfold cancelPlan
  split
  · split
    · split
      · exact unwindCommitted_movesLink ..
      · exact .refl _
    · exact closeCheck_movesLink ..
    · exact .refl _
  · exact .refl _

theorem cancelPlans_movesLink (l : List (Fin 16)) (c : CancelTally) : MovesLink c.state (l.foldl cancelPlan c).state := by
  induction l generalizing c with
  | nil => exact .refl _
  | cons p l ih => exact (cancelPlan_movesLink c p).trans (ih _)

theorem cancelEffects_movesLink (j : Fin 64) (s : State) : MovesLink s (cancelEffects j s).state :=
  (modJob_movesLink ..).trans <| (cancelPieces_movesLink j _).trans (cancelPlans_movesLink _ ⟨cancelPieces j _, 0, 0, none⟩)

/-! ## The shop mode -/

theorem changeMode_movesLink (m : ShopMode) (s : State) : MovesLink s (changeMode m s) :=
  have hmode : MovesLink s (s.onLink fun l => { l with mode := m }) := ⟨.single (.moded m), rfl⟩
  hmode.trans <| (reformFloor_movesLink _).trans (arbitrate_movesLink _)

theorem takeOffline_movesLink (st : Fin 6) (s : State) : MovesLink s (takeOffline st s) :=
  dropWater_movesLink st (s.onStation st fun x => { x with mode := .offline })

theorem closeShop_movesLink (s : State) : MovesLink s (closeShop s) :=
  have hoffline : MovesLink s (closeStations s) := .foldl (fun t st => takeOffline_movesLink st t) _ s
  hoffline.trans <| (stopPlant_movesLink _).trans (changeMode_movesLink .loading _)

end Sys2Proof.Machine
end

section
/-! The notice set (R182 to R184): what raising and reading a notice do to it, the form it keeps, and the ATTN line.  The statements
O10, O12 and O13. -/

namespace Sys2Proof.Machine

/-! ## A notice raised (R182) -/

/-- The entry of a kind and an object, counted up. -/
def countUp (k : NoticeKind) (o : Nat) (n : Notice) : Notice :=
  if n.kind = k ∧ n.object = o then { n with count := min 255 (n.count + 1) } else n

theorem postNotice_of_mem {k : NoticeKind} {o : Nat} {l : Link} (h : ∃ n ∈ l.notices, n.kind = k ∧ n.object = o) :
    postNotice k o l = { l with notices := l.notices.map (countUp k o) } := by
  have hany : (l.notices.any fun n => n.kind == k && n.object == o) = true := by simpa using h
  unfold postNotice
  rw [if_pos hany]
  simp only [Bool.and_eq_true, beq_iff_eq]
  rfl

theorem any_key_eq_false {k : NoticeKind} {o : Nat} {l : Link} (h : ∀ n ∈ l.notices, ¬(n.kind = k ∧ n.object = o)) :
    ¬(l.notices.any fun n => n.kind == k && n.object == o) = true := by
  simpa using h

theorem postNotice_of_room {k : NoticeKind} {o : Nat} {l : Link} (h : ∀ n ∈ l.notices, ¬(n.kind = k ∧ n.object = o))
    (hroom : l.notices.length < 32) : postNotice k o l = { l with notices := l.notices ++ [⟨k, o, 1⟩] } := by
  unfold postNotice
  rw [if_neg (any_key_eq_false h), if_pos hroom]

theorem postNotice_of_full {k : NoticeKind} {o : Nat} {l : Link} (h : ∀ n ∈ l.notices, ¬(n.kind = k ∧ n.object = o))
    (hfull : 32 ≤ l.notices.length) : postNotice k o l = { l with overflow := true } := by
  unfold postNotice
  rw [if_neg (any_key_eq_false h), if_neg (Nat.not_lt.mpr hfull)]

/-- R182: the three things that raising a notice can do. -/
theorem postNotice_cases (k : NoticeKind) (o : Nat) (l : Link) :
    postNotice k o l = { l with notices := l.notices.map (countUp k o) } ∨
      ((∀ n ∈ l.notices, ¬(n.kind = k ∧ n.object = o)) ∧ l.notices.length < 32 ∧
        postNotice k o l = { l with notices := l.notices ++ [⟨k, o, 1⟩] }) ∨
      postNotice k o l = { l with overflow := true } := by
  by_cases h : ∃ n ∈ l.notices, n.kind = k ∧ n.object = o
  · exact .inl (postNotice_of_mem h)
  · have hnone : ∀ n ∈ l.notices, ¬(n.kind = k ∧ n.object = o) := fun n hn hkey => h ⟨n, hn, hkey⟩
    rcases Nat.lt_or_ge l.notices.length 32 with hroom | hfull
    · exact .inr (.inl ⟨hnone, hroom, postNotice_of_room hnone hroom⟩)
    · exact .inr (.inr (postNotice_of_full hnone hfull))

/-- Settles O10: the three cases of R182 are `postNotice_of_mem`, `postNotice_of_room` and `postNotice_of_full`. -/
theorem noticeRaised : Obligations.NoticeRaised := by
  unfold Obligations.NoticeRaised
  refine fun k o s => ⟨fun h => ?_, fun h hroom => ?_, fun h hfull => ?_⟩
  · have hraised : raiseNotice k o s = { s with link := { s.link with notices := s.link.notices.map (countUp k o) } } :=
      congrArg (fun l => { s with link := l }) (postNotice_of_mem h)
    rw [hraised]
    refine ⟨rfl, List.length_map .., fun i m hm => ?_⟩
    simp only [List.getElem?_map, hm]
    rfl
  · exact congrArg (fun l => { s with link := l }) (postNotice_of_room h hroom)
  · exact congrArg (fun l => { s with link := l }) (postNotice_of_full h hfull)

/-! ## The form of the set (R182) -/

theorem countUp_key (k : NoticeKind) (o : Nat) (n : Notice) :
    (countUp k o n).kind = n.kind ∧ (countUp k o n).object = n.object := by
  unfold countUp
  split <;> exact ⟨rfl, rfl⟩

theorem countUp_count {k : NoticeKind} {o : Nat} {n : Notice} (h : 1 ≤ n.count ∧ n.count ≤ 255) :
    1 ≤ (countUp k o n).count ∧ (countUp k o n).count ≤ 255 := by
  unfold countUp
  split
  · dsimp only
    omega
  · exact h

theorem NoticesOk.post {l : Link} (h : NoticesOk l) (k : NoticeKind) (o : Nat) : NoticesOk (postNotice k o l) := by
  obtain ⟨hlength, hcounts, hkeys⟩ := h
  rcases postNotice_cases k o l with hpost | ⟨hnew, hroom, hpost⟩ | hpost
  · rw [hpost]
    refine ⟨(List.length_map ..).trans_le hlength, fun n hn => ?_, List.pairwise_map.mpr (hkeys.imp fun {m n} hkey => ?_)⟩
    · obtain ⟨m, hm, rfl⟩ := List.mem_map.mp hn
      exact countUp_count (hcounts m hm)
    · rwa [(countUp_key k o m).1, (countUp_key k o m).2, (countUp_key k o n).1, (countUp_key k o n).2]
  · rw [hpost]
    refine ⟨List.length_append.trans_le hroom, fun n hn => ?_,
      List.pairwise_append.mpr ⟨hkeys, List.pairwise_singleton .., fun m hm n hn => ?_⟩⟩
    · rcases List.mem_append.mp hn with hn | hn
      · exact hcounts n hn
      · obtain rfl := List.mem_singleton.mp hn
        exact ⟨Nat.le_refl 1, by norm_num⟩
    · obtain rfl := List.mem_singleton.mp hn
      exact hnew m hm
  · rw [hpost]
    exact ⟨hlength, hcounts, hkeys⟩

/-- R184: the entries that stay are entries of the set before. -/
theorem NoticesOk.take {l : Link} (h : NoticesOk l) : NoticesOk (takeNotices l) := by
  obtain ⟨hlength, hcounts, hkeys⟩ := h
  have hsub : (takeNotices l).notices.Sublist l.notices := List.drop_sublist ..
  exact ⟨hsub.length_le.trans hlength, fun n hn => hcounts n (hsub.mem hn), hkeys.sublist hsub⟩

theorem LinkMove.noticesOk {l m : Link} (hmove : LinkMove l m) (h : NoticesOk l) : NoticesOk m := by
  cases hmove with
  | posted k o => exact h.post k o
  | taken => exact h.take
  | moded m => exact h

theorem MovesLink.noticesOk {s t : State} (hmoves : MovesLink s t) (h : NoticesOk s.link) : NoticesOk t.link :=
  hmoves.keeps (fun _ _ hmove => hmove.noticesOk) h

/-! ## READ_NOTICES and the ATTN line (R183, R184) -/

theorem noticesBody_eq (l : Link) : noticesBody l = be 1 (min 12 l.notices.length) ++ flagByte l.overflow ++
    be 1 (l.notices.length - 12) ++ (l.notices.take 12).flatMap noticeBytes := by
  simp only [noticesBody, List.length_take, Config.readNoticesMax]
  rw [show l.notices.length - min 12 l.notices.length = l.notices.length - 12 by omega]

/-- Settles O12: the answer is served with the entries taken, and the body is `noticesBody_eq`. -/
theorem readNoticesTakesOldest : Obligations.ReadNoticesTakesOldest := by
  unfold Obligations.ReadNoticesTakesOldest
  intro s
  rw [← noticesBody_eq s.link]
  rfl

theorem attn_iff (s : State) : s.attn = true ↔ s.link.notices ≠ [] := by
  simp [State.attn]

theorem attn_eq_false_iff (s : State) : s.attn = false ↔ s.link.notices = [] := by
  simp [State.attn]

/-- Settles O13: the line is the set's not being empty (`attn_iff`); a first entry joins it, a count rising leaves its length, and the
reset value is empty. -/
theorem attnLine : Obligations.AttnLine := by
  unfold Obligations.AttnLine
  refine ⟨attn_iff, fun s k o h => ⟨(attn_eq_false_iff s).mpr h, ?_⟩, fun s t _ => attn_eq_false_iff t, fun s k o h => ?_, rfl,
    fun s t h => ?_, fun s t h => ?_⟩
  · rw [attn_iff, raiseNotice_link, postNotice_of_room (by simp [h]) (by simp [h])]
    simp
  · simp [State.attn, postNotice_of_mem h]
  · cases h
    rfl
  · cases h
    rfl

end Sys2Proof.Machine
end

section
/-! How the block of each request answers it: a refusing status comes with the state as it was, and any other with moves of the link alone
beside the block's records (`Answers`).  Then the statements for every request, O3 and O4. -/

namespace Sys2Proof.Machine

/-! ## Answers -/

/-- What a reply may be to a request that found the state `s`. -/
structure Answers (s : State) (r : Reply) : Prop where
  moves : MovesLink s r.state
  refused : refuses r.status = true → r.state = s

theorem Answers.same {s : State} {q : Status} {body : List Byte} : Answers s ⟨s, q, body⟩ := ⟨.refl s, fun _ => rfl⟩

theorem Answers.done {s t : State} {body : List Byte} (h : MovesLink s t) : Answers s ⟨t, .ok, body⟩ := ⟨h, nofun⟩

theorem Answers.ite {c : Prop} [Decidable c] {s : State} {q r : Reply} (hq : Answers s q) (hr : Answers s r) :
    Answers s (if c then q else r) := by
  split
  · exact hq
  · exact hr

/-! ## The checks of a request -/

theorem withRecord_answers {serial check : Nat} {k : Slab → Reply} {s : State} (h : ∀ x, Answers s (k x)) :
    Answers s (withRecord serial check k s) := by
  unfold withRecord
  split
  · exact .same
  · split
    · exact h _
    · exact .same

theorem withJob_answers {job : Nat} {k : Fin 64 → Job → Reply} {s : State} (h : ∀ j b, Answers s (k j b)) :
    Answers s (withJob job k s) := by
  unfold withJob
  split
  · exact .same
  · split
    · exact h ..
    · exact .same

theorem withPiece_answers {job idx : Nat} {k : Job → Piece → Reply} {s : State} (h : ∀ b x, Answers s (k b x)) :
    Answers s (withPiece job idx k s) := by
  refine withJob_answers fun j b => ?_
  split
  · exact .same
  · split
    · exact h ..
    · exact .same

theorem withPlan_answers {plan : Nat} {k : Fin 16 → Plan → Reply} {s : State} (h : ∀ p x, Answers s (k p x)) :
    Answers s (withPlan plan k s) := by
  unfold withPlan
  split
  · exact .same
  · split
    · exact h ..
    · exact .same

theorem withPlanPart_answers {plan first : Nat} {k : Fin 16 → Plan → Reply} {s : State} (h : ∀ p x, Answers s (k p x)) :
    Answers s (withPlanPart plan first k s) :=
  withPlan_answers fun p x => .ite .same (h p x)

theorem withStation_answers {station : Nat} {k : Fin 6 → Reply} {s : State} (h : ∀ st, Answers s (k st)) :
    Answers s (withStation station k s) := .ite .same (h _)

theorem whenRunning_answers {k : Reply} {s : State} (h : Answers s k) : Answers s (whenRunning k s) := .ite .same h

theorem reported_answers {station plan index : Nat} {k : Fin 6 → CutEntry → Reply} {s : State} (h : ∀ st e, Answers s (k st e)) :
    Answers s (withStation station (fun st =>
      match reportedEntry st plan index s with
      | some e => k st e
      | none => refuse s .badState) s) := by
  refine withStation_answers fun st => ?_
  split
  · exact h st _
  · exact .same

/-! ## The Stock Table -/

theorem admitReply_answers (serial check kind material thickness nomLen nomWid head tail near far rack : Nat) (s : State) :
    Answers s (admitReply serial check kind material thickness nomLen nomWid head tail near far rack s) := by
  unfold admitReply
  split_ifs
  iterate 6 exact .same
  exact .done (.refl s)

theorem listStockReply_answers (material minLen minWid selector : Nat) (s : State) :
    Answers s (listStockReply material minLen minWid selector s) := by
  unfold listStockReply
  split
  · exact .same
  · split <;> exact .same

theorem moveReply_answers (rack : Nat) (x : Slab) (s : State) : Answers s (moveReply rack x s) := by
  unfold moveReply
  split_ifs
  iterate 5 exact .same
  exact .done (.refl s)

theorem changeState_answers (before after : SlabState) (x : Slab) (s : State) : Answers s (changeState before after x s) :=
  .ite .same (.done (.refl s))

theorem trimReply_answers (head tail near far : Nat) (x : Slab) (s : State) : Answers s (trimReply head tail near far x s) :=
  .ite .same (.ite .same (.done (.refl s)))

theorem retireReply_answers (x : Slab) (s : State) : Answers s (retireReply x s) :=
  .ite .same (.ite .same (.done (.refl s)))

theorem rackClassReply_answers (rack cls : Nat) (s : State) : Answers s (rackClassReply rack cls s) := by
  unfold rackClassReply
  split
  · exact .same
  · split
    · exact .done (.refl s)
    · exact .same

/-! ## The Job Table and the Cost Unit -/

theorem openJobReply_answers (job level budget hold : Nat) (s : State) : Answers s (openJobReply job level budget hold s) := by
  unfold openJobReply
  split_ifs
  iterate 2 exact .same
  split
  · exact .done (.refl s)
  · exact .same

theorem addPieceReply_answers (len wid grain : Nat) (j : Fin 64) (b : Job) (s : State) :
    Answers s (addPieceReply len wid grain j b s) := by
  unfold addPieceReply
  split
  · exact .same
  split
  · exact .same
  split
  · exact .same
  split
  · exact .same
  split
  · exact .same
  split
  · exact .done (.refl s)
  · exact .same

theorem deletePieceReply_answers (x : Piece) (s : State) : Answers s (deletePieceReply x s) := .ite .same (.done (.refl s))

theorem releasePieceReply_answers (b : Job) (x : Piece) (s : State) : Answers s (releasePieceReply b x s) :=
  .ite .same (.ite .same (.done (.refl s)))

theorem setJobReply_answers (level budget hold : Nat) (j : Fin 64) (b : Job) (s : State) :
    Answers s (setJobReply level budget hold j b s) := by
  unfold setJobReply
  split
  · exact .same
  split
  · exact .same
  have hput : ∀ d, MovesLink s (s.putJob j d) := fun _ => .refl s
  exact .done (.ite ((hput _).raise .budget j) (hput _))

theorem readJobReply_answers (first : Nat) (j : Fin 64) (b : Job) (s : State) : Answers s (readJobReply first j b s) :=
  .ite .same .same

theorem closeJobReply_answers (j : Fin 64) (b : Job) (s : State) : Answers s (closeJobReply j b s) :=
  .ite .same (.ite .same (.ite .same (.done (.refl s))))

theorem materialRateReply_answers (code rate : Nat) (s : State) : Answers s (materialRateReply code rate s) :=
  .ite .same (.done (.refl s))

theorem clearOverheadReply_answers (s : State) : Answers s (clearOverheadReply s) := by
  unfold clearOverheadReply
  split
  · exact .done (.refl s)
  · exact .same

/-! ## The Plan Table -/

theorem openPlanReply_answers (serial check station : Nat) (s : State) : Answers s (openPlanReply serial check station s) := by
  unfold openPlanReply
  split_ifs
  iterate 2 exact .same
  split
  · exact .same
  · split_ifs
    iterate 2 exact .same
    split
    · exact .same
    · exact .done (.refl s)

theorem planAddReply_answers (p : Fin 16) (x : Plan) (b : Job) (y : Piece) (s : State) : Answers s (planAddReply p x b y s) :=
  .ite .same (.ite .same (.ite .same (.ite .same (.ite .same (.done (.refl s))))))

theorem planRemoveReply_answers (p : Fin 16) (x : Plan) (y : Piece) (s : State) : Answers s (planRemoveReply p x y s) :=
  .ite .same (.ite .same (.ite .same (.done (.refl s))))

theorem layoutReply_answers (p : Fin 16) (x : Plan) (s : State) : Answers s (layoutReply p x s) :=
  .ite .same (.ite .same (.ite .same ⟨.refl s, nofun⟩))

theorem commitPlan_movesLink (p : Fin 16) (x : Plan) (kerf : Nat) (l : Layout) (s : State) : MovesLink s (commitPlan p x kerf l s) :=
  countPlacements_movesLink l.placements (State.onJobs (modPieces (l.placements.map fun y : Placement => y.piece) queuePiece)
    (unplanPieces (l.unfit.map fun u : Unfit => u.piece) s))

theorem commitReply_answers (p : Fin 16) (x : Plan) (s : State) : Answers s (commitReply p x s) := by
  unfold commitReply
  split
  · exact .same
  · split_ifs
    iterate 4 exact .same
    exact .done (commitPlan_movesLink ..)
  · exact .same

theorem leaveLayoutWork_movesLink (p : Fin 16) (number : Option Nat) (s : State) : MovesLink s (leaveLayoutWork p number s) := by
  cases number <;> exact .refl s

theorem abandonReply_answers (p : Fin 16) (x : Plan) (s : State) : Answers s (abandonReply p x s) := by
  unfold abandonReply
  split
  · exact .same
  · exact .done (unwindCommitted_movesLink p s)
  · exact .done (leaveLayoutWork_movesLink p _ s)
  · exact .done (.refl s)
  · exact .done (.refl s)

theorem layoutPart_answers (body : Layout → List Byte) (x : Plan) (s : State) : Answers s (layoutPart body x s) := by
  unfold layoutPart
  split <;> exact .same

/-! ## The Station Units -/

theorem onlineReply_answers (maxThick : Nat) (st : Fin 6) (s : State) : Answers s (onlineReply maxThick st s) :=
  .ite .same (.ite .same (.done (.refl s)))

theorem offlineReply_answers (st : Fin 6) (s : State) : Answers s (offlineReply st s) :=
  .ite .same (.ite .same (.ite .same (.done (takeOffline_movesLink st s))))

theorem bladeReply_answers (kerf life : Nat) (st : Fin 6) (s : State) : Answers s (bladeReply kerf life st s) :=
  .ite .same (.ite .same (.ite .same (.done (.refl s))))

theorem loadReply_answers (serial : Nat) (st : Fin 6) (s : State) : Answers s (loadReply serial st s) := by
  have hload : ∀ p b, Answers s (loadChecks p b st s) := fun p b =>
    .ite .same (.ite .same (.done (modPlan_movesLink p startCutting (s.onStock (placeOnBed b st)))))
  unfold loadReply
  split
  · exact .same
  split
  · exact .same
  split
  · exact .same
  split
  · exact .same
  · exact hload ..

theorem askForCut_answers (st : Fin 6) (e : CutEntry) (s : State) : Answers s (askForCut st e s) := by
  have hwater := waterStep_movesLink st (entryLevel e s) s
  exact .ite (.done (hwater.trans (issueCut_movesLink st e _))) ⟨hwater, nofun⟩

theorem nextCutReply_answers (st : Fin 6) (s : State) : Answers s (nextCutReply st s) := by
  unfold nextCutReply
  split
  · exact .same
  split
  · exact .same
  split
  · exact .same
  split
  · exact askForCut_answers ..
  · exact ⟨withdrawRequest_movesLink st s, nofun⟩

theorem cutDoneReply_answers (st : Fin 6) (e : CutEntry) (s : State) : Answers s (cutDoneReply st e s) :=
  .done ((finishCut_movesLink st e s).trans (afterCut_movesLink st e.plan _))

theorem cutSpoiledReply_answers (st : Fin 6) (e : CutEntry) (s : State) : Answers s (cutSpoiledReply st e s) :=
  .done ((spoilCut_movesLink st e s).trans (afterCut_movesLink st e.plan _))

theorem breakReply_answers (st : Fin 6) (s : State) : Answers s (breakReply st s) := by
  unfold breakReply
  split
  · exact .same
  · split
    · exact .done (breakPlan_movesLink ..)
    · exact .same

theorem cancelReply_answers (j : Fin 64) (b : Job) (s : State) : Answers s (cancelReply j b s) :=
  .ite .same (.done (cancelEffects_movesLink j s))

/-! ## Water, the plant and the shop mode -/

theorem setArbiterReply_answers (capacity f0 f1 f2 f3 f4 f5 f6 f7 : Nat) (s : State) :
    Answers s (setArbiterReply capacity f0 f1 f2 f3 f4 f5 f6 f7 s) :=
  .done ((reformFloor_movesLink (s.onArbiter (storeArbiter capacity f0 f1 f2 f3 f4 f5 f6 f7))).trans (arbitrate_movesLink _))

theorem plantStartReply_answers (mode reset : Nat) (s : State) : Answers s (plantStartReply mode reset s) := by
  refine whenRunning_answers ?_
  split
  · exact .done (plantStartEffects_movesLink ..)
  · exact .same

theorem bufferModeReply_answers (value : Nat) (s : State) : Answers s (bufferModeReply value s) := by
  unfold bufferModeReply
  split
  · exact .done (.refl s)
  · exact .same

theorem plantSetReply_answers (name value : Nat) (s : State) : Answers s (plantSetReply name value s) := by
  unfold plantSetReply
  split
  · exact .done (writeSetting_movesLink ..)
  · exact .ite (bufferModeReply_answers value s) .same

theorem takeNotices_movesLink (s : State) : MovesLink s (s.onLink takeNotices) := ⟨.single .taken, rfl⟩

theorem openShopReply_answers (shortMin longMin : Nat) (s : State) : Answers s (openShopReply shortMin longMin s) :=
  .ite .same (.done (changeMode_movesLink .running (s.onEngine (storeMinimums shortMin longMin))))

theorem closeShopReply_answers (s : State) : Answers s (closeShopReply s) :=
  .ite .same (.ite .same (.done (closeShop_movesLink s)))

/-! ## Every request -/

/-- What a request whose body has `size` bytes makes of the state: its frame is taken, its block answers, the response is placed. -/
def Taken (s : State) (size : Nat) (t : State) : Prop :=
  ∃ r, Answers (takeFrame (size + 2) s) r ∧ t = putResponse r.status r.body r.state

theorem serve_taken {size : Nat} {work : State → Reply} {s t : State} (hexec : serve size work s = .next t)
    (h : ∀ u, Answers u (work u)) : Taken s size t := by
  rw [serve_eq] at hexec
  cases hexec
  exact ⟨_, h _, rfl⟩

/-- R180: every request of the table is served, with the size of its own frame's body. -/
theorem exec_request {i : Instr} {k : Nat} {fs : List (Nat × Nat)} {s t : State} (h : requestFields i = some (k, fs))
    (hexec : exec i s = .next t) : Taken s (fs.map Prod.fst).sum t := by
  cases i with
  | admitSlab =>
    cases h
    rw [exec, execAdmitSlab] at hexec
    exact serve_taken hexec fun u => admitReply_answers ..
  | findSlab =>
    cases h
    rw [exec, execFindSlab] at hexec
    exact serve_taken hexec fun u => withRecord_answers fun x => .same
  | listStock =>
    cases h
    rw [exec, execListStock] at hexec
    exact serve_taken hexec fun u => listStockReply_answers ..
  | moveSlab =>
    cases h
    rw [exec, execMoveSlab] at hexec
    exact serve_taken hexec fun u => withRecord_answers fun x => moveReply_answers ..
  | holdSlab =>
    cases h
    rw [exec, execHoldSlab] at hexec
    exact serve_taken hexec fun u => withRecord_answers fun x => changeState_answers ..
  | releaseSlab =>
    cases h
    rw [exec, execReleaseSlab] at hexec
    exact serve_taken hexec fun u => withRecord_answers fun x => changeState_answers ..
  | trimSlab =>
    cases h
    rw [exec, execTrimSlab] at hexec
    exact serve_taken hexec fun u => withRecord_answers fun x => trimReply_answers ..
  | retireSlab =>
    cases h
    rw [exec, execRetireSlab] at hexec
    exact serve_taken hexec fun u => withRecord_answers fun x => retireReply_answers ..
  | setRackClass =>
    cases h
    rw [exec, execSetRackClass] at hexec
    exact serve_taken hexec fun u => rackClassReply_answers ..
  | openJob =>
    cases h
    rw [exec, execOpenJob] at hexec
    exact serve_taken hexec fun u => openJobReply_answers ..
  | addPiece =>
    cases h
    rw [exec, execAddPiece] at hexec
    exact serve_taken hexec fun u => withJob_answers fun j b => addPieceReply_answers ..
  | deletePiece =>
    cases h
    rw [exec, execDeletePiece] at hexec
    exact serve_taken hexec fun u => withPiece_answers fun b x => deletePieceReply_answers ..
  | releasePiece =>
    cases h
    rw [exec, execReleasePiece] at hexec
    exact serve_taken hexec fun u => withPiece_answers fun b x => releasePieceReply_answers ..
  | setJob =>
    cases h
    rw [exec, execSetJob] at hexec
    exact serve_taken hexec fun u => withJob_answers fun j b => setJobReply_answers ..
  | readJob =>
    cases h
    rw [exec, execReadJob] at hexec
    exact serve_taken hexec fun u => withJob_answers fun j b => readJobReply_answers ..
  | closeJob =>
    cases h
    rw [exec, execCloseJob] at hexec
    exact serve_taken hexec fun u => withJob_answers fun j b => closeJobReply_answers ..
  | openPlan =>
    cases h
    rw [exec, execOpenPlan] at hexec
    exact serve_taken hexec fun u => openPlanReply_answers ..
  | planAdd =>
    cases h
    rw [exec, execPlanAdd] at hexec
    exact serve_taken hexec fun u => withPlan_answers fun p x => withPiece_answers fun b y => planAddReply_answers ..
  | planRemove =>
    cases h
    rw [exec, execPlanRemove] at hexec
    exact serve_taken hexec fun u => withPlan_answers fun p x => withPiece_answers fun b y => planRemoveReply_answers ..
  | layout =>
    cases h
    rw [exec, execLayout] at hexec
    exact serve_taken hexec fun u => withPlan_answers fun p x => layoutReply_answers ..
  | commit =>
    cases h
    rw [exec, execCommit] at hexec
    exact serve_taken hexec fun u => withPlan_answers fun p x => commitReply_answers ..
  | abandon =>
    cases h
    rw [exec, execAbandon] at hexec
    exact serve_taken hexec fun u => withPlan_answers fun p x => abandonReply_answers ..
  | readPlanSummary =>
    cases h
    rw [exec, execReadPlanSummary] at hexec
    exact serve_taken hexec fun u => withPlanPart_answers fun p x => .same
  | readPlanPieces =>
    cases h
    rw [exec, execReadPlanPieces] at hexec
    exact serve_taken hexec fun u => withPlanPart_answers fun p x => .same
  | readPlanStrips =>
    cases h
    rw [exec, execReadPlanStrips] at hexec
    exact serve_taken hexec fun u => withPlanPart_answers fun p x => layoutPart_answers ..
  | readPlanPlacements =>
    cases h
    rw [exec, execReadPlanPlacements] at hexec
    exact serve_taken hexec fun u => withPlanPart_answers fun p x => layoutPart_answers ..
  | readPlanUnfit =>
    cases h
    rw [exec, execReadPlanUnfit] at hexec
    exact serve_taken hexec fun u => withPlanPart_answers fun p x => layoutPart_answers ..
  | stationOnline =>
    cases h
    rw [exec, execStationOnline] at hexec
    exact serve_taken hexec fun u => withStation_answers fun st => whenRunning_answers (onlineReply_answers ..)
  | stationOffline =>
    cases h
    rw [exec, execStationOffline] at hexec
    exact serve_taken hexec fun u => withStation_answers fun st => offlineReply_answers ..
  | setBlade =>
    cases h
    rw [exec, execSetBlade] at hexec
    exact serve_taken hexec fun u => withStation_answers fun st => bladeReply_answers ..
  | loadSlab =>
    cases h
    rw [exec, execLoadSlab] at hexec
    exact serve_taken hexec fun u => .ite .same (withStation_answers fun st => whenRunning_answers (loadReply_answers ..))
  | nextCut =>
    cases h
    rw [exec, execNextCut] at hexec
    exact serve_taken hexec fun u => withStation_answers fun st => whenRunning_answers (nextCutReply_answers ..)
  | cutDone =>
    cases h
    rw [exec, execCutDone] at hexec
    exact serve_taken hexec fun u => reported_answers fun st e => cutDoneReply_answers ..
  | setWaterStation =>
    cases h
    rw [exec, execSetWaterStation] at hexec
    exact serve_taken hexec fun u => withStation_answers fun st => .done (.refl u)
  | setWaterArbiter =>
    cases h
    rw [exec, execSetWaterArbiter] at hexec
    exact serve_taken hexec fun u => setArbiterReply_answers ..
  | readWaterStation =>
    cases h
    rw [exec, execReadWaterStation] at hexec
    exact serve_taken hexec fun u => withStation_answers fun st => .same
  | readWaterArbiter =>
    cases h
    rw [exec, execReadWaterArbiter] at hexec
    exact serve_taken hexec fun u => .same
  | plantStart =>
    cases h
    rw [exec, execPlantStart] at hexec
    exact serve_taken hexec fun u => plantStartReply_answers ..
  | plantStop =>
    cases h
    rw [exec, execPlantStop] at hexec
    exact serve_taken hexec fun u => .done (stopPlant_movesLink u)
  | plantResetCycle =>
    cases h
    rw [exec, execPlantResetCycle] at hexec
    exact serve_taken hexec fun u => .done (resetCycle_movesLink u)
  | plantSetBufferMode =>
    cases h
    rw [exec, execPlantSetBufferMode] at hexec
    exact serve_taken hexec fun u => bufferModeReply_answers ..
  | plantSet =>
    cases h
    rw [exec, execPlantSet] at hexec
    exact serve_taken hexec fun u => plantSetReply_answers ..
  | readPlant =>
    cases h
    rw [exec, execReadPlant] at hexec
    exact serve_taken hexec fun u => .same
  | setMaterialRate =>
    cases h
    rw [exec, execSetMaterialRate] at hexec
    exact serve_taken hexec fun u => materialRateReply_answers ..
  | setWaterRate =>
    cases h
    rw [exec, execSetWaterRate] at hexec
    exact serve_taken hexec fun u => .done (.refl u)
  | setMachineRate =>
    cases h
    rw [exec, execSetMachineRate] at hexec
    exact serve_taken hexec fun u => withStation_answers fun st => .done (.refl u)
  | readCost =>
    cases h
    rw [exec, execReadCost] at hexec
    exact serve_taken hexec fun u => withJob_answers fun j b => .same
  | clearOverhead =>
    cases h
    rw [exec, execClearOverhead] at hexec
    exact serve_taken hexec fun u => clearOverheadReply_answers u
  | cutSpoiled =>
    cases h
    rw [exec, execCutSpoiled] at hexec
    exact serve_taken hexec fun u => reported_answers fun st e => cutSpoiledReply_answers ..
  | breakSlab =>
    cases h
    rw [exec, execBreakSlab] at hexec
    exact serve_taken hexec fun u => withStation_answers fun st => breakReply_answers ..
  | cancelJob =>
    cases h
    rw [exec, execCancelJob] at hexec
    exact serve_taken hexec fun u => withJob_answers fun j b => cancelReply_answers ..
  | readNotices =>
    cases h
    rw [exec, execReadNotices] at hexec
    exact serve_taken hexec fun u => .done (takeNotices_movesLink u)
  | openShop =>
    cases h
    rw [exec, execOpenShop] at hexec
    exact serve_taken hexec fun u => openShopReply_answers ..
  | closeShop =>
    cases h
    rw [exec, execCloseShop] at hexec
    exact serve_taken hexec fun u => closeShopReply_answers u
  | _ => cases h

/-- Settles O3: a refusing answer leaves the state as the taking of the frame made it (`Answers.refused`). -/
theorem refusedChangesNothing : Obligations.RefusedChangesNothing := by
  unfold Obligations.RefusedChangesNothing
  intro i s t r hi hexec hr hrefuses
  obtain ⟨⟨k, fs⟩, hfields⟩ := Option.isSome_iff_exists.mp hi
  obtain ⟨q, hq, rfl⟩ := exec_request hfields hexec
  cases hr
  rw [hq.refused hrefuses]
  rfl

/-! ## The frame of a request on the link (R177, R178, R181) -/

theorem length_be (w n : Nat) : (be w n).length = w := by
  induction w generalizing n with
  | zero => rfl
  | succ w ih => rw [be, List.length_append, ih]; rfl

theorem length_encodeFields (fs : List (Nat × Nat)) : (encodeFields fs).length = (fs.map Prod.fst).sum := by
  induction fs with
  | nil => rfl
  | cons f fs ih =>
    rw [List.map_cons, List.sum_cons, ← ih, ← length_be f.1 f.2]
    exact List.length_append

theorem encodeRequest_eq_some {i : Instr} {bytes : List Byte} (h : encodeRequest i = some bytes) :
    ∃ k fs, requestFields i = some (k, fs) ∧ bytes = be 1 ((fs.map Prod.fst).sum + 1) ++ be 1 k ++ encodeFields fs := by
  obtain ⟨⟨k, fs⟩, hfields, rfl⟩ := Option.map_eq_some_iff.mp h
  exact ⟨k, fs, hfields, by rw [length_encodeFields]⟩

theorem length_of_encodeRequest {i : Instr} {k : Nat} {fs : List (Nat × Nat)} {bytes : List Byte} (h : requestFields i = some (k, fs))
    (hb : encodeRequest i = some bytes) : bytes.length = (fs.map Prod.fst).sum + 2 := by
  obtain ⟨k', fs', h', rfl⟩ := encodeRequest_eq_some hb
  cases h.symm.trans h'
  simp only [List.length_append, length_be, length_encodeFields]
  omega

/-- No move of the link touches the record of the data line. -/
theorem MovesLink.miso {s t : State} (h : MovesLink s t) : t.link.miso = s.link.miso :=
  h.keeps (P := fun l => l.miso = s.link.miso) (fun l m hmove hl => by
    cases hmove with
    | posted k o => exact (postNotice_miso k o l).trans hl
    | taken => exact hl
    | moded m => exact hl) rfl

/-- Settles O4: the block's work leaves the data line's record and the queue (`MovesLink`), and then the response is placed. -/
theorem requestIsAnswered : Obligations.RequestIsAnswered := by
  unfold Obligations.RequestIsAnswered
  intro i s t bytes hbytes hexec
  obtain ⟨k, fs, hfields, -⟩ := encodeRequest_eq_some hbytes
  obtain ⟨r, hr, rfl⟩ := exec_request hfields hexec
  have hqueue : r.state.pending = s.pending := hr.moves.2
  refine ⟨rfl, ?_, ?_⟩
  · simp [State.rdy, hqueue]
  · rw [length_of_encodeRequest hfields hbytes]
    exact hr.moves.miso

end Sys2Proof.Machine
end

section
/-! What the events do to the link, and the form of the notice set at every step (O11); then the transactions without a request (O9) and
RESET (O5). -/

namespace Sys2Proof.Machine

/-! ## The Timebase, the stations' events and the Layout Engine -/

theorem sampleStation_movesLink (spin : BitVec 6) (s : State) (st : Fin 6) : MovesLink s (sampleStation spin s st) :=
  .ite (.ite (.refl s) (startHoldIf_movesLink st (State.onStation st _ (s.onStation st _)))) (.refl s)

theorem sampleAll_movesLink (spin : BitVec 6) (s : State) : MovesLink s (sampleAll spin s) :=
  .foldl (sampleStation_movesLink spin) allStations (s.onPins fun p => { p with spin := spin })

theorem tickStations_movesLink (s : State) : MovesLink s (tickStations s) :=
  .foldl (f := fun t st => t.onStation st (tickStation (s.valve st) (s.permit st))) (fun t _ => .refl t) allStations s

theorem sumpChanged_movesLink (s : State) : MovesLink s (sumpChanged s) := by
  have hband := raiseNotice_movesLink .band 0 s
  have hposted := MovesLink.ite (c := s.plant.sump.accepted = 7) (hband.raise .sumpHigh 0) hband
  exact hposted.trans <| (reformFloor_movesLink _).trans (.ite (startTest_movesLink _) (.refl _))

theorem settlingChanged_movesLink (s : State) : MovesLink s (settlingChanged s) :=
  (raiseNotice_movesLink .band 1 s).trans (.ite (fillTest_movesLink _) (.ite (decantEndTest_movesLink _) (.refl _)))

theorem cleanChanged_movesLink (s : State) : MovesLink s (cleanChanged s) := by
  have hband := raiseNotice_movesLink .band 2 s
  have hwater := MovesLink.ite (c := s.plant.clean.accepted = 0) (hband.trans (revokeAll_movesLink _))
    (hband.trans ((reformFloor_movesLink _).trans (arbitrate_movesLink _)))
  exact hwater.trans (.ite (cleanTest_movesLink _) (.refl _))

theorem turbidityChanged_movesLink (s : State) : MovesLink s (turbidityChanged s) := .ite (decantEndTest_movesLink s) (.refl s)

theorem sampleSump_movesLink (v : Fin 8) (s : State) : MovesLink s (sampleSump v s) :=
  .ite (.refl s) (sumpChanged_movesLink (s.onPlant fun p => { p with sump := sampleFilter v p.sump }))

theorem sampleSettling_movesLink (v : Fin 8) (s : State) : MovesLink s (sampleSettling v s) :=
  .ite (.refl s) (settlingChanged_movesLink (s.onPlant fun p => { p with settling := sampleFilter v p.settling }))

theorem sampleClean_movesLink (v : Fin 8) (s : State) : MovesLink s (sampleClean v s) :=
  .ite (.refl s) (cleanChanged_movesLink (s.onPlant fun p => { p with clean := sampleFilter v p.clean }))

theorem sampleTurbidity_movesLink (v : Bool) (s : State) : MovesLink s (sampleTurbidity v s) :=
  .ite (.refl s) (turbidityChanged_movesLink (s.onPlant fun p => { p with turbidity := sampleFilter v p.turbidity }))

theorem decisecond_movesLink (sump settling clean : Fin 8) (cloudy : Bool) (s : State) :
    MovesLink s (decisecond sump settling clean cloudy s) :=
  (tickStations_movesLink (readPins sump settling clean cloudy s)).trans <| (sampleSump_movesLink ..).trans <|
    (sampleSettling_movesLink ..).trans <| (sampleClean_movesLink ..).trans (sampleTurbidity_movesLink ..)

theorem takeDryRun_movesLink (st : Fin 6) (s : State) : MovesLink s (takeDryRun st s) :=
  .ite (raiseNotice_movesLink .dryRun st (s.onStation st _)) (.refl s)

theorem takeBladeLife_movesLink (st : Fin 6) (s : State) : MovesLink s (takeBladeLife st s) :=
  .ite (raiseNotice_movesLink .bladeLife st (s.onStation st _)) (.refl s)

theorem expireHold_movesLink (st : Fin 6) (s : State) : MovesLink s (expireHold st s) :=
  .ite (releaseIfHeld_movesLink st (s.onStation st stopHold)) (.refl s)

theorem takeHead_movesLink (s : State) : MovesLink s (takeHead s) := by
  unfold takeHead
  split
  · split
    · split
      · split <;> exact .refl s
      · exact .refl s
    · exact .refl s
  · exact .refl s

theorem handOver_movesLink (p : Fin 16) (number kerf : Nat) (l : Layout) (s : State) : MovesLink s (handOver p number kerf l s) := by
  unfold handOver
  split
  · exact .refl s
  · exact .ite (.refl s) (.ite (.ite (raiseNotice_movesLink .laid p (s.putPlan p _)) (.refl s)) (.refl s))

theorem completeComputation_movesLink (s : State) : MovesLink s (completeComputation s) := by
  unfold completeComputation
  split
  · exact handOver_movesLink _ _ _ _ (s.onEngine fun e => { e with current := none })
  · exact .refl s

/-! ## Every step (R182) -/

theorem MovesLink.noticesOk_next {s u t : State} (h : MovesLink s u) (hexec : (.next u : Host.Outcome State Fault Refusal) = .next t)
    (hs : NoticesOk s.link) : NoticesOk t.link := by
  cases hexec
  exact h.noticesOk hs

/-- The marks of a request's transaction are no part of the notice set. -/
theorem Taken.noticesOk {s t : State} {size : Nat} (h : Taken s size t) (hs : NoticesOk s.link) : NoticesOk t.link := by
  obtain ⟨r, hr, rfl⟩ := h
  exact hr.moves.noticesOk (s := takeFrame (size + 2) s) hs

/-- A frame refused is answered with the notices as they were. -/
theorem answerBadFrame_notices (bytes : List Byte) (s : State) : (answerBadFrame bytes s).link.notices = s.link.notices := by
  unfold answerBadFrame
  split
  · rfl
  · rfl
  · rfl
  · rfl
  · rename_i plan _
    obtain ⟨q, hq, -⟩ := withPlan_refuses plan (takeFrame bytes.length s)
    rw [answerFrame, hq]
    rfl
  · rfl

theorem NoticesOk.of_notices {l m : Link} (h : NoticesOk l) (hm : m.notices = l.notices) : NoticesOk m := by
  unfold NoticesOk
  rwa [hm]

theorem noticesOk_reset : NoticesOk Link.reset := ⟨Nat.zero_le _, nofun, .nil⟩

/-- An event changes the link by moves, by its transaction's marks, or to the reset value. -/
theorem exec_event_noticesOk {i : Instr} {s t : State} (hi : requestFields i = none) (hexec : exec i s = .next t)
    (hs : NoticesOk s.link) : NoticesOk t.link := by
  cases i with
  | badFrame bytes =>
    cases hexec
    exact hs.of_notices (answerBadFrame_notices bytes s)
  | responseRead n =>
    cases hexec
    exact hs
  | requestDiscarded n =>
    cases hexec
    unfold discardRequest
    split <;> exact hs
  | reset =>
    cases hexec
    exact noticesOk_reset
  | powerOn =>
    cases hexec
    exact noticesOk_reset
  | sampleTick spin => exact (sampleAll_movesLink spin s).noticesOk_next hexec hs
  | decisecondTick sump settling clean cloudy => exact (decisecond_movesLink sump settling clean cloudy s).noticesOk_next hexec hs
  | dryRun st => exact (takeDryRun_movesLink st s).noticesOk_next hexec hs
  | bladeLife st => exact (takeBladeLife_movesLink st s).noticesOk_next hexec hs
  | holdTimerExpiry st => exact (expireHold_movesLink st s).noticesOk_next hexec hs
  | plantTick => exact (plantTick_movesLink s).noticesOk_next hexec hs
  | fillTimeout => exact (timeoutTest_movesLink s).noticesOk_next hexec hs
  | doseEnd => exact (doseEnd_movesLink s).noticesOk_next hexec hs
  | settleEnd => exact (settleEnd_movesLink s).noticesOk_next hexec hs
  | sludgeEnd => exact (sludgeEnd_movesLink s).noticesOk_next hexec hs
  | engineTake => exact (takeHead_movesLink s).noticesOk_next hexec hs
  | layoutComplete => exact (completeComputation_movesLink s).noticesOk_next hexec hs
  | _ => cases hi

theorem exec_noticesOk {i : Instr} {s t : State} (hexec : exec i s = .next t) (hs : NoticesOk s.link) : NoticesOk t.link := by
  cases hi : requestFields i with
  | none => exact exec_event_noticesOk hi hexec hs
  | some f => exact (exec_request hi hexec).noticesOk hs

/-- Settles O11: a request's block and an event change the link by moves, and each kind of move keeps the form (`LinkMove.noticesOk`). -/
theorem noticeSetKeepsForm : Obligations.NoticeSetKeepsForm := by
  unfold Obligations.NoticeSetKeepsForm
  intro s t hs hstep
  unfold step at hstep
  split at hstep
  · cases hstep
    exact hs
  · rename_i i rest _
    exact exec_noticesOk (s := s.withQueue rest) hstep hs

/-! ## Null frames and discarded requests (R178, R179, R181) -/

theorem rdy_eq_false_iff (s : State) : s.rdy = false ↔ s.link.response = none ∨ s.link.held = true := by
  cases h : s.link.response <;> simp [State.rdy, h]

theorem exec_responseRead_of_ready {s : State} {r : Response} (n : Nat) (hr : s.link.response = some r) (hfree : s.link.held = false) :
    exec (.responseRead n) s = .next { s with link := { s.link with
      miso := r.frame.take n ++ List.replicate (n - r.frame.length) 0
      response := if r.frame.length ≤ n then none else some r } } := by
  rw [exec, execResponseRead, readResponse, State.onLink, presented_of_ready n hr hfree]
  simp only [hr, hfree, Bool.not_false, Bool.true_and, decide_eq_true_eq]

theorem exec_responseRead_of_not_ready {s : State} (n : Nat) (h : s.link.response = none ∨ s.link.held = true) :
    exec (.responseRead n) s = .next { s with link := { s.link with miso := List.replicate n 0 } } := by
  rw [exec, execResponseRead, readResponse, State.onLink, presented_of_not_ready n ((rdy_eq_false_iff s).mpr h)]
  obtain hnone | hheld := h
  · simp only [hnone]
  · cases hr : s.link.response <;> simp [hheld, hr]

/-- Settles O9: with RDY active the response's frame is presented, and leaves the buffer when it fits; with RDY inactive zeros are. -/
theorem transactionsWithoutRequest : Obligations.TransactionsWithoutRequest := by
  unfold Obligations.TransactionsWithoutRequest
  refine fun n s => ⟨fun r hr hfree hlen => ?_, fun r hr hfree hlen => ?_, exec_responseRead_of_not_ready n,
    fun hheld => congrArg _ (discardRequest_of_held n hheld), fun hfree => congrArg _ (discardRequest_of_free n hfree)⟩
  · rw [exec_responseRead_of_ready n hr hfree, if_pos hlen, List.take_of_length_le hlen]
  · rw [exec_responseRead_of_ready n hr hfree, if_neg (Nat.not_le.mpr hlen), Nat.sub_eq_zero_of_le (Nat.le_of_lt hlen), ← hr]
    simp

/-! ## RESET (R188) -/

theorem miso_of_resetTransactions {clocked : List Nat} {n : Nat} (h : clocked.getLast? = some n) (s : State) :
    (clocked.foldl (fun u n => resetTransaction n u) s).link.miso = List.replicate n 0 := by
  obtain ⟨l, rfl⟩ := List.getLast?_eq_some_iff.mp h
  rw [List.foldl_append]
  rfl

/-- Settles O5: transactions while RESET is held change the data line's record alone (`resetTransactions_state`), every output is inactive
(`outputs_of_reset`), and the release leaves only the levels and the queue. -/
theorem resetCommands : Obligations.ResetCommands := by
  unfold Obligations.ResetCommands
  refine fun s => ⟨rfl, rfl, fun clocked h hh => ?_⟩
  have hstate : h = { s with
      pins := { s.pins with reset := true }
      link := { s.link with response := none, held := false, miso := h.link.miso } } := by
    rw [hh]
    exact resetTransactions_state clocked (assertReset s)
  have hout : h.outputs = Outputs.inactive := outputs_of_reset (by rw [hstate])
  rw [hout]
  refine ⟨hstate, fun n hn => hh ▸ miso_of_resetTransactions hn _, fun st => ?_, rfl, rfl, rfl, rfl, rfl, rfl, ?_⟩
  · simp [Outputs.inactive, Vector.get_eq_getElem]
  · rw [hstate]
    rfl

end Sys2Proof.Machine
end

section
/-! The request frames (R177, R180, R189): big-endian fields, the fields of a kind, and that reading and writing a frame undo each other
(O6, O7). -/

namespace Sys2Proof.Machine

/-! ## Big-endian fields (R177) -/

theorem ofBe_concat (bs : List Byte) (b : Byte) : ofBe (bs ++ [b]) = 256 * ofBe bs + b.toNat := by
  simp [ofBe]

theorem ofBe_be {w n : Nat} (h : n < 256 ^ w) : ofBe (be w n) = n := by
  induction w generalizing n with
  | zero =>
    obtain rfl : n = 0 := by simpa using h
    rfl
  | succ w ih =>
    have hhigh : n / 256 < 256 ^ w := Nat.div_lt_of_lt_mul (by rwa [Nat.pow_succ'] at h)
    rw [be, ofBe_concat, ih hhigh, BitVec.toNat_ofNat]
    omega

theorem ofBe_lt (bs : List Byte) : ofBe bs < 256 ^ bs.length := by
  induction bs using List.reverseRecOn with
  | nil => exact Nat.one_pos
  | append_singleton bs b ih =>
    have hb : b.toNat < 256 := b.isLt
    rw [ofBe_concat, List.length_append, List.length_singleton, Nat.pow_succ]
    omega

theorem be_ofBe (bs : List Byte) : be bs.length (ofBe bs) = bs := by
  induction bs using List.reverseRecOn with
  | nil => rfl
  | append_singleton bs b ih =>
    have hb : b.toNat < 256 := b.isLt
    rw [List.length_append, List.length_singleton, be, ofBe_concat, show (256 * ofBe bs + b.toNat) / 256 = ofBe bs by omega, ih]
    congr 2
    apply BitVec.eq_of_toNat_eq
    rw [BitVec.toNat_ofNat]
    omega

theorem be_one (b : Byte) : be 1 b.toNat = [b] := by
  simpa [ofBe] using be_ofBe [b]

/-! ## Bodies: fields split and joined -/

theorem splitFields_encodeFields {fs : List (Nat × Nat)} (h : fieldsFit fs = true) :
    splitFields (fs.map Prod.fst) (encodeFields fs) = fs.map Prod.snd := by
  induction fs with
  | nil => rfl
  | cons f fs ih =>
    obtain ⟨hf, hfs⟩ : f.2 < 256 ^ f.1 ∧ fieldsFit fs = true := by simpa [fieldsFit] using h
    have hbody : encodeFields (f :: fs) = be f.1 f.2 ++ encodeFields fs := rfl
    rw [List.map_cons, List.map_cons, splitFields, hbody, List.take_left' (length_be ..), List.drop_left' (length_be ..), ofBe_be hf,
      ih hfs]

theorem encodeFields_splitFields {ws : List Nat} {bs : List Byte} (h : bs.length = ws.sum) :
    encodeFields (ws.zip (splitFields ws bs)) = bs ∧ fieldsFit (ws.zip (splitFields ws bs)) = true := by
  induction ws generalizing bs with
  | nil => exact ⟨(List.length_eq_zero_iff.mp h).symm, rfl⟩
  | cons w ws ih =>
    rw [List.sum_cons] at h
    have htake : (bs.take w).length = w := by
      rw [List.length_take]
      omega
    obtain ⟨hencode, hfit⟩ := ih (bs := bs.drop w) (by rw [List.length_drop]; omega)
    have hfirst : be w (ofBe (bs.take w)) = bs.take w := by
      simpa only [htake] using be_ofBe (bs.take w)
    have hlt : ofBe (bs.take w) < 256 ^ w := by
      simpa only [htake] using ofBe_lt (bs.take w)
    constructor
    · calc _ = be w (ofBe (bs.take w)) ++ encodeFields (ws.zip (splitFields ws (bs.drop w))) := rfl
        _ = bs := by rw [hfirst, hencode, List.take_append_drop]
    · simpa [fieldsFit, splitFields, hlt] using hfit

/-! ## The fields of a request and back (R180, R189) -/

/-- The fields of every request name it. -/
theorem requestOf_fields {i : Instr} {k : Nat} {fs : List (Nat × Nat)} (h : requestFields i = some (k, fs))
    (hshape : shapeFits i = true) : requestOf k (fs.map Prod.snd) = some i := by
  cases i with
  | plantSet name value =>
    cases h
    exact congrArg some (if_neg (by simpa [shapeFits] using hshape))
  | _ => cases h <;> rfl

/-- READ_PLAN's part is one of its request's fields. -/
theorem requestFields_planPart {plan part first : Nat} {i : Instr} (h : planPart plan part first = some i) :
    requestFields i = some (0x17, [(1, plan), (1, part), (1, first)]) ∧ shapeFits i = true := by
  unfold planPart at h
  split at h <;> cases h <;> exact ⟨rfl, rfl⟩

theorem requestFields_plantSetting (name value : Nat) :
    requestFields (plantSetting name value) = some (0x23, [(1, name), (2, value)]) ∧ shapeFits (plantSetting name value) = true := by
  unfold plantSetting
  split
  · rename_i h
    subst h
    exact ⟨rfl, rfl⟩
  · rename_i h
    exact ⟨rfl, by simpa [shapeFits] using h⟩

/-- The request that the fields of a kind of one form name has these fields. -/
theorem requestFields_of_kind {k : Nat} {body : List Byte} {i : Instr} (hpos : 1 ≤ k) (hmax : k ≤ 47) (hforms : hasForms k = false)
    (h : requestOf k (splitFields (kindWidths k) body) = some i) :
    requestFields i = some (k, (kindWidths k).zip (splitFields (kindWidths k) body)) ∧ shapeFits i = true := by
  interval_cases k
  all_goals try (cases h; exact ⟨rfl, rfl⟩)
  · exact requestFields_planPart h
  · cases hforms
  · cases hforms
  · exact Option.some.inj h ▸ requestFields_plantSetting ..

/-- The byte that decides the form of a body (R180). -/
def formByte (body : List Byte) : Nat :=
  ofBe (body.take 1)

/-- The request that the fields of a form name has these fields, the form's own byte among them. -/
theorem requestFields_of_form {k : Nat} {body : List Byte} {ws : List Nat} {i : Instr} (hws : formWidths k (formByte body) = some ws)
    (h : requestOf k (splitFields ws body) = some i) :
    requestFields i = some (k, ws.zip (splitFields ws body)) ∧ shapeFits i = true := by
  generalize hb : formByte body = b at hws
  have hfields : ∀ us, splitFields (1 :: us) body = b :: splitFields us (body.drop 1) := fun us => by rw [← hb]; rfl
  unfold formWidths at hws
  split at hws
  iterate 4
    · cases hws
      rw [hfields] at h ⊢
      cases h
      exact ⟨rfl, rfl⟩
  · cases hws

/-! ## The frame checks passed (R180) -/

/-- R180: the widths that the frame check of a kind reads a body by. -/
def bodyWidths (k : Nat) (body : List Byte) : Option (List Nat) :=
  if hasForms k then formWidths k (formByte body) else some (kindWidths k)

theorem formWidths_sum_pos {k b : Nat} {ws : List Nat} (h : formWidths k b = some ws) : 0 < ws.sum := by
  unfold formWidths at h
  split at h <;> cases h <;> decide

theorem readBody_eq_request_iff {k : Nat} {vs : List Nat} {i : Instr} : readBody k vs = .request i ↔ requestOf k vs = some i := by
  unfold readBody
  cases requestOf k vs <;> simp

/-- A body is read as a request by the widths of its kind or form, when it has their size. -/
theorem readSized_eq_request_iff {k : Nat} {body : List Byte} {i : Instr} : readSized k body = .request i ↔
    ∃ ws, bodyWidths k body = some ws ∧ body.length = ws.sum ∧ requestOf k (splitFields ws body) = some i := by
  have hsized : ∀ ws, (if body.length = ws.sum then readBody k (splitFields ws body) else .badLength) = .request i ↔
      body.length = ws.sum ∧ requestOf k (splitFields ws body) = some i := fun ws => by
    rw [← readBody_eq_request_iff]
    split <;> simp [*]
  cases hforms : hasForms k with
  | false => simp [readSized, bodyWidths, hforms, hsized]
  | true =>
    cases body with
    | nil =>
      simp only [readSized_of_noForm hforms, bodyWidths, hforms, if_true]
      refine ⟨nofun, fun ⟨ws, hws, hlen, _⟩ => ?_⟩
      exact absurd hlen (Nat.ne_of_lt (formWidths_sum_pos hws))
    | cons b rest =>
      have hbyte : formByte (b :: rest) = b.toNat := by simp [formByte, ofBe]
      unfold readSized bodyWidths
      rw [if_pos hforms, if_pos hforms, hbyte]
      cases hform : formWidths k b.toNat with
      | none => simp [hform]
      | some ws => simpa [hform] using hsized ws

/-- A frame is read as a request when its length byte counts the bytes after it, its kind is known, and its body is read as the
request. -/
theorem readFrame_eq_request_iff {bytes : List Byte} {i : Instr} : readFrame bytes = .request i ↔
    ∃ k body, bytes = be 1 (body.length + 1) ++ be 1 k ++ body ∧ body.length ≤ 62 ∧ 1 ≤ k ∧ k ≤ 47 ∧
      readSized k body = .request i := by
  constructor
  · intro h
    have hnull : readFrame bytes ≠ .null := by rw [h]; exact nofun
    match bytes with
    | [] => cases h
    | [n] =>
      rw [readFrame_of_short (by simp) hnull] at h
      cases h
    | n :: kind :: body =>
      rw [readFrame_of_kind hnull] at h
      split at h
      · cases h
      rename_i hlen
      split at h
      · cases h
      rename_i hkind
      obtain ⟨hmax, hsize⟩ := not_or.mp hlen
      obtain ⟨hzero, hknown⟩ := not_or.mp hkind
      have hn : n.toNat = body.length + 1 := by
        simp only [List.length_cons] at hsize
        omega
      have hpos : 0 < kind.toNat := Nat.pos_of_ne_zero fun h0 => hzero (BitVec.eq_of_toNat_eq h0)
      refine ⟨kind.toNat, body, ?_, by omega, hpos, by omega, h⟩
      rw [← hn, be_one, be_one]
      rfl
  · rintro ⟨k, body, rfl, hlen, hpos, hmax, hsized⟩
    have hn : (BitVec.ofNat 8 (body.length + 1)).toNat = body.length + 1 := by
      rw [BitVec.toNat_ofNat]
      omega
    have hk : (BitVec.ofNat 8 k).toNat = k := by
      rw [BitVec.toNat_ofNat]
      omega
    have hne : ∀ {m : Nat}, (BitVec.ofNat 8 m).toNat = m → 1 ≤ m → BitVec.ofNat 8 m ≠ 0 := fun hm h1 h0 => by
      rw [h0] at hm
      exact absurd hm (Nat.ne_of_lt h1)
    have hbytes : be 1 (body.length + 1) ++ be 1 k ++ body = BitVec.ofNat 8 (body.length + 1) :: BitVec.ofNat 8 k :: body := rfl
    rw [hbytes, readFrame, if_neg (hne hn (by omega))]
    rw [if_neg (by simp only [hn, List.length_cons]; omega), if_neg (by rw [hk]; exact not_or.mpr ⟨hne hk hpos, by omega⟩), hk]
    exact hsized

/-! ## The round trip -/

/-- R177, R180, R189, of every command. -/
theorem requestFrame (i : Instr) : Laws.RequestFrame.Statement i := by
  cases i with
  | admitSlab => apply Laws.RequestFrame.admitSlab
  | findSlab => apply Laws.RequestFrame.findSlab
  | listStock => apply Laws.RequestFrame.listStock
  | moveSlab => apply Laws.RequestFrame.moveSlab
  | holdSlab => apply Laws.RequestFrame.holdSlab
  | releaseSlab => apply Laws.RequestFrame.releaseSlab
  | trimSlab => apply Laws.RequestFrame.trimSlab
  | retireSlab => apply Laws.RequestFrame.retireSlab
  | setRackClass => apply Laws.RequestFrame.setRackClass
  | openJob => apply Laws.RequestFrame.openJob
  | addPiece => apply Laws.RequestFrame.addPiece
  | deletePiece => apply Laws.RequestFrame.deletePiece
  | releasePiece => apply Laws.RequestFrame.releasePiece
  | setJob => apply Laws.RequestFrame.setJob
  | readJob => apply Laws.RequestFrame.readJob
  | closeJob => apply Laws.RequestFrame.closeJob
  | openPlan => apply Laws.RequestFrame.openPlan
  | planAdd => apply Laws.RequestFrame.planAdd
  | planRemove => apply Laws.RequestFrame.planRemove
  | layout => apply Laws.RequestFrame.layout
  | commit => apply Laws.RequestFrame.commit
  | abandon => apply Laws.RequestFrame.abandon
  | readPlanSummary => apply Laws.RequestFrame.readPlanSummary
  | readPlanPieces => apply Laws.RequestFrame.readPlanPieces
  | readPlanStrips => apply Laws.RequestFrame.readPlanStrips
  | readPlanPlacements => apply Laws.RequestFrame.readPlanPlacements
  | readPlanUnfit => apply Laws.RequestFrame.readPlanUnfit
  | stationOnline => apply Laws.RequestFrame.stationOnline
  | stationOffline => apply Laws.RequestFrame.stationOffline
  | setBlade => apply Laws.RequestFrame.setBlade
  | loadSlab => apply Laws.RequestFrame.loadSlab
  | nextCut => apply Laws.RequestFrame.nextCut
  | cutDone => apply Laws.RequestFrame.cutDone
  | setWaterStation => apply Laws.RequestFrame.setWaterStation
  | setWaterArbiter => apply Laws.RequestFrame.setWaterArbiter
  | readWaterStation => apply Laws.RequestFrame.readWaterStation
  | readWaterArbiter => apply Laws.RequestFrame.readWaterArbiter
  | plantStart => apply Laws.RequestFrame.plantStart
  | plantStop => apply Laws.RequestFrame.plantStop
  | plantResetCycle => apply Laws.RequestFrame.plantResetCycle
  | plantSetBufferMode => apply Laws.RequestFrame.plantSetBufferMode
  | plantSet => apply Laws.RequestFrame.plantSet
  | readPlant => apply Laws.RequestFrame.readPlant
  | setMaterialRate => apply Laws.RequestFrame.setMaterialRate
  | setWaterRate => apply Laws.RequestFrame.setWaterRate
  | setMachineRate => apply Laws.RequestFrame.setMachineRate
  | readCost => apply Laws.RequestFrame.readCost
  | clearOverhead => apply Laws.RequestFrame.clearOverhead
  | cutSpoiled => apply Laws.RequestFrame.cutSpoiled
  | breakSlab => apply Laws.RequestFrame.breakSlab
  | cancelJob => apply Laws.RequestFrame.cancelJob
  | readNotices => apply Laws.RequestFrame.readNotices
  | openShop => apply Laws.RequestFrame.openShop
  | closeShop => apply Laws.RequestFrame.closeShop
  | _ => exact nofun

/-- The frame check of a request's kind reads its own frame's body by the widths of its fields. -/
theorem bodyWidths_encodeFields {i : Instr} {k : Nat} {fs : List (Nat × Nat)} (h : requestFields i = some (k, fs)) :
    bodyWidths k (encodeFields fs) = some (fs.map Prod.fst) := by
  obtain ⟨-, -, -, hkind, hform⟩ := requestFrame i k fs h
  unfold bodyWidths
  split
  · rename_i hforms
    obtain ⟨b, hb, hwidths, hhead⟩ := hform hforms
    obtain ⟨rest, rfl⟩ := List.head?_eq_some_iff.mp hhead
    have hbyte : formByte (encodeFields ((1, b) :: rest)) = b := ofBe_be (w := 1) hb
    rw [hbyte, hwidths]
  · rename_i hforms
    rw [hkind (Bool.eq_false_of_not_eq_true hforms)]

/-- Settles O6: the frame passes the checks (`readFrame_eq_request_iff`), its body splits into the request's fields, and these name it. -/
theorem requestRoundTrip : Obligations.RequestRoundTrip := by
  unfold Obligations.RequestRoundTrip
  intro i bytes hwf hbytes
  obtain ⟨k, fs, hfields, rfl⟩ := encodeRequest_eq_some hbytes
  obtain ⟨hfit, hshape⟩ : fieldsFit fs = true ∧ shapeFits i = true := by
    simpa [WellFormed, requestFits, hfields] using hwf
  obtain ⟨hpos, hmax, hsum, -⟩ := requestFrame i k fs hfields
  have hlen := length_encodeFields fs
  have hread : readFrame (be 1 ((fs.map Prod.fst).sum + 1) ++ be 1 k ++ encodeFields fs) = .request i := by
    refine readFrame_eq_request_iff.mpr ⟨k, encodeFields fs, by rw [hlen], hlen.trans_le hsum, hpos, hmax, ?_⟩
    refine readSized_eq_request_iff.mpr ⟨_, bodyWidths_encodeFields hfields, hlen, ?_⟩
    rw [splitFields_encodeFields hfit]
    exact requestOf_fields hfields hshape
  rw [decodeTransaction, hread]

/-- The request that a body is read as has the body's fields, at the widths of its kind or form. -/
theorem requestFields_of_body {k : Nat} {body : List Byte} {ws : List Nat} {i : Instr} (hpos : 1 ≤ k) (hmax : k ≤ 47)
    (hws : bodyWidths k body = some ws) (h : requestOf k (splitFields ws body) = some i) :
    requestFields i = some (k, ws.zip (splitFields ws body)) ∧ shapeFits i = true := by
  unfold bodyWidths at hws
  split at hws
  · exact requestFields_of_form hws h
  · rename_i hforms
    cases hws
    exact requestFields_of_kind hpos hmax (Bool.eq_false_of_not_eq_true hforms) h

/-- Settles O7: the request has the fields that its body splits into, and these spell the body again (`encodeFields_splitFields`). -/
theorem frameSpellsOneRequest : Obligations.FrameSpellsOneRequest := by
  unfold Obligations.FrameSpellsOneRequest
  intro i bytes hread
  obtain ⟨k, body, rfl, -, hpos, hmax, hsized⟩ := readFrame_eq_request_iff.mp hread
  obtain ⟨ws, hws, hlen, hrequest⟩ := readSized_eq_request_iff.mp hsized
  obtain ⟨hfields, hshape⟩ := requestFields_of_body hpos hmax hws hrequest
  obtain ⟨hencode, hfit⟩ := encodeFields_splitFields hlen
  constructor
  · simp [WellFormed, requestFits, hfields, hfit, hshape]
  · simp [encodeRequest, hfields, hencode]

end Sys2Proof.Machine
end

section
/-! A step and the queue of waiting commands (O1), and the completion of every command with the queue as it stood (O2). -/

namespace Sys2Proof.Machine

/-- Settles O1: a step is a case split on the queue, and each of its branches is one half of the statement. -/
theorem stepRunsFront : Obligations.StepRunsFront := by
  unfold Obligations.StepRunsFront
  exact ⟨fun _ _ _ => rfl, fun _ => rfl⟩

/-! ## Every command completes -/

/-- Each arm of `exec` serves a request, which always answers, or takes an event, which always has a next state. -/
theorem exec_completes (i : Instr) (s : State) : ∃ t, exec i s = .next t := by
  cases i <;> exact ⟨_, rfl⟩

/-! ## The queue stands -/

/-- The marks of a request's transaction leave the queue, and so does its block's work. -/
theorem Taken.pending_eq {s t : State} {size : Nat} (h : Taken s size t) : t.pending = s.pending := by
  obtain ⟨r, hr, rfl⟩ := h
  exact hr.moves.2

theorem MovesLink.pending_next {s u t : State} (h : MovesLink s u) (hexec : (.next u : Host.Outcome State Fault Refusal) = .next t) :
    t.pending = s.pending := by
  cases hexec
  exact h.2

theorem answerBadFrame_pending (bytes : List Byte) (s : State) : (answerBadFrame bytes s).pending = s.pending := by
  unfold answerBadFrame
  split
  · rfl
  · rfl
  · rfl
  · rfl
  · rename_i plan _
    obtain ⟨q, hq, -⟩ := withPlan_refuses plan (takeFrame bytes.length s)
    rw [answerFrame, hq]
    rfl
  · rfl

theorem discardRequest_pending (n : Nat) (s : State) : (discardRequest n s).pending = s.pending := by
  unfold discardRequest
  split <;> rfl

/-- An event leaves the queue: by its moves (`MovesLink`), as a transaction without a request, or as no record of the part (R188). -/
theorem exec_event_pending {i : Instr} {s t : State} (hi : requestFields i = none) (hexec : exec i s = .next t) :
    t.pending = s.pending := by
  cases i with
  | badFrame bytes =>
    cases hexec
    exact answerBadFrame_pending bytes s
  | responseRead n =>
    cases hexec
    rfl
  | requestDiscarded n =>
    cases hexec
    exact discardRequest_pending n s
  | reset =>
    cases hexec
    rfl
  | powerOn =>
    cases hexec
    rfl
  | sampleTick spin => exact (sampleAll_movesLink spin s).pending_next hexec
  | decisecondTick sump settling clean cloudy => exact (decisecond_movesLink sump settling clean cloudy s).pending_next hexec
  | dryRun st => exact (takeDryRun_movesLink st s).pending_next hexec
  | bladeLife st => exact (takeBladeLife_movesLink st s).pending_next hexec
  | holdTimerExpiry st => exact (expireHold_movesLink st s).pending_next hexec
  | plantTick => exact (plantTick_movesLink s).pending_next hexec
  | fillTimeout => exact (timeoutTest_movesLink s).pending_next hexec
  | doseEnd => exact (doseEnd_movesLink s).pending_next hexec
  | settleEnd => exact (settleEnd_movesLink s).pending_next hexec
  | sludgeEnd => exact (sludgeEnd_movesLink s).pending_next hexec
  | engineTake => exact (takeHead_movesLink s).pending_next hexec
  | layoutComplete => exact (completeComputation_movesLink s).pending_next hexec
  | _ => cases hi

theorem exec_pending {i : Instr} {s t : State} (hexec : exec i s = .next t) : t.pending = s.pending := by
  cases hi : requestFields i with
  | none => exact exec_event_pending hi hexec
  | some f => exact (exec_request hi hexec).pending_eq

/-- Settles O2: every command has a next state (`exec_completes`), and none touches the queue (`exec_pending`). -/
theorem everyCommandCompletes : Obligations.EveryCommandCompletes := by
  unfold Obligations.EveryCommandCompletes
  intro i s
  obtain ⟨t, ht⟩ := exec_completes i s
  exact ⟨t, ht, exec_pending ht⟩

end Sys2Proof.Machine
end
